-- ==== Sys2Proof/Word.lean ====
section
/-! DEFINITION. The byte that the controller port and the island bus carry, and the decimal digit strings
of card numbers and prompt values. Quantities (millilitres, cents, periods) are natural numbers or integers:
the manual's conventions make every quantity an integer with a stated range. -/

namespace Sys2Proof

/-- A byte of a controller-port frame or of an island-bus message (00_scope, Conventions). -/
abbrev Byte := BitVec 8

/-- A card number as it was sent: one entry for each counted half-byte, first digit first (R203).
Which of them are card numbers of 12 to 19 decimal digits is `Pan.isValid` of Machine/Operands.lean. -/
abbrev Pan := List Nat

end Sys2Proof
end

