-- ==== Sys2Proof/Config.lean ====
section
/-! DEFINITION. What is fixed for the part: the sizes of its tables, its fixed addresses and reset interval
codes, and the FREE values of this model, which have no body: the order the manual does not fix, and how far the part's
own transfer had come where a row that ends it does not say. -/

namespace Sys2Proof.Config

/-- Interval code of the decision timer after reset, 20 s (R15, R198). -/
def resetDecisionCode : Nat := 110
/-- Interval code of the lift timer after reset, 120 s (R19, R198). -/
def resetLiftCode : Nat := 192
/-- Interval code of the no-flow timer after reset, 60 s (R77, R198). -/
def resetNoFlowCode : Nat := 150
/-- Interval code of the idle-end timer after reset, 30 s (section 1.8, R198). -/
def resetIdleEndCode : Nat := 120
/-- Interval code of the hold timer after reset, 300 s (R140, R198). -/
def resetHoldCode : Nat := 210
/-- Interval code of the probe hold timer after reset, 3.0 s (R130, R198). -/
def resetProbeHoldCode : Nat := 30
/-- Settle count after reset (R79, R198). -/
def resetSettleCount : Nat := 10

/-- The program table holds at most 32 entries (R36). -/
def programSlots : Nat := 32
/-- The deny set holds at most 1024 PANs (R42). -/
def denySlots : Nat := 1024
/-- The reference temperature, 15.0 °C in tenths (00_scope, Conventions). -/
def referenceTemperature : Int := 150
/-- A period counter saturates here (R101). -/
def counterTop : Nat := 4095
/-- The pulse total P saturates here (R106). -/
def pulseTop : Nat := 4294967295
/-- The compensated accumulator C saturates here (R107). -/
def accumulatorTop : Nat := 18446744073709551615
/-- The amount of a tally entry saturates here (R59). -/
def tallyAmountTop : Nat := 99999999
/-- The FETCH code (section 10.8, Frames). -/
def fetchCode : Byte := 0xF0#8
/-- The port's receive buffer keeps this many bytes (R190). -/
def portBufferSize : Nat := 253
/-- The island bus receive buffer keeps this many bytes (R169). -/
def islandBufferSize : Nat := 64

/-- FREE VALUE (DESIGN CHOICE, notes/assumptions/5.md). Where the manual gives no order for things that one step
does one after another and the order can be seen, the `k`-th item of the `draw`-th such choice takes its turn by
this rank. It has no body, so no proof can know it. -/
opaque turn : Nat → Nat → Nat

/-- FREE VALUE (DESIGN CHOICE, notes/assumptions/16.md). How many bytes of the part's own transfer had gone out whole
when a START, a STOP or the bus-stuck timer broke it off, at the `draw`-th free choice: those rows carry no number. It
has no body, so no proof can know it. -/
opaque wholeBytes : Nat → Nat

end Sys2Proof.Config
end

