-- ==== Sys2Proof/Syntax.lean ====
section
/-! DEFINITION. The commands and events of the FA-832, one constructor of `Instr` for each row of
spec/opcode_table.json, with the parameters each carries (section 10.8, Formats). A host command's constructor is
the moment the owning block takes the command (R192). An enumerated field whose value the tables do not list (R203)
is `none` or `unlisted`. -/

namespace Sys2Proof

/-- The product classes (R86). -/
inductive FuelClass where
  | roadDiesel | defFluid | reefer
deriving DecidableEq, Repr

/-- The point roles (R62). -/
inductive Role where
  | master | satellite | aux
deriving DecidableEq, Repr

/-- The volume an allowance is measured in (R86). -/
inductive Basis where
  | gross | compensated
deriving DecidableEq, Repr

/-- The kinds of a limit (section 1.1). -/
inductive LimitKind where
  | volume | amount
deriving DecidableEq, Repr

/-- The prompt types (section 1.1). -/
inductive PromptType where
  | driverId | vehicleId | odometer | trailerId
deriving DecidableEq, Repr

/-- A program's stand-in mode (section 2.1). -/
inductive StandinMode where
  | never | offline | offlineAndTimeout
deriving DecidableEq, Repr

/-- The link state (R45). -/
inductive LinkState where
  | online | offline
deriving DecidableEq, Repr

/-- One value for each class (section 2.1). -/
structure PerClass where
  roadDiesel : Nat
  defFluid : Nat
  reefer : Nat
deriving DecidableEq, Repr

/-- A limit entry of DECIDE or OPEN_GRANT; `kind` is `none` for a value the tables do not list. -/
structure LimitEntry where
  line : Nat
  kind : Option LimitKind
  value : Nat
deriving DecidableEq, Repr

/-- The verdict of a DECIDE (R12). -/
inductive Verdict where
  | approve (entries : List LimitEntry)
  | decline (code : Nat)
  | unlisted
deriving DecidableEq, Repr

/-- The program entry a PROGRAM_PUT carries (section 2.1). -/
structure ProgramArg where
  id : Nat
  low : Nat
  high : Nat
  classes : BitVec 3
  dualSide : Option Bool
  prompts : BitVec 4
  ceilings : PerClass
  mode : Option StandinMode
  limits : PerClass
  countLimit : Nat
deriving DecidableEq, Repr

/-- What POINT_SET gives a point (R63). -/
inductive PointArg where
  | clear
  | set (role : Role) (line k threshold creep : Nat)
  | unlisted
deriving DecidableEq, Repr

/-- The configuration fields LINE_SET carries for a class other than NONE (R88). -/
structure LineFields where
  ceiling : Nat
  slowMargin : Nat
  closeLead : Nat
  alpha : Nat
  basis : Option Basis
  fullDuty : Nat
  slowDuty : Nat
  startDelay : Nat
  runOn : Nat
  probe : Option Bool
deriving DecidableEq, Repr

/-- What LINE_SET gives a line (R88). -/
inductive LineArg where
  | clear
  | set (fuel : FuelClass) (fields : LineFields)
  | unlisted
deriving DecidableEq, Repr

/-- The four half-bytes of a YYMM value, year then month. -/
structure Yymm where
  y1 : Nat
  y2 : Nat
  m1 : Nat
  m2 : Nat
deriving DecidableEq, Repr

/-- A prompt of a card request: its type (`none` for a value the tables do not list) and its digits. -/
structure Prompt where
  kind : Option PromptType
  digits : List Nat
deriving DecidableEq, Repr

/-- The contents of an AUTH_REQUEST whose declared length agrees with its contents (R183, R204). -/
structure AuthRequest where
  pan : Pan
  expiry : Yymm
  lines : BitVec 4
  prompts : List Prompt
deriving DecidableEq, Repr

/-- The seven timer settings of TIMERS_SET (R199). -/
structure TimerSettings where
  decision : Nat
  lift : Nat
  noFlow : Nat
  idleEnd : Nat
  hold : Nat
  probeHold : Nat
  settle : Nat
deriving DecidableEq, Repr

/-- What ends a terminal's write (R169). -/
inductive WriteEnd where
  | repeatedStart | stop
deriving DecidableEq, Repr

/-- The two edges of SCS (R187): its fall begins a selection, in which its rise ends with these complete bytes. -/
inductive ScsEdge where
  | fall
  | rise (bytes : List Byte)
deriving DecidableEq, Repr

/-- Where a lost arbitration fell (R181): in the address byte, the winner's then being `winner`, or after it, with
`complete` data bytes of the part's own sent whole. -/
inductive ArbitrationLoss where
  | address (winner : Byte)
  | data (complete : Nat)
deriving DecidableEq, Repr

/-- The commands and events of spec/opcode_table.json, in the table's order. -/
inductive Instr where
  /-- RESET: power-on, or assertion and release of RESET. -/
  | reset
  /-- SERVICE (R11). -/
  | service
  /-- DECIDE (R12): the tag and the verdict. -/
  | decide (tag : Nat) (verdict : Verdict)
  /-- OPEN_GRANT (R9): the lane and the limit entries. -/
  | openGrant (lane : Nat) (entries : List LimitEntry)
  /-- READ_GRANT (R33). -/
  | readGrant (tag : Nat)
  /-- HOLD (R141). -/
  | hold (tag : Nat)
  /-- RESUME (R143). -/
  | resume (tag : Nat)
  /-- STOP (R27). -/
  | stop (tag : Nat)
  /-- COLLECT (R34). -/
  | collect
  /-- PROGRAM_PUT (R37). -/
  | programPut (entry : ProgramArg)
  /-- PROGRAM_DROP (R39). -/
  | programDrop (id : Nat)
  /-- PROGRAM_READ (R40). -/
  | programRead (index : Nat)
  /-- DENY_ADD (R43). -/
  | denyAdd (pan : Pan)
  /-- DENY_DROP (R44). -/
  | denyDrop (pan : Pan)
  /-- DENY_TEST (R44). -/
  | denyTest (pan : Pan)
  /-- DENY_CLEAR (R44). -/
  | denyClear
  /-- TALLY_READ (R60). -/
  | tallyRead (position : Nat)
  /-- TALLY_DROP (R61). -/
  | tallyDrop (pan : Pan)
  /-- TALLY_CLEAR (R61). -/
  | tallyClear
  /-- POINT_SET (R64). -/
  | pointSet (point : Nat) (arg : PointArg)
  /-- POINT_READ (R66). -/
  | pointRead (point : Nat)
  /-- POINT_ENABLE (R139). -/
  | pointEnable (point : Nat)
  /-- LINE_SET (R89). -/
  | lineSet (line : Nat) (arg : LineArg)
  /-- LINE_READ (R92). -/
  | lineRead (line : Nat)
  /-- PRICE_SET (R90). -/
  | priceSet (line price : Nat)
  /-- LINE_RESTORE (R151). -/
  | lineRestore (line : Nat)
  /-- PROBE_SET (R128). -/
  | probeSet (line : Nat) (offset : Int) (span : Nat)
  /-- SITE_HALT (R158). -/
  | siteHalt
  /-- SITE_RESUME (R159). -/
  | siteResume
  /-- LINK_SET (R45); `none` for a value that names neither state. -/
  | linkSet (link : Option LinkState)
  /-- DATE_SET (R46); `none` is the mark UNSET. -/
  | dateSet (date : Option Yymm)
  /-- TIMERS_SET (R199). -/
  | timersSet (settings : TimerSettings)
  /-- STATUS_READ (R200). -/
  | statusRead
  /-- EVENT_READ (R208). -/
  | eventRead
  /-- EVENT_MASK (R209): the two mask bytes as a number. -/
  | eventMask (mask : Nat)
  /-- COMMAND_FRAME (R188, R190): the fall of SCS that begins a selection, or the rise of SCS at which its complete
  bytes are taken. -/
  | commandFrame (edge : ScsEdge)
  /-- COMMAND_COMPLETION (R193). -/
  | commandCompletion
  /-- FETCH (R195): the fetch selection that ends with this many bytes clocked out after the status byte. -/
  | fetch (clocked : Nat)
  /-- LIFT (R70): a filtered nozzle lift of a point. -/
  | lift (point : Fin 32)
  /-- HANG_UP (R74): a filtered nozzle hang-up of a point. -/
  | hangUp (point : Fin 32)
  /-- PULSER_STEP (R100): the pulser of a point now shows this phase. -/
  | pulserStep (point : Fin 32) (phase : Fin 4)
  /-- ESTOP_ASSERTION (R153). -/
  | estopAssertion
  /-- ESTOP_RELEASE (R153). -/
  | estopRelease
  /-- PERIOD_END (R104) of a point. -/
  | periodEnd (point : Fin 32)
  /-- DECISION_TIMER_EXPIRY (R15) of the grant with this tag. -/
  | decisionTimerExpiry (tag : Nat)
  /-- LIFT_TIMER_EXPIRY (R22) of the grant with this tag. -/
  | liftTimerExpiry (tag : Nat)
  /-- IDLE_END_TIMER_EXPIRY (R23) of the grant with this tag. -/
  | idleEndTimerExpiry (tag : Nat)
  /-- HOLD_TIMER_EXPIRY (R144) of the grant with this tag. -/
  | holdTimerExpiry (tag : Nat)
  /-- NO_FLOW_TIMER_EXPIRY (R78) of a point. -/
  | noFlowTimerExpiry (point : Fin 32)
  /-- START_TIMER_EXPIRY (R95) of a line. -/
  | startTimerExpiry (line : Fin 4)
  /-- RUN_ON_TIMER_EXPIRY (R96) of a line. -/
  | runOnTimerExpiry (line : Fin 4)
  /-- PROBE_HOLD_TIMER_EXPIRY (R130) of a line. -/
  | probeHoldTimerExpiry (line : Fin 4)
  /-- CONVERSION_COMPLETION (R129) with its 10-bit code. -/
  | conversionCompletion (code : Nat)
  /-- DUTY_IN_FORCE_CHANGE (R82): the next PWM period of a point's valve begins. -/
  | dutyInForceChange (point : Fin 32)
  /-- START_CONDITION (R166): a START of another party on the island bus. -/
  | startCondition
  /-- STOP_CONDITION (R165): a STOP on the island bus. -/
  | stopCondition
  /-- WRITE_PHASE_END (R169): the complete data bytes of the write, and what ended it. -/
  | writePhaseEnd (bytes : List Byte) (ending : WriteEnd)
  /-- AUTH_REQUEST (R47): the Screening Unit takes a lane's card request; `none` is a message whose declared
  length disagrees with its contents (R204). -/
  | authRequest (lane : Fin 8) (request : Option AuthRequest)
  /-- CANCEL (R28): the Grant Manager takes a lane's cancel. -/
  | cancel (lane : Fin 8) (tag : Nat)
  /-- REPLY_READ (R173): how many bytes the terminal clocks in its read. -/
  | replyRead (clocked : Nat)
  /-- BUS_STUCK_TIMER_EXPIRY (R166). -/
  | busStuckTimerExpiry
  /-- RETRY_WAIT_END (R179) of a lane. -/
  | retryWaitEnd (lane : Fin 8)
  /-- NOTICE_TRANSFER_START (R178): both lines are high and the IBI chooses its next transfer. -/
  | noticeTransferStart
  /-- LANE_NOTICE_TRANSFER_END (R179): the byte that was NAKed, 0 being the address byte; `none` when every byte was
  acknowledged. -/
  | laneNoticeTransferEnd (nak : Option Nat)
  /-- GENERAL_CALL_TRANSFER_END (R180). -/
  | generalCallTransferEnd
  /-- ARBITRATION_LOSS (R181): where the loss fell. -/
  | arbitrationLoss (loss : ArbitrationLoss)
  /-- ADDRESS_BYTE (R165): a complete address byte after a START or repeated START. -/
  | addressByte (byte : Byte)
deriving DecidableEq, Repr

end Sys2Proof
end

