-- ==== Sys2Proof/Decode.lean ====
section
/-! DEFINITION. Reading bytes: the fields of section 10.8 and R203, the port's sorting of a command frame into a
command (R191), the AUTH_REQUEST message (R204), the encoder of command frames, and the table's words. -/

namespace Sys2Proof

/-! ### Bytes and fields -/

/-- The exclusive-OR of all bytes that precede the check byte (00_scope, Check byte). -/
def checkByte (bytes : List Byte) : Byte :=
  bytes.foldl (fun acc b => acc ^^^ b) 0#8

/-- Whether the last byte is the check byte of those before it. -/
def checkGood (bytes : List Byte) : Bool :=
  match bytes.getLast? with
  | some c => checkByte bytes.dropLast == c
  | none => false

/-- A byte holding a number below 256. -/
def byteOf (n : Nat) : Byte := BitVec.ofNat 8 n

/-- A multi-byte integer is sent most significant byte first (section 10.8). -/
def natOfBytes (bytes : List Byte) : Nat :=
  bytes.foldl (fun n b => n * 256 + b.toNat) 0

/-- A number as `k` bytes, most significant first; what the field cannot hold is cut off here, and saturated by the
formats that return it (R202). -/
def bytesOfNat : Nat → Nat → List Byte
  | 0, _ => []
  | k + 1, n => bytesOfNat k (n / 256) ++ [byteOf (n % 256)]

/-- A marked field of 16 bits is two's complement (section 10.8). -/
def signed16 (n : Nat) : Int :=
  if n < 32768 then (n : Int) else (n : Int) - 65536

/-- The half-bytes of packed decimal, the first digit in the high half (section 10.8). -/
def halves : List Byte → List Nat
  | [] => []
  | b :: rest => b.toNat / 16 :: b.toNat % 16 :: halves rest

/-- Digits packed two to a byte into `k` bytes, the halves after the last digit filled with 0xF (section 10.8). -/
def packDigits : Nat → List Nat → List Byte
  | 0, _ => []
  | k + 1, [] => 0xFF#8 :: packDigits k []
  | k + 1, [a] => byteOf (a * 16 + 15) :: packDigits k []
  | k + 1, a :: b :: rest => byteOf (a * 16 + b) :: packDigits k rest

/-- A PAN is a digit count and ten bytes of packed decimal; the halves after the last counted digit are not
examined (R203). -/
def panOfBytes (bytes : List Byte) : Pan :=
  (halves bytes.tail).take (bytes.headD 0#8).toNat

/-- The eleven bytes of a PAN (section 10.8). -/
def bytesOfPan (pan : Pan) : List Byte :=
  byteOf pan.length :: packDigits 10 pan

/-- A YYMM value is two bytes of packed decimal, year then month (section 10.8). -/
def yymmOfBytes (y m : Byte) : Yymm :=
  { y1 := y.toNat / 16, y2 := y.toNat % 16, m1 := m.toNat / 16, m2 := m.toNat % 16 }

/-- The two bytes of a YYMM value. -/
def bytesOfYymm (d : Yymm) : List Byte :=
  [byteOf (d.y1 * 16 + d.y2), byteOf (d.m1 * 16 + d.m2)]

/-! ### Enumerations (section 10.8); a value the tables do not list gives none (R203) -/

def limitKindOfByte (b : Byte) : Option LimitKind :=
  if b = 1#8 then some .volume else if b = 2#8 then some .amount else none

def byteOfLimitKind : Option LimitKind → Byte
  | some .volume => 1#8
  | some .amount => 2#8
  | none => 0#8

def yesNoOfByte (b : Byte) : Option Bool :=
  if b = 0#8 then some false else if b = 1#8 then some true else none

def byteOfYesNo : Option Bool → Byte
  | some false => 0#8
  | some true => 1#8
  | none => 2#8

def standinModeOfByte (b : Byte) : Option StandinMode :=
  if b = 0#8 then some .never
  else if b = 1#8 then some .offline
  else if b = 2#8 then some .offlineAndTimeout
  else none

def byteOfStandinMode : Option StandinMode → Byte
  | some .never => 0#8
  | some .offline => 1#8
  | some .offlineAndTimeout => 2#8
  | none => 3#8

def basisOfByte (b : Byte) : Option Basis :=
  if b = 1#8 then some .gross else if b = 2#8 then some .compensated else none

def byteOfBasis : Option Basis → Byte
  | some .gross => 1#8
  | some .compensated => 2#8
  | none => 0#8

def linkOfByte (b : Byte) : Option LinkState :=
  if b = 0#8 then some .online else if b = 1#8 then some .offline else none

def byteOfLink : Option LinkState → Byte
  | some .online => 0#8
  | some .offline => 1#8
  | none => 2#8

def promptTypeOfByte (b : Byte) : Option PromptType :=
  if b = 1#8 then some .driverId
  else if b = 2#8 then some .vehicleId
  else if b = 3#8 then some .odometer
  else if b = 4#8 then some .trailerId
  else none

def byteOfPromptType : Option PromptType → Byte
  | some .driverId => 1#8
  | some .vehicleId => 2#8
  | some .odometer => 3#8
  | some .trailerId => 4#8
  | none => 0#8

def byteOfRole : Role → Byte
  | .master => 1#8
  | .satellite => 2#8
  | .aux => 3#8

def byteOfFuel : FuelClass → Byte
  | .roadDiesel => 1#8
  | .defFluid => 2#8
  | .reefer => 3#8

/-! ### Command frames -/

/-- What the port makes of a frame that passed the framing checks (R191). -/
inductive Sorted where
  | command (i : Instr)
  | unknown
  | badShape
deriving DecidableEq, Repr

/-- The limit entries of DECIDE and OPEN_GRANT, six bytes each (section 10.8). -/
def limitEntriesOfBytes : List Byte → Option (List LimitEntry)
  | [] => some []
  | l :: k :: a :: b :: c :: d :: rest =>
    (limitEntriesOfBytes rest).map
      ({ line := l.toNat, kind := limitKindOfByte k, value := natOfBytes [a, b, c, d] } :: ·)
  | _ => none

/-- The six bytes of a limit entry. -/
def bytesOfLimitEntry (e : LimitEntry) : List Byte :=
  byteOf e.line :: byteOfLimitKind e.kind :: bytesOfNat 4 e.value

/-- A count byte and that many limit entries. -/
def countedEntries : List Byte → Option (List LimitEntry)
  | [] => none
  | m :: rest =>
    match limitEntriesOfBytes rest with
    | some entries => if entries.length = m.toNat then some entries else none
    | none => none

/-- The parameters of DECIDE. The shape of an unlisted verdict is not fixed by the tables; its owner refuses it with
the same BAD_PARAM (R203). -/
def decideOfBytes : List Byte → Sorted
  | tag :: verdict :: rest =>
    if verdict = 1#8 then
      match countedEntries rest with
      | some entries => .command (.decide tag.toNat (.approve entries))
      | none => .badShape
    else if verdict = 2#8 then
      match rest with
      | [code] => .command (.decide tag.toNat (.decline code.toNat))
      | _ => .badShape
    else .command (.decide tag.toNat .unlisted)
  | _ => .badShape

/-- The parameters of OPEN_GRANT. -/
def openGrantOfBytes : List Byte → Sorted
  | lane :: rest =>
    match countedEntries rest with
    | some entries => .command (.openGrant lane.toNat entries)
    | none => .badShape
  | _ => .badShape

/-- A field of a fixed layout: `n` bytes from offset `at`. -/
def fieldAt (bytes : List Byte) (offset n : Nat) : Nat :=
  natOfBytes ((bytes.drop offset).take n)

/-- One byte of a fixed layout. -/
def byteAt (bytes : List Byte) (offset : Nat) : Byte :=
  bytes.getD offset 0#8

/-- The program entry of 32 bytes (section 10.8). -/
def programOfBytes (p : List Byte) : ProgramArg where
  id := fieldAt p 0 1
  low := fieldAt p 1 4
  high := fieldAt p 5 4
  classes := (byteAt p 9).setWidth 3
  dualSide := yesNoOfByte (byteAt p 10)
  prompts := (byteAt p 11).setWidth 4
  ceilings := { roadDiesel := fieldAt p 12 3, defFluid := fieldAt p 15 3, reefer := fieldAt p 18 3 }
  mode := standinModeOfByte (byteAt p 21)
  limits := { roadDiesel := fieldAt p 22 3, defFluid := fieldAt p 25 3, reefer := fieldAt p 28 3 }
  countLimit := fieldAt p 31 1

/-- The three values of a field given per class, in class order. -/
def bytesOfPerClass (v : PerClass) : List Byte :=
  bytesOfNat 3 v.roadDiesel ++ bytesOfNat 3 v.defFluid ++ bytesOfNat 3 v.reefer

/-- The 32 bytes of a program entry (section 10.8). -/
def bytesOfProgram (e : ProgramArg) : List Byte :=
  [byteOf e.id] ++ bytesOfNat 4 e.low ++ bytesOfNat 4 e.high
    ++ [e.classes.setWidth 8, byteOfYesNo e.dualSide, e.prompts.setWidth 8]
    ++ bytesOfPerClass e.ceilings ++ [byteOfStandinMode e.mode] ++ bytesOfPerClass e.limits
    ++ [byteOf e.countLimit]

/-- The role and fields of POINT_SET; with role NONE there are 2 or 7 bytes (section 10.8). -/
def pointSetOfBytes : List Byte → Sorted
  | [point, role] => if role = 0#8 then .command (.pointSet point.toNat .clear) else .badShape
  | [point, role, line, k1, k0, threshold, creep] =>
    .command (.pointSet point.toNat
      (if role = 0#8 then .clear
       else if role = 1#8 then .set .master line.toNat (natOfBytes [k1, k0]) threshold.toNat creep.toNat
       else if role = 2#8 then .set .satellite line.toNat (natOfBytes [k1, k0]) threshold.toNat creep.toNat
       else if role = 3#8 then .set .aux line.toNat (natOfBytes [k1, k0]) threshold.toNat creep.toNat
       else .unlisted))
  | _ => .badShape

/-- The role and fields of POINT_SET as bytes. -/
def bytesOfPointArg : PointArg → List Byte
  | .clear => [0#8]
  | .set role line k threshold creep =>
    [byteOfRole role, byteOf line] ++ bytesOfNat 2 k ++ [byteOf threshold, byteOf creep]
  | .unlisted => [0xFF#8, 0#8, 0#8, 0#8, 0#8, 0#8]

/-- The line configuration of 15 bytes, whose last byte is fill (section 10.8). -/
def lineFieldsOfBytes (p : List Byte) : LineFields where
  ceiling := fieldAt p 0 3
  slowMargin := fieldAt p 3 2
  closeLead := fieldAt p 5 1
  alpha := fieldAt p 6 2
  basis := basisOfByte (byteAt p 8)
  fullDuty := fieldAt p 9 1
  slowDuty := fieldAt p 10 1
  startDelay := fieldAt p 11 1
  runOn := fieldAt p 12 1
  probe := yesNoOfByte (byteAt p 13)

/-- The first fourteen bytes of the line configuration. -/
def bytesOfLineFields (f : LineFields) : List Byte :=
  bytesOfNat 3 f.ceiling ++ bytesOfNat 2 f.slowMargin ++ [byteOf f.closeLead] ++ bytesOfNat 2 f.alpha
    ++ [byteOfBasis f.basis, byteOf f.fullDuty, byteOf f.slowDuty, byteOf f.startDelay, byteOf f.runOn,
        byteOfYesNo f.probe]

/-- The class and fields of LINE_SET; with class NONE there are 2 or 17 bytes (section 10.8). -/
def lineSetOfBytes : List Byte → Sorted
  | line :: fuel :: rest =>
    if rest.length = 15 then
      .command (.lineSet line.toNat
        (if fuel = 0#8 then .clear
         else if fuel = 1#8 then .set .roadDiesel (lineFieldsOfBytes rest)
         else if fuel = 2#8 then .set .defFluid (lineFieldsOfBytes rest)
         else if fuel = 3#8 then .set .reefer (lineFieldsOfBytes rest)
         else .unlisted))
    else if rest.length = 0 ∧ fuel = 0#8 then .command (.lineSet line.toNat .clear)
    else .badShape
  | _ => .badShape

/-- The class and fields of LINE_SET as bytes; the fill byte is sent as 0. -/
def bytesOfLineArg : LineArg → List Byte
  | .clear => [0#8]
  | .set fuel fields => byteOfFuel fuel :: bytesOfLineFields fields ++ [0#8]
  | .unlisted => 0xFF#8 :: List.replicate 15 0#8

/-- A command with no parameters. -/
def bare (i : Instr) : List Byte → Sorted
  | [] => .command i
  | _ => .badShape

/-- A command with one parameter byte. -/
def one (f : Nat → Instr) : List Byte → Sorted
  | [b] => .command (f b.toNat)
  | _ => .badShape

/-- A command whose parameters are a PAN of 11 bytes. -/
def panned (f : Pan → Instr) (p : List Byte) : Sorted :=
  if p.length = 11 then .command (f (panOfBytes p)) else .badShape

/-- The port's sorting of a frame that passed the framing checks: the code, then the parameter shape (R191, and the
command list of section 10.8). -/
def sortCommand (code : Byte) (p : List Byte) : Sorted :=
  match code.toNat with
  | 0x10 => bare .service p
  | 0x11 => decideOfBytes p
  | 0x12 => openGrantOfBytes p
  | 0x13 => one .readGrant p
  | 0x14 => one .hold p
  | 0x15 => one .resume p
  | 0x16 => one .stop p
  | 0x17 => bare .collect p
  | 0x20 => if p.length = 32 then .command (.programPut (programOfBytes p)) else .badShape
  | 0x21 => one .programDrop p
  | 0x22 => one .programRead p
  | 0x23 => panned .denyAdd p
  | 0x24 => panned .denyDrop p
  | 0x25 => panned .denyTest p
  | 0x26 => bare .denyClear p
  | 0x27 => one .tallyRead p
  | 0x28 => panned .tallyDrop p
  | 0x29 => bare .tallyClear p
  | 0x30 => pointSetOfBytes p
  | 0x31 => one .pointRead p
  | 0x32 => one .pointEnable p
  | 0x33 => lineSetOfBytes p
  | 0x34 => one .lineRead p
  | 0x35 =>
    match p with
    | [line, a, b, c] => .command (.priceSet line.toNat (natOfBytes [a, b, c]))
    | _ => .badShape
  | 0x36 => one .lineRestore p
  | 0x37 =>
    match p with
    | [line, o1, o0, s1, s0] =>
      .command (.probeSet line.toNat (signed16 (natOfBytes [o1, o0])) (natOfBytes [s1, s0]))
    | _ => .badShape
  | 0x40 => bare .siteHalt p
  | 0x41 => bare .siteResume p
  | 0x42 =>
    match p with
    | [b] => .command (.linkSet (linkOfByte b))
    | _ => .badShape
  | 0x43 =>
    match p with
    | [y, m] =>
      .command (.dateSet (if y = 0xFF#8 ∧ m = 0xFF#8 then none else some (yymmOfBytes y m)))
    | _ => .badShape
  | 0x44 =>
    match p with
    | [a, b, c, d, e, f, g] =>
      .command (.timersSet
        { decision := a.toNat, lift := b.toNat, noFlow := c.toNat, idleEnd := d.toNat,
          hold := e.toNat, probeHold := f.toNat, settle := g.toNat })
    | _ => .badShape
  | 0x45 => bare .statusRead p
  | 0x50 => bare .eventRead p
  | 0x51 =>
    match p with
    | [a, b] => .command (.eventMask (natOfBytes [a, b]))
    | _ => .badShape
  | _ => .unknown

/-- The code and parameter bytes of a host command (section 10.8); an event of the table has none. -/
def encodeCommand : Instr → Option (Byte × List Byte)
  | .service => some (0x10#8, [])
  | .decide tag (.approve entries) =>
    some (0x11#8, byteOf tag :: 1#8 :: byteOf entries.length :: entries.flatMap bytesOfLimitEntry)
  | .decide tag (.decline code) => some (0x11#8, [byteOf tag, 2#8, byteOf code])
  | .decide tag .unlisted => some (0x11#8, [byteOf tag, 0#8])
  | .openGrant lane entries =>
    some (0x12#8, byteOf lane :: byteOf entries.length :: entries.flatMap bytesOfLimitEntry)
  | .readGrant tag => some (0x13#8, [byteOf tag])
  | .hold tag => some (0x14#8, [byteOf tag])
  | .resume tag => some (0x15#8, [byteOf tag])
  | .stop tag => some (0x16#8, [byteOf tag])
  | .collect => some (0x17#8, [])
  | .programPut entry => some (0x20#8, bytesOfProgram entry)
  | .programDrop id => some (0x21#8, [byteOf id])
  | .programRead index => some (0x22#8, [byteOf index])
  | .denyAdd pan => some (0x23#8, bytesOfPan pan)
  | .denyDrop pan => some (0x24#8, bytesOfPan pan)
  | .denyTest pan => some (0x25#8, bytesOfPan pan)
  | .denyClear => some (0x26#8, [])
  | .tallyRead position => some (0x27#8, [byteOf position])
  | .tallyDrop pan => some (0x28#8, bytesOfPan pan)
  | .tallyClear => some (0x29#8, [])
  | .pointSet point arg => some (0x30#8, byteOf point :: bytesOfPointArg arg)
  | .pointRead point => some (0x31#8, [byteOf point])
  | .pointEnable point => some (0x32#8, [byteOf point])
  | .lineSet line arg => some (0x33#8, byteOf line :: bytesOfLineArg arg)
  | .lineRead line => some (0x34#8, [byteOf line])
  | .priceSet line price => some (0x35#8, byteOf line :: bytesOfNat 3 price)
  | .lineRestore line => some (0x36#8, [byteOf line])
  | .probeSet line offset span =>
    some (0x37#8, byteOf line :: bytesOfNat 2 (offset % 65536).toNat ++ bytesOfNat 2 span)
  | .siteHalt => some (0x40#8, [])
  | .siteResume => some (0x41#8, [])
  | .linkSet link => some (0x42#8, [byteOfLink link])
  | .dateSet none => some (0x43#8, [0xFF#8, 0xFF#8])
  | .dateSet (some d) => some (0x43#8, bytesOfYymm d)
  | .timersSet t =>
    some (0x44#8, [byteOf t.decision, byteOf t.lift, byteOf t.noFlow, byteOf t.idleEnd, byteOf t.hold,
      byteOf t.probeHold, byteOf t.settle])
  | .statusRead => some (0x45#8, [])
  | .eventRead => some (0x50#8, [])
  | .eventMask mask => some (0x51#8, bytesOfNat 2 mask)
  | .reset | .commandFrame _ | .commandCompletion | .fetch _ | .lift _ | .hangUp _ | .pulserStep _ _
  | .estopAssertion | .estopRelease | .periodEnd _ | .decisionTimerExpiry _ | .liftTimerExpiry _
  | .idleEndTimerExpiry _ | .holdTimerExpiry _ | .noFlowTimerExpiry _ | .startTimerExpiry _
  | .runOnTimerExpiry _ | .probeHoldTimerExpiry _ | .conversionCompletion _ | .dutyInForceChange _
  | .startCondition | .stopCondition | .writePhaseEnd _ _ | .authRequest _ _ | .cancel _ _ | .replyRead _
  | .busStuckTimerExpiry | .retryWaitEnd _ | .noticeTransferStart | .laneNoticeTransferEnd _
  | .generalCallTransferEnd | .arbitrationLoss _ | .addressByte _ => none

/-- The whole command frame: code, length, parameters, check byte (section 10.8, Frames). -/
def frameOf (code : Byte) (params : List Byte) : List Byte :=
  let body := code :: byteOf params.length :: params
  body ++ [checkByte body]

/-! ### The AUTH_REQUEST message -/

/-- One prompt: a type and four bytes of packed decimal, whose digits end at the first 0xF half
(DEDUCED, notes/assumptions/14.md). -/
def promptOfBytes (kind a b c d : Byte) : Prompt where
  kind := promptTypeOfByte kind
  digits := (halves [a, b, c, d]).takeWhile (· != 15)

/-- The prompts of an AUTH_REQUEST, five bytes each. -/
def promptsOfBytes : List Byte → List Prompt
  | k :: a :: b :: c :: d :: rest => promptOfBytes k a b c d :: promptsOfBytes rest
  | _ => []

/-- The contents of an AUTH_REQUEST message, `none` when its declared length disagrees with the bytes received or with
its own prompt count (R204). -/
def authOfMessage (message : List Byte) : Option AuthRequest :=
  match message with
  | _ :: n :: rest =>
    let contents := rest.dropLast
    if rest.length = contents.length + 1 ∧ n.toNat = contents.length ∧
        n.toNat = 15 + 5 * (byteAt contents 14).toNat then
      some
        { pan := panOfBytes (contents.take 11)
          expiry := yymmOfBytes (byteAt contents 11) (byteAt contents 12)
          lines := (byteAt contents 13).setWidth 4
          prompts := promptsOfBytes (contents.drop 15) }
    else none
  | _ => none

/-! ### The table's words -/

/-- The command a word spells by the bits of spec/opcode_table.json: no row of the table has bits, so none. -/
def decodeTableWord (_nbits _w : Nat) : Option Instr := none

end Sys2Proof
end

