-- ==== Sys2Proof/Machine/State.lean ====
section
/-! DEFINITION. The state of the FA-832, block by block as section "Functional blocks" of 00_scope lists them, with
the level of the input pins that a rule reads, the model's own fields (the output bytes of the last selection and
of the last island transfer, the count of free choices) and the queue of waiting commands; and the state after reset. -/

namespace Sys2Proof.Machine

/-! ### Timers -/

/-- A timer of the part (00_scope, Timers): stopped, running with the ticks left before it expires, or started under
interval code 0, under which it never expires. -/
inductive Timer where
  | stopped
  | running (left : Nat)
  | unlimited
deriving DecidableEq, Repr

/-! ### Grant Manager -/

/-- The end reasons (section 1.1); DECLINED_HOST carries the host's decline code. -/
inductive EndReason where
  | limit | hangupIdle | noFlow | liftTimeout | hostStop | cancelled | halt | holdExpired | compound
  | unauthFlow | lineLockout
  | declinedHost (code : Nat)
  | declinedTimeout
deriving DecidableEq, Repr

/-- The decision sources (section 1.1). -/
inductive Source where
  | host | standinOffline | standinTimeout | attendant
deriving DecidableEq, Repr

/-- The grant states (section 1.4). -/
inductive GrantState where
  | pending | armed | fueling | held | closing | settled
deriving DecidableEq, Repr

/-- The card of a CARD grant (section 1.1). -/
structure Card where
  pan : Pan
  expiry : Yymm
  program : Nat
deriving DecidableEq, Repr

/-- A point record (sections 1.1 and 5.3): the metering of one attached point for one allowance. -/
structure PointRecord where
  point : Fin 32
  k : Nat
  pulses : Nat
  accumulator : Nat
  gross : Nat
  compensated : Nat
  lastIncrement : Nat
deriving DecidableEq, Repr

/-- The fields an allowance takes at arming (section 1.1). -/
structure Armed where
  price : Nat
  basis : Basis
  cap : Nat
  clamped : Bool
  exhausted : Bool
  records : List PointRecord
  volume : Nat
  amount : Nat
  residual : Int
deriving DecidableEq, Repr

/-- An allowance record (section 1.1): `limit` holds a value from approval, `armed` from arming. -/
structure Allowance where
  line : Fin 4
  ceiling : Nat
  limit : Option (LimitKind × Nat)
  armed : Option Armed
deriving DecidableEq, Repr

/-- A grant record (section 1.1) with the four grant timers of section 1.8. An ATTENDANT grant has no card. -/
structure Grant where
  tag : Nat
  lane : Fin 8
  card : Option Card
  prompts : List Prompt
  requested : BitVec 4
  dualSide : Bool
  source : Option Source
  state : GrantState
  served : Bool
  allowances : List Allowance
  attached : List (Fin 32)
  flowed : Bool
  outcome : Option EndReason
  degraded : Bool
  decisionTimer : Timer
  liftTimer : Timer
  idleEndTimer : Timer
  holdTimer : Timer
deriving DecidableEq, Repr

/-- The Grant Manager's table, queues and tag counter (R2, R3, R5, R6). -/
structure GrantManager where
  slots : Vector (Option Grant) 24
  pendingTags : List Nat
  settledTags : List Nat
  tagCounter : Nat
deriving DecidableEq, Repr

/-! ### Screening Unit -/

/-- A program entry as the table holds it (section 2.1). -/
structure Program where
  id : Nat
  low : Nat
  high : Nat
  classes : BitVec 3
  dualSide : Bool
  prompts : BitVec 4
  ceilings : PerClass
  mode : StandinMode
  limits : PerClass
  countLimit : Nat
deriving DecidableEq, Repr

/-- An entry of the stand-in tally (section 2.6). -/
structure TallyEntry where
  pan : Pan
  program : Nat
  count : Nat
  amount : Nat
deriving DecidableEq, Repr

/-- The Screening Unit's five pieces of state (chapter 2). -/
structure ScreeningUnit where
  programs : List Program
  denied : List Pan
  tally : Vector (Option TallyEntry) 128
  link : LinkState
  date : Option Yymm
deriving DecidableEq, Repr

/-! ### Point Interface and the Metering Unit's counters -/

/-- The point states (section 3.3). -/
inductive PointState where
  | disabled | idle | lifted | priming | flowing | slowing | settling | outOfService
deriving DecidableEq, Repr

/-- A point's configuration (R62). -/
structure PointConfig where
  role : Role
  line : Fin 4
  k : Nat
  threshold : Nat
  creepAllowance : Nat
deriving DecidableEq, Repr

/-- A fueling point: what the Point Interface holds of it (R66, R68, R82, R147) and the Metering Unit's counters,
latches and reference phase (R100, R101, R103). -/
structure Point where
  config : Option PointConfig
  state : PointState
  nozzle : Bool
  stageDuty : Nat
  dutyInForce : Nat
  tag : Option Nat
  noFlow : Timer
  settleLeft : Nat
  creep : Nat
  phase : Fin 4
  forward : Nat
  reverse : Nat
  errors : Nat
  latchForward : Nat
  latchReverse : Nat
  latchErrors : Nat
deriving DecidableEq, Repr

/-! ### Line Control -/

/-- The line states (section 4.2). -/
inductive LineState where
  | unconfigured | available | lockedOut
deriving DecidableEq, Repr

/-- The pump states (section 4.4). -/
inductive PumpState where
  | off | on | runOn
deriving DecidableEq, Repr

/-- A line's configuration (R86). -/
structure LineConfig where
  fuel : FuelClass
  ceiling : Nat
  slowMargin : Nat
  closeLead : Nat
  alpha : Nat
  basis : Basis
  fullDuty : Nat
  slowDuty : Nat
  startDelay : Nat
  runOn : Nat
  probe : Bool
deriving DecidableEq, Repr

/-- An entry of the line table with its pump (R86, section 4.4). Bit p of `requesting` stands for point p. -/
structure Line where
  config : Option LineConfig
  price : Nat
  state : LineState
  pump : PumpState
  delayMet : Bool
  startTimer : Timer
  runOnTimer : Timer
  requesting : BitVec 32
deriving DecidableEq, Repr

/-! ### Temperature Unit -/

/-- The probe states (section 6.3). -/
inductive ProbeState where
  | absent | good | holding | reference
deriving DecidableEq, Repr

/-- What the Temperature Unit holds for a line (chapter 6). -/
structure Probe where
  state : ProbeState
  temperature : Int
  offset : Int
  span : Nat
  hold : Timer
  reported : Bool
  inRotation : Bool
deriving DecidableEq, Repr

/-- The conversion in flight (R125), and whether its completion is to be discarded (R126). -/
structure Conversion where
  line : Fin 4
  discard : Bool
deriving DecidableEq, Repr

/-- The Temperature Unit (chapter 6). -/
structure TemperatureUnit where
  probes : Vector Probe 4
  converting : Option Conversion
  lastServed : Fin 4
deriving DecidableEq, Repr

/-! ### Site Supervisor -/

/-- The site states (chapter 8). -/
inductive SiteState where
  | running | halting | halted
deriving DecidableEq, Repr

/-- The Site Supervisor's two pieces of state; `estop` is yes while E-STOP is asserted (R153). -/
structure SiteSupervisor where
  site : SiteState
  estop : Bool
deriving DecidableEq, Repr

/-! ### Island Bus Interface -/

/-- A line and its cap, as DECISION and REPLY carry them (R184, R185). -/
structure Cap where
  line : Fin 4
  cap : Nat
deriving DecidableEq, Repr

/-- A line's totals, as SALE_END carries them (R185). -/
structure SaleLine where
  line : Fin 4
  volume : Nat
  amount : Nat
deriving DecidableEq, Repr

/-- The lane notices (R185). -/
inductive Notice where
  | approved (tag : Nat) (caps : List Cap)
  | declined (tag code : Nat)
  | saleEnd (tag : Nat) (outcome : Option EndReason) (degraded : Bool) (lines : List SaleLine)
deriving DecidableEq, Repr

/-- A SITE_NOTICE (R161): whether its site field is HALTED, and its link field. -/
structure SiteNotice where
  halted : Bool
  link : LinkState
deriving DecidableEq, Repr

/-- The REPLY results (R184). -/
inductive ReplyResult where
  | accepted | approved | format | siteHalted | laneBusy | noSlot | deniedCard | unknownProgram | expired
  | promptMissing | noProduct | standinRefused | tallyFull | cancelOk | notFound | alreadyEnding | noReply
deriving DecidableEq, Repr

/-- A REPLY (R184); tag 0 stands for none. -/
structure Reply where
  result : ReplyResult
  tag : Nat
  caps : List Cap
deriving DecidableEq, Repr

/-- A message a lane's terminal wrote, on its way to the block that answers it (R170); a malformed one is the IBI's own
to answer. -/
inductive LaneMessage where
  | auth (request : Option AuthRequest)
  | cancel (tag : Nat)
  | malformed
deriving DecidableEq, Repr

/-- A lane's message in processing (R172), and whether its answer is discarded because the lane was flushed since
(R171). -/
structure InProcess where
  lane : Fin 8
  message : LaneMessage
  discarded : Bool
deriving DecidableEq, Repr

/-- What the IBI holds for a lane: the reply slot and the notice queue with its attempt count and retry wait
(section 9.4, R172, R176). -/
structure Lane where
  reply : Option Reply
  notices : List Notice
  attempts : Nat
  retryWait : Bool
deriving DecidableEq, Repr

/-- The part's own transfer as master. The mark says whether the notice sent is still the head of its queue, or
still in the general-call slot (R182). -/
inductive Transfer where
  | general (current : Bool)
  | lane (lane : Fin 8) (current : Bool)
deriving DecidableEq, Repr

/-- The IBI states (section 9.1). In BUSY_OTHER the mark says whether an address byte is still to come. -/
inductive BusState where
  | free
  | busyOther (awaiting : Bool)
  | slaveRx (lane : Fin 8)
  | slaveTx (lane : Fin 8)
  | masterTx (transfer : Transfer)
  | stuck
deriving DecidableEq, Repr

/-- The Island Bus Interface (chapter 9). `stretch` is the clock stretch of R174 with the bytes the waiting read
clocks. `inProcess` holds the messages in processing of all lanes, oldest first (R171, R172, R175). `outgoing` holds the
bytes of the part's own transfer in flight (R179, R180). `sent` is the model's own field: the bytes the part put whole on
the bus in its latest transfer that ended or reply. -/
structure IslandBus where
  state : BusState
  busy : Bool
  stuckTimer : Bool
  received : List Byte
  stretch : Option Nat
  lanes : Vector Lane 8
  inProcess : List InProcess
  general : Option SiteNotice
  lastServed : Fin 8
  outgoing : List Byte
  sent : List Byte
deriving DecidableEq, Repr

/-! ### Controller Port -/

/-- The result codes (section 10.8). -/
inductive Result where
  | ok | empty | frameCheck | frameLength | unknownCommand | badParam | badClass | unknownTag | late | wrongState
  | notHeld | alreadyEnding | tableFull | overlap | notFound | pointBusy | lineBusy | lineLocked | halted
  | stillAsserted | noSlot
deriving DecidableEq, Repr

/-- A response: its result and its data bytes (R197). -/
structure Response where
  result : Result
  data : List Byte
deriving DecidableEq, Repr

/-- The port states (section 10.3). -/
inductive PortState where
  | ready | processing | responseReady
deriving DecidableEq, Repr

/-- The selection on the port (R187, R188, R201): none while SCS is high; begun, with the status byte formed at the fall
of SCS; or one that the part ignores, since SCS was low at the release of reset. -/
inductive Selection where
  | released
  | begun (status : Byte)
  | ignored
deriving DecidableEq, Repr

/-- The Controller Port (chapter 10). `held` is the command passed on and not yet taken by its owner, `answer` the
response its owner (or the port) has given before completion (R191 to R193). `response` is the response buffer, whose
being full is RESP_READY. `shifted` is the model's own field: the bytes shifted out in the latest selection. -/
structure ControllerPort where
  state : PortState
  selection : Selection
  received : List Byte
  held : Option Instr
  answer : Option Response
  response : Option Response
  collision : Bool
  timers : TimerSettings
  shifted : List Byte
deriving DecidableEq, Repr

/-! ### Attention Unit -/

/-- The Attention Unit's sticky flags, sets and mask (chapter 11). A sticky flag with a set is set while its set is
not empty (R206); the level flags and ATTN follow other state and are computed (Machine/Flags.lean). -/
structure AttentionUnit where
  pointFault : BitVec 32
  probeFault : BitVec 4
  lineLockout : BitVec 4
  haltComplete : Bool
  busFault : Bool
  terminalSilent : BitVec 8
  tallyFull : Bool
  mask : BitVec 9
deriving DecidableEq, Repr

/-! ### Input pins -/

/-- The input levels a rule reads other than at an event: the nozzle switches and pulser phases that POINT_SET reads
(R64, R100) and the ESTOP level read at the release of reset (R163). They belong to the world and outlast a reset. -/
structure Pins where
  nozzle : Vector Bool 32
  phase : Vector (Fin 4) 32
  estop : Bool
deriving DecidableEq, Repr

/-! ### The whole part -/

/-- The state of the part, block by block; `draws` counts the free choices made (Config.turn, Config.wholeBytes), and
`pending` is the queue of the commands that wait, first in, first out. -/
structure State where
  gm : GrantManager
  su : ScreeningUnit
  points : Vector Point 32
  lines : Vector Line 4
  tu : TemperatureUnit
  ss : SiteSupervisor
  ibi : IslandBus
  cp : ControllerPort
  au : AttentionUnit
  pins : Pins
  draws : Nat
  pending : List Instr
deriving DecidableEq, Repr

/-- The reasons a step could stop with a fault. There are none: the manual gives every command and event of the table
an effect or an answer in every state, so no meaning raises a fault (safe: nothing is stopped that the part runs). -/
inductive Fault where
deriving DecidableEq, Repr

/-- The reasons a step could be refused. -/
inductive Refusal where
  /-- Raised only by an arm of `exec` for a row that has no meaning yet; no arm uses it. Safe: the model stops. -/
  | notModelled (mnemonic : String)
deriving DecidableEq, Repr

/-! ### After reset -/

/-- A point after reset (R85, R123, R152). -/
def Point.atReset : Point where
  config := none
  state := .disabled
  nozzle := false
  stageDuty := 0
  dutyInForce := 0
  tag := none
  noFlow := .stopped
  settleLeft := 0
  creep := 0
  phase := 0
  forward := 0
  reverse := 0
  errors := 0
  latchForward := 0
  latchReverse := 0
  latchErrors := 0

/-- A line after reset (R99). -/
def Line.atReset : Line where
  config := none
  price := 0
  state := .unconfigured
  pump := .off
  delayMet := false
  startTimer := .stopped
  runOnTimer := .stopped
  requesting := 0

/-- A probe after reset (R134). -/
def Probe.atReset : Probe where
  state := .absent
  temperature := 150
  offset := -500
  span := 1500
  hold := .stopped
  reported := false
  inRotation := false

/-- A lane of the island bus after reset (R186). -/
def Lane.atReset : Lane where
  reply := none
  notices := []
  attempts := 0
  retryWait := false

/-- The timer settings after reset (R198). -/
def resetTimers : TimerSettings where
  decision := Config.resetDecisionCode
  lift := Config.resetLiftCode
  noFlow := Config.resetNoFlowCode
  idleEnd := Config.resetIdleEndCode
  hold := Config.resetHoldCode
  probeHold := Config.resetProbeHoldCode
  settle := Config.resetSettleCount

/-- The selection after a reset: one in which SCS is still low is ignored to its end (R201). -/
def Selection.acrossReset : Selection → Selection
  | .released => .released
  | .begun _ => .ignored
  | .ignored => .ignored

/-- The blocks as the release of reset leaves them, with these input pins, this selection, this count of free choices and
this queue (R35, R36, R42, R45, R46, R58, R85, R99, R123, R134, R152, R163, R186, R201, R210). -/
def State.afterReset (pins : Pins) (selection : Selection) (draws : Nat) (pending : List Instr) : State where
  gm :=
    { slots := Vector.replicate 24 none
      pendingTags := []
      settledTags := []
      tagCounter := 0 }
  su :=
    { programs := []
      denied := []
      tally := Vector.replicate 128 none
      link := .online
      date := none }
  points := Vector.replicate 32 Point.atReset
  lines := Vector.replicate 4 Line.atReset
  tu :=
    { probes := Vector.replicate 4 Probe.atReset
      converting := none
      lastServed := 3 }
  ss :=
    { site := if pins.estop then .halted else .running
      estop := pins.estop }
  ibi :=
    { state := .free
      busy := false
      stuckTimer := false
      received := []
      stretch := none
      lanes := Vector.replicate 8 Lane.atReset
      inProcess := []
      general := none
      lastServed := 7
      outgoing := []
      sent := [] }
  cp :=
    { state := .ready
      selection := selection
      received := []
      held := none
      answer := none
      response := none
      collision := false
      timers := resetTimers
      shifted := [] }
  au :=
    { pointFault := 0
      probeFault := 0
      lineLockout := 0
      haltComplete := false
      busFault := false
      terminalSilent := 0
      tallyFull := false
      mask := BitVec.allOnes 9 }
  pins := pins
  draws := draws
  pending := pending

/-- The input pins at power-on (DESIGN CHOICE, notes/assumptions/2.md): every nozzle in its holster, every pulser in
phase 0, the emergency stop released. -/
def Pins.atPowerOn : Pins where
  nozzle := Vector.replicate 32 false
  phase := Vector.replicate 32 0
  estop := false

/-- The part right after reset, with the power-on pins, no selection (notes/assumptions/2.md) and no command waiting. -/
def State.reset : State :=
  State.afterReset Pins.atPowerOn .released 0 []

end Sys2Proof.Machine
end

