-- ==== Sys2Proof/Machine/Ops.lean ====
section
/-! DEFINITION. Reading and writing the tables of the state, the timers, the order of free choices, and the taking of
a host command and its answer. Every meaning goes through these. -/

namespace Sys2Proof.Machine

/-! ### Tables -/

/-- The 32 points, the 8 lanes, the 4 lines and the 24 slots, in ascending order. -/
def allPoints : List (Fin 32) := List.finRange 32
/-- The lanes in ascending order. -/
def allLanes : List (Fin 8) := List.finRange 8
/-- The lines in ascending order. -/
def allLines : List (Fin 4) := List.finRange 4
/-- The slots of the grant table in ascending order. -/
def allSlots : List (Fin 24) := List.finRange 24

/-- Point `p` of the point table. -/
def State.point (s : State) (p : Fin 32) : Point := s.points[p.val]

/-- The state with point `p` replaced. -/
def State.setPoint (s : State) (p : Fin 32) (x : Point) : State :=
  { s with points := s.points.set p.val x p.isLt }

/-- Line `l` of the line table. -/
def State.line (s : State) (l : Fin 4) : Line := s.lines[l.val]

/-- The state with line `l` replaced. -/
def State.setLine (s : State) (l : Fin 4) (x : Line) : State :=
  { s with lines := s.lines.set l.val x l.isLt }

/-- The probe of line `l`. -/
def State.probe (s : State) (l : Fin 4) : Probe := s.tu.probes[l.val]

/-- The state with the probe of line `l` replaced. -/
def State.setProbe (s : State) (l : Fin 4) (x : Probe) : State :=
  { s with tu := { s.tu with probes := s.tu.probes.set l.val x l.isLt } }

/-- What the IBI holds for lane `n`. -/
def State.lane (s : State) (n : Fin 8) : Lane := s.ibi.lanes[n.val]

/-- The state with lane `n` of the IBI replaced. -/
def State.setLane (s : State) (n : Fin 8) (x : Lane) : State :=
  { s with ibi := { s.ibi with lanes := s.ibi.lanes.set n.val x n.isLt } }

/-- The grant in slot `i`, if the slot is not free (R2). -/
def State.grantAt (s : State) (i : Fin 24) : Option Grant := s.gm.slots[i.val]

/-- The state with slot `i` holding `x`. -/
def State.setSlot (s : State) (i : Fin 24) (x : Option Grant) : State :=
  { s with gm := { s.gm with slots := s.gm.slots.set i.val x i.isLt } }

/-- The state with the grant of slot `i` changed; a free slot stays free. -/
def State.modGrant (s : State) (i : Fin 24) (f : Grant → Grant) : State :=
  s.setSlot i ((s.grantAt i).map f)

/-- The slot of the grant with this tag. Tags of held grants are distinct (R2). -/
def State.findTag (s : State) (tag : Nat) : Option (Fin 24) :=
  allSlots.find? fun i => (s.grantAt i).any (·.tag == tag)

/-- The slot of the grant that point `p` is attached to (R68). -/
def State.slotOfPoint (s : State) (p : Fin 32) : Option (Fin 24) :=
  (s.point p).tag.bind s.findTag

/-- The grants held, in slot order. -/
def State.grants (s : State) : List Grant := allSlots.filterMap s.grantAt

/-- Whether point `p` holds a pump request, or a set of points holds `p` (R93, R206). -/
def hasPoint (set : BitVec 32) (p : Fin 32) : Bool := set.getLsbD p.val

/-- The set with point `p` added. -/
def addPoint (set : BitVec 32) (p : Fin 32) : BitVec 32 := set ||| (1#32 <<< p.val)

/-- The set with point `p` removed. -/
def dropPoint (set : BitVec 32) (p : Fin 32) : BitVec 32 := set &&& ~~~(1#32 <<< p.val)

/-- The points of lane `n`: 4n, 4n+1, 4n+2 and 4n+3 (R62). -/
def pointsOfLane (n : Fin 8) : List (Fin 32) :=
  allPoints.filter fun p => p.val / 4 == n.val

/-- The point a command's byte names. -/
def pointOf (n : Nat) : Option (Fin 32) := if h : n < 32 then some ⟨n, h⟩ else none

/-- The line a command's byte names. -/
def lineOf (n : Nat) : Option (Fin 4) := if h : n < 4 then some ⟨n, h⟩ else none

/-- The lane a command's byte names. -/
def laneOf (n : Nat) : Option (Fin 8) := if h : n < 8 then some ⟨n, h⟩ else none

/-! ### Grants -/

/-- A live grant is PENDING, ARMED, FUELING, HELD or CLOSING (R4). -/
def Grant.isLive (g : Grant) : Bool := g.state != .settled

/-- The allowance of a grant on a line; there is at most one (section 1.1). -/
def Grant.allowanceOn (g : Grant) (l : Fin 4) : Option Allowance :=
  g.allowances.find? (·.line == l)

/-- An armed allowance that is not EXHAUSTED (section 1.1). -/
def Allowance.isOpen (a : Allowance) : Bool := a.armed.any (!·.exhausted)

/-- Whether the grant's allowance of this line is OPEN. -/
def Grant.openOn (g : Grant) (l : Fin 4) : Bool := (g.allowanceOn l).any (·.isOpen)

/-- Whether no allowance of the grant is left OPEN (R25, R150). -/
def Grant.allExhausted (g : Grant) : Bool := g.allowances.all (fun a => !a.isOpen)

/-- An outcome once recorded stays (R1). -/
def Grant.recordOutcome (g : Grant) (r : EndReason) : Grant :=
  { g with outcome := some (g.outcome.getD r) }

/-- The grant with one allowance changed. -/
def Grant.modAllowance (g : Grant) (l : Fin 4) (f : Allowance → Allowance) : Grant :=
  { g with allowances := g.allowances.map fun a => if a.line = l then f a else a }

/-! ### Line settings that other blocks read (chapter 4) -/

/-- A field of the line's configuration, 0 while it is erased. -/
def State.lineField (s : State) (l : Fin 4) (f : LineConfig → Nat) : Nat :=
  ((s.line l).config.map f).getD 0

/-- A class's value in a field given per class (section 2.1). -/
def classValue (v : PerClass) : FuelClass → Nat
  | .roadDiesel => v.roadDiesel
  | .defFluid => v.defFluid
  | .reefer => v.reefer

/-- Whether a set of classes holds this class (section 10.8: bit 0 ROAD_DIESEL, bit 1 DEF, bit 2 REEFER). -/
def permits (classes : BitVec 3) : FuelClass → Bool
  | .roadDiesel => classes.getLsbD 0
  | .defFluid => classes.getLsbD 1
  | .reefer => classes.getLsbD 2

/-! ### Timers (00_scope, Interval codes and Timers) -/

/-- The ticks of 100 ms an interval code stands for; code 0 disables the timer. -/
def periodsOfCode (code : Nat) : Option Nat :=
  if code = 0 then none
  else if code ≤ 100 then some code
  else if code ≤ 190 then some ((code - 90) * 10)
  else if code ≤ 250 then some ((code - 180) * 100)
  else if code = 251 then some 9000
  else if code = 252 then some 12000
  else if code = 253 then some 18000
  else if code = 254 then some 36000
  else some 72000

/-- A timer started with an interval code. -/
def Timer.start (code : Nat) : Timer :=
  match periodsOfCode code with
  | some n => .running n
  | none => .unlimited

/-- A timer that is started and not stopped. -/
def Timer.active : Timer → Bool
  | .stopped => false
  | .running _ => true
  | .unlimited => true

/-- A timer that may expire: started, not stopped, and not under code 0. -/
def Timer.mayExpire : Timer → Bool
  | .running _ => true
  | .stopped => false
  | .unlimited => false

/-- A tick counts one period of a running timer. -/
def Timer.tick : Timer → Timer
  | .running n => .running (n - 1)
  | t => t

/-- A tick completes the timer's interval. -/
def Timer.dueAtTick : Timer → Bool
  | .running n => n ≤ 1
  | _ => false

/-! ### Orders the manual does not fix -/

/-- Puts a numbered item in its place by the free turn of choice `draw` (Config.turn). -/
def insertByTurn {α : Type} (draw : Nat) (x : Nat × α) : List (Nat × α) → List (Nat × α)
  | [] => [x]
  | y :: rest =>
    if Config.turn draw x.1 ≤ Config.turn draw y.1 then x :: y :: rest
    else y :: insertByTurn draw x rest

/-- The items in the free order of choice `draw`: some order of them, and no proof knows which. -/
def arrange {α : Type} (draw : Nat) (items : List α) : List α :=
  ((items.zipIdx.map fun p => (p.2, p.1)).foldr (insertByTurn draw) []).map (·.2)

/-! ### A host command and its answer (R191 to R193) -/

/-- A response without data (R197). -/
def refusal (r : Result) : Response := { result := r, data := [] }

/-- The answer OK with these data. -/
def okWith (data : List Byte) : Response := { result := .ok, data := data }

/-- The owner's answer, kept until the command completes (R193). From the taking on the port is PROCESSING. -/
def State.giveAnswer (s : State) (r : Response) : State :=
  { s with cp := { s.cp with state := .processing, held := none, answer := some r } }

/-- A host command's row: the owning block takes the command. When the port has passed on another command that its
owner has not yet taken, this one cannot be taken now, since the port holds one command at a time
(notes/assumptions/3.md). -/
def takeCommand (i : Instr) (act : State → State × Response) (s : State) : State :=
  if s.cp.held.all (· = i) then (act s).1.giveAnswer (act s).2 else s

end Sys2Proof.Machine
end

