-- ==== Sys2Proof/Machine/Arithmetic.lean ====
section
/-! DEFINITION. The sale arithmetic of chapter 5: compensation factor, accumulation, volumes, amounts and caps. Every
product is exact and every division states its rounding. -/

namespace Sys2Proof.Machine

/-- The compensation factor F = 1,000,000 − (α × (T − 150)) / 10, the division truncating toward zero (R109). -/
def factorOf (alpha : Nat) (temperature : Int) : Int :=
  1000000 - ((alpha : Int) * (temperature - 150)).tdiv 10

/-- F of a line, from its α and the T in force; α is 0 while the line's configuration is erased (R109, R110). -/
def State.factor (s : State) (l : Fin 4) : Int :=
  factorOf (s.lineField l (·.alpha)) (s.probe l).temperature

/-- gross ml = floor(P × 1000 / K) (R111). -/
def grossOf (pulses k : Nat) : Nat := pulses * 1000 / k

/-- compensated ml = floor(C / (K × 1000)) (R111). -/
def compensatedOf (accumulator k : Nat) : Nat := accumulator / (k * 1000)

/-- amount = floor((V × price + 5000) / 10000) (R113). -/
def amountOf (volume price : Nat) : Nat := (volume * price + 5000) / 10000

/-- A record's basis ml (R112). -/
def PointRecord.basisMl (r : PointRecord) : Basis → Nat
  | .gross => r.gross
  | .compensated => r.compensated

/-- The allowance's V: the sum of the basis ml of its point records (R113). -/
def volumeOf (basis : Basis) (records : List PointRecord) : Nat := (records.map (·.basisMl basis)).sum

/-- The allowance with its totals recomputed (R113). -/
def Armed.recompute (a : Armed) : Armed :=
  { a with
    volume := volumeOf a.basis a.records
    amount := amountOf (volumeOf a.basis a.records) a.price
    residual := (a.cap : Int) - (volumeOf a.basis a.records : Int) }

/-- Whether P + N would pass the top of P (R106). -/
def pulsesSaturate (r : PointRecord) (n : Int) : Bool := (Config.pulseTop : Int) < (r.pulses : Int) + n

/-- Whether P + N falls below 0, which clears the record (R106). -/
def pulsesClear (r : PointRecord) (n : Int) : Bool := (r.pulses : Int) + n < 0

/-- P after the accumulation of N (R106). -/
def pulsesAfter (r : PointRecord) (n : Int) : Nat := min ((r.pulses : Int) + n).toNat Config.pulseTop

/-- C after the accumulation of N at factor F: cleared with P (R106), else C + N × F held to its range (R107). -/
def accumulatorAfter (r : PointRecord) (n f : Int) : Nat :=
  if pulsesClear r n then 0 else min ((r.accumulator : Int) + n * f).toNat Config.accumulatorTop

/-- The record after a period end's accumulation: totals, volumes and last basis increment (R106, R107, R111, R112). -/
def PointRecord.accumulate (r : PointRecord) (basis : Basis) (n f : Int) : PointRecord :=
  let after : PointRecord :=
    { r with
      pulses := pulsesAfter r n
      accumulator := accumulatorAfter r n f
      gross := grossOf (pulsesAfter r n) r.k
      compensated := compensatedOf (accumulatorAfter r n f) r.k }
  { after with lastIncrement := after.basisMl basis - r.basisMl basis }

/-- A limit value of 0 of either kind is rewritten as VOLUME at the ceiling (R115). -/
def effectiveLimit (limit : LimitKind × Nat) (ceiling : Nat) : LimitKind × Nat :=
  if limit.2 = 0 then (.volume, ceiling) else limit

/-- The volume equivalent L of a limit at the price snapshot (R116). -/
def limitVolume (limit : LimitKind × Nat) (price : Nat) : Nat :=
  match limit.1 with
  | .volume => limit.2
  | .amount => limit.2 * 10000 / price

/-- The fields an allowance takes at arming: cap = min(L, ceiling), clamped when L exceeds the ceiling, EXHAUSTED when
the cap is 0, totals at zero and the residual at the cap (R17, R116). -/
def armedTerms (limit : LimitKind × Nat) (ceiling price : Nat) (basis : Basis) : Armed where
  price := price
  basis := basis
  cap := min (limitVolume limit price) ceiling
  clamped := ceiling < limitVolume limit price
  exhausted := min (limitVolume limit price) ceiling = 0
  records := []
  volume := 0
  amount := 0
  residual := min (limitVolume limit price) ceiling

/-- A point record as arming creates it, with its copy of the point's K (R18, section 5.3). -/
def newRecord (p : Fin 32) (k : Nat) : PointRecord where
  point := p
  k := k
  pulses := 0
  accumulator := 0
  gross := 0
  compensated := 0
  lastIncrement := 0

/-- V and amount of an allowance; an unarmed one counts both as 0 (R113). -/
def Allowance.volume (a : Allowance) : Nat := (a.armed.map (·.volume)).getD 0

/-- The amount of an allowance in cents (R113). -/
def Allowance.amount (a : Allowance) : Nat := (a.armed.map (·.amount)).getD 0

/-- The grant's total amount: the sum of the amounts of its allowances (R113). -/
def Grant.totalAmount (g : Grant) : Nat := (g.allowances.map (·.amount)).sum

/-- The temperature of a good code: offset + floor(code × span / 1024), clamped to −400 to 700 (R127). -/
def convert (offset : Int) (span code : Nat) : Int :=
  max (-400) (min 700 (offset + (code * span / 1024 : Nat)))

/-- Codes 4 to 1,019 are good readings; both other bands are faults (R127). -/
def codeGood (code : Nat) : Bool := 4 ≤ code && code ≤ 1019

end Sys2Proof.Machine
end

