-- ==== Sys2Proof/Machine/Flags.lean ====
section
/-! DEFINITION. The Attention Unit (chapter 11): the nine flags, ATTN, the raising of the sticky events, EVENT_READ
and EVENT_MASK; and the port status byte (R188). -/

namespace Sys2Proof.Machine

/-- Whether the E-STOP, halt and other flags are set: the nine flags in the bit order of section 10.8. The first two
are level flags that follow the Grant Manager's queues (R205); a sticky flag with a set is set while its set is not
empty (R206). -/
def State.flagList (s : State) : List Bool :=
  [!s.gm.pendingTags.isEmpty, !s.gm.settledTags.isEmpty, s.au.pointFault != 0, s.au.probeFault != 0,
   s.au.lineLockout != 0, s.au.haltComplete, s.au.busFault, s.au.terminalSilent != 0, s.au.tallyFull]

/-- A list of bits, bit 0 first, as a number. -/
def natOfBits (bits : List Bool) : Nat := bits.foldr (fun b n => b.toNat + 2 * n) 0

/-- The nine flags as one word, bit 0 REQUEST_WAITING to bit 8 TALLY_FULL. -/
def State.flags (s : State) : BitVec 9 := BitVec.ofNat 9 (natOfBits s.flagList)

/-- ATTN is held low while at least one flag is both set and enabled (R207). -/
def State.attnLow (s : State) : Bool := s.flags &&& s.au.mask != 0

/-- The port status byte (R188 and the layout of section 10.8): bit 6 is fixed at 1 and bit 7 at 0. -/
def State.statusByte (s : State) : Byte :=
  byteOf (natOfBits
    [s.cp.response.isSome, s.cp.state == .processing, s.cp.collision, s.attnLow, s.ss.site != .running,
     s.su.link == .offline, true, false])

/-! ### Raising events (R206): the flag is set and the member joins the set -/

def State.raisePointFault (s : State) (p : Fin 32) : State :=
  { s with au := { s.au with pointFault := addPoint s.au.pointFault p } }

def State.raiseProbeFault (s : State) (l : Fin 4) : State :=
  { s with au := { s.au with probeFault := s.au.probeFault ||| (1#4 <<< l.val) } }

def State.raiseLineLockout (s : State) (l : Fin 4) : State :=
  { s with au := { s.au with lineLockout := s.au.lineLockout ||| (1#4 <<< l.val) } }

def State.raiseHaltComplete (s : State) : State :=
  { s with au := { s.au with haltComplete := true } }

def State.raiseBusFault (s : State) : State :=
  { s with au := { s.au with busFault := true } }

def State.raiseTerminalSilent (s : State) (n : Fin 8) : State :=
  { s with au := { s.au with terminalSilent := s.au.terminalSilent ||| (1#8 <<< n.val) } }

def State.raiseTallyFull (s : State) : State :=
  { s with au := { s.au with tallyFull := true } }

/-! ### EVENT_READ and EVENT_MASK -/

/-- The data of EVENT_READ: flags (2), point set (4), probe-fault lines, lockout lines, silent lanes (1 each). -/
def State.eventReport (s : State) : List Byte :=
  bytesOfNat 2 s.flags.toNat ++ bytesOfNat 4 s.au.pointFault.toNat
    ++ [s.au.probeFault.setWidth 8, s.au.lineLockout.setWidth 8, s.au.terminalSilent]

/-- The Attention Unit with every sticky flag clear and every set empty; the mask stays. -/
def AttentionUnit.cleared (a : AttentionUnit) : AttentionUnit where
  pointFault := 0
  probeFault := 0
  lineLockout := 0
  haltComplete := false
  busFault := false
  terminalSilent := 0
  tallyFull := false
  mask := a.mask

/-- EVENT_READ (R208): reports every flag and set, then clears the sticky ones. -/
def doEventRead (s : State) : State × Response :=
  ({ s with au := s.au.cleared }, okWith s.eventReport)

/-- EVENT_MASK (R209): bits 9 to 15 must be 0. -/
def doEventMask (mask : Nat) (s : State) : State × Response :=
  if mask < 512 then ({ s with au := { s.au with mask := BitVec.ofNat 9 mask } }, okWith [])
  else (s, refusal .badParam)

/-- EVENT_READ. -/
def execEventRead (s : State) : Host.Outcome State Fault Refusal :=
  .next (takeCommand .eventRead doEventRead s)

/-- EVENT_MASK. -/
def execEventMask (mask : Nat) (s : State) : Host.Outcome State Fault Refusal :=
  .next (takeCommand (.eventMask mask) (doEventMask mask) s)

end Sys2Proof.Machine
end

