-- ==== Sys2Proof/Machine/Operands.lean ====
section
/-! DEFINITION. The checks an owning block makes on the operands of a command or message before anything else:
each is check 1 of the rule named. -/

namespace Sys2Proof.Machine

/-- A decimal digit (R203). -/
def isDigit (d : Nat) : Bool := d ≤ 9

/-- A PAN is a string of 12 to 19 decimal digits (R43, R48, R203). -/
def panValid (pan : Pan) : Bool := 12 ≤ pan.length && pan.length ≤ 19 && pan.all isDigit

/-- A string of digits as a number. -/
def natOfDigits (ds : List Nat) : Nat := ds.foldl (fun n d => n * 10 + d) 0

/-- The program prefix: the 8-digit number formed by the first 8 digits (00_scope, Card numbers). -/
def programPrefix (pan : Pan) : Nat := natOfDigits (pan.take 8)

/-- The year of a YYMM value. -/
def yearOf (d : Yymm) : Nat := d.y1 * 10 + d.y2

/-- The month of a YYMM value. -/
def monthOf (d : Yymm) : Nat := d.m1 * 10 + d.m2

/-- A YYMM value of four decimal digits whose month is 01 to 12 (R46, R48, R203). -/
def yymmValid (d : Yymm) : Bool :=
  isDigit d.y1 && isDigit d.y2 && isDigit d.m1 && isDigit d.m2 && 1 ≤ monthOf d && monthOf d ≤ 12

/-- A YYMM value is earlier when its year is smaller, or with equal years its month (00_scope, Dates). -/
def yymmEarlier (a b : Yymm) : Bool :=
  yearOf a < yearOf b || (yearOf a == yearOf b && monthOf a < monthOf b)

/-- Each line of a list of limit entries is 0 to 3 and appears once, and each limit kind is listed (R9, R12). -/
def entriesValid (es : List LimitEntry) : Bool :=
  es.all (fun e => e.line < 4 && e.kind.isSome) && decide ((es.map (·.line)).Nodup)

/-- The entry of a list for this line. -/
def entryFor (es : List LimitEntry) (l : Fin 4) : Option LimitEntry := es.find? (·.line == l.val)

/-- The limit an entry gives. -/
def limitOf (e : LimitEntry) : Option (LimitKind × Nat) := e.kind.map (·, e.value)

/-- The set of lines a list of entries names. -/
def linesOfEntries (es : List LimitEntry) : BitVec 4 :=
  allLines.foldl (fun b l => if (entryFor es l).isSome then b ||| (1#4 <<< l.val) else b) 0

/-- DECIDE's check 1 (R12). -/
def verdictValid : Verdict → Bool
  | .approve es => es.length ≤ 4 && entriesValid es
  | .decline code => 1 ≤ code && code ≤ 255
  | .unlisted => false

/-- OPEN_GRANT's check 1 (R9). -/
def openGrantValid (lane : Nat) (es : List LimitEntry) : Bool :=
  lane < 8 && 1 ≤ es.length && es.length ≤ 4 && entriesValid es

/-- A value from `lo` to `hi`. -/
def inRange (lo hi n : Nat) : Bool := lo ≤ n && n ≤ hi

/-- A field given per class, each value 1 to 2,000,000 ml (section 2.1). -/
def perClassValid (v : PerClass) : Bool :=
  inRange 1 2000000 v.roadDiesel && inRange 1 2000000 v.defFluid && inRange 1 2000000 v.reefer

/-- PROGRAM_PUT's check 1 (R37, R203): the stored entry when every field lies in its range. -/
def programOf (e : ProgramArg) : Option Program :=
  match e.dualSide, e.mode with
  | some dual, some mode =>
    if e.id < 32 && e.high ≤ 99999999 && e.low ≤ e.high && perClassValid e.ceilings && perClassValid e.limits
        && inRange 1 15 e.countLimit then
      some
        { id := e.id, low := e.low, high := e.high, classes := e.classes, dualSide := dual, prompts := e.prompts,
          ceilings := e.ceilings, mode := mode, limits := e.limits, countLimit := e.countLimit }
    else none
  | _, _ => none

/-- A stored entry in the form in which it is sent. -/
def Program.toArg (p : Program) : ProgramArg where
  id := p.id
  low := p.low
  high := p.high
  classes := p.classes
  dualSide := some p.dualSide
  prompts := p.prompts
  ceilings := p.ceilings
  mode := some p.mode
  limits := p.limits
  countLimit := p.countLimit

/-- POINT_SET's check 1 for a role other than NONE (R63). -/
def pointConfigOf (role : Role) (line k threshold creep : Nat) : Option PointConfig :=
  match lineOf line with
  | some l =>
    if inRange 50 2000 k && inRange 1 15 threshold && inRange 1 255 creep then
      some { role := role, line := l, k := k, threshold := threshold, creepAllowance := creep }
    else none
  | none => none

/-- LINE_SET's check 1 for a class other than NONE: every field in its range of R86, and slow duty at most full duty
(R88). -/
def lineConfigOf (fuel : FuelClass) (f : LineFields) : Option LineConfig :=
  match f.basis, f.probe with
  | some basis, some probe =>
    if inRange 1 2000000 f.ceiling && inRange 0 50000 f.slowMargin && inRange 0 20 f.closeLead
        && inRange 0 2000 f.alpha && inRange 1 255 f.fullDuty && inRange 1 f.fullDuty f.slowDuty
        && inRange 0 30 f.startDelay && inRange 0 255 f.runOn then
      some
        { fuel := fuel, ceiling := f.ceiling, slowMargin := f.slowMargin, closeLead := f.closeLead, alpha := f.alpha,
          basis := basis, fullDuty := f.fullDuty, slowDuty := f.slowDuty, startDelay := f.startDelay,
          runOn := f.runOn, probe := probe }
    else none
  | _, _ => none

/-- The bit of a prompt type in a set of prompts (section 10.8). -/
def promptBit : PromptType → Nat
  | .driverId => 0
  | .vehicleId => 1
  | .odometer => 2
  | .trailerId => 3

/-- A prompt's type is listed, and its value is a string of 1 to 8 decimal digits (R48, R203). -/
def promptValid (p : Prompt) : Bool :=
  p.kind.isSome && 1 ≤ p.digits.length && p.digits.length ≤ 8 && p.digits.all isDigit

/-- The request is well formed (R48); its length has been compared when it was read (R204). -/
def requestValid (r : AuthRequest) : Bool :=
  panValid r.pan && yymmValid r.expiry && r.prompts.length ≤ 4 && decide ((r.prompts.map (·.kind)).Nodup)
    && r.prompts.all promptValid

/-- The set of the prompt types present in a request. -/
def promptsPresent (ps : List Prompt) (t : PromptType) : Bool := ps.any (·.kind == some t)

/-- Every prompt type the program requires is present (R50). -/
def promptsMet (required : BitVec 4) (ps : List Prompt) : Bool :=
  [PromptType.driverId, .vehicleId, .odometer, .trailerId].all
    fun t => !required.getLsbD (promptBit t) || promptsPresent ps t

end Sys2Proof.Machine
end

