-- ==== Sys2Proof/Machine/Formats.lean ====
section
/-! DEFINITION. The layouts in which state leaves the part (section 10.8): the grant record, the POINT_READ, LINE_READ
and STATUS_READ answers, response frames and island messages. A value larger than its field is sent as the largest
the field can hold (R202). -/

namespace Sys2Proof.Machine

/-- An unsigned field of `k` bytes, saturated (R202). -/
def unsignedField (k n : Nat) : List Byte := bytesOfNat k (min n (256 ^ k - 1))

/-- A signed field of `k` bytes in two's complement, saturated (R202). -/
def signedField (k : Nat) (z : Int) : List Byte :=
  let top : Int := 256 ^ k / 2
  bytesOfNat k ((max (-top) (min (top - 1) z)) % (256 ^ k : Int)).toNat

/-- A yes or no as a bit. -/
def bit (b : Bool) (place : Nat) : Nat := if b then 2 ^ place else 0

/-! ### Enumerations -/

def codeOfGrantState : GrantState → Nat
  | .pending => 1
  | .armed => 2
  | .fueling => 3
  | .held => 4
  | .closing => 5
  | .settled => 6

def codeOfSource : Option Source → Nat
  | none => 0
  | some .host => 1
  | some .standinOffline => 2
  | some .standinTimeout => 3
  | some .attendant => 4

def codeOfOutcome : Option EndReason → Nat
  | none => 0
  | some .limit => 1
  | some .hangupIdle => 2
  | some .noFlow => 3
  | some .liftTimeout => 4
  | some .hostStop => 5
  | some .cancelled => 6
  | some .halt => 7
  | some .holdExpired => 8
  | some .compound => 9
  | some .unauthFlow => 10
  | some .lineLockout => 11
  | some (.declinedHost _) => 12
  | some .declinedTimeout => 13

/-- The decline code; 0 unless the outcome is DECLINED_HOST. -/
def declineCodeOf : Option EndReason → Nat
  | some (.declinedHost code) => code
  | _ => 0

def codeOfPointState : PointState → Nat
  | .disabled => 0
  | .idle => 1
  | .lifted => 2
  | .priming => 3
  | .flowing => 4
  | .slowing => 5
  | .settling => 6
  | .outOfService => 7

def codeOfLineState : LineState → Nat
  | .unconfigured => 0
  | .available => 1
  | .lockedOut => 2

def codeOfPump : PumpState → Nat
  | .off => 0
  | .on => 1
  | .runOn => 2

def codeOfProbe : ProbeState → Nat
  | .absent => 0
  | .good => 1
  | .holding => 2
  | .reference => 3

def codeOfSite : SiteState → Nat
  | .running => 0
  | .halting => 1
  | .halted => 2

def codeOfResult : Result → Nat
  | .ok => 0x00
  | .empty => 0x01
  | .frameCheck => 0x02
  | .frameLength => 0x03
  | .unknownCommand => 0x04
  | .badParam => 0x05
  | .badClass => 0x06
  | .unknownTag => 0x07
  | .late => 0x08
  | .wrongState => 0x09
  | .notHeld => 0x0A
  | .alreadyEnding => 0x0B
  | .tableFull => 0x0C
  | .overlap => 0x0D
  | .notFound => 0x0E
  | .pointBusy => 0x0F
  | .lineBusy => 0x10
  | .lineLocked => 0x11
  | .halted => 0x12
  | .stillAsserted => 0x13
  | .noSlot => 0x14

def codeOfReply : ReplyResult → Nat
  | .accepted => 0x01
  | .approved => 0x02
  | .format => 0x10
  | .siteHalted => 0x11
  | .laneBusy => 0x12
  | .noSlot => 0x13
  | .deniedCard => 0x14
  | .unknownProgram => 0x15
  | .expired => 0x16
  | .promptMissing => 0x17
  | .noProduct => 0x18
  | .standinRefused => 0x19
  | .tallyFull => 0x1A
  | .cancelOk => 0x20
  | .notFound => 0x21
  | .alreadyEnding => 0x22
  | .noReply => 0x30

/-! ### The grant record -/

/-- A PAN as returned: the digit count and ten bytes; for ATTENDANT, count 0 and the rest 0xFF. -/
def panField : Option Card → List Byte
  | some c => bytesOfPan c.pan
  | none => 0#8 :: List.replicate 10 0xFF#8

/-- The expiry as returned; 0xFF 0xFF for ATTENDANT. -/
def expiryField : Option Card → List Byte
  | some c => bytesOfYymm c.expiry
  | none => [0xFF#8, 0xFF#8]

/-- The program id as returned; 0xFF for ATTENDANT. -/
def programField : Option Card → List Byte
  | some c => unsignedField 1 c.program
  | none => [0xFF#8]

/-- The attached points of a grant in bits 4 to 7, bit 4 + i for point 4 × lane + i. -/
def attachedBits (g : Grant) : Nat :=
  ((pointsOfLane g.lane).map fun p => bit (g.attached.contains p) (4 + p.val % 4)).sum

/-- The 23-byte head of a grant record; the prompt count is its last byte. -/
def grantHead (g : Grant) : List Byte :=
  unsignedField 1 g.tag ++ [byteOf g.lane.val, byteOf (codeOfGrantState g.state)]
    ++ [byteOf (bit g.served 0 + bit g.flowed 1 + bit g.degraded 2 + bit g.dualSide 3 + bit g.card.isNone 4)]
    ++ [byteOf (codeOfSource g.source), byteOf (codeOfOutcome g.outcome), byteOf (declineCodeOf g.outcome)]
    ++ [byteOf (g.requested.toNat + attachedBits g)]
    ++ panField g.card ++ expiryField g.card ++ programField g.card ++ unsignedField 1 g.prompts.length

/-- A prompt as returned: its type and four bytes. -/
def promptField (p : Prompt) : List Byte := byteOfPromptType p.kind :: packDigits 4 p.digits

/-- A point record as returned (24 bytes). -/
def recordField (r : PointRecord) : List Byte :=
  [byteOf r.point.val] ++ unsignedField 4 r.pulses ++ unsignedField 8 r.accumulator ++ unsignedField 4 r.gross
    ++ unsignedField 4 r.compensated ++ unsignedField 3 r.lastIncrement

/-- The packed byte of an allowance: state, limit kind, basis, clamped. -/
def allowanceBits (a : Allowance) : Nat :=
  (match a.armed with
    | none => 0
    | some t => if t.exhausted then 2 else 1)
  + (match a.limit with
    | none => 0
    | some (.volume, _) => 4
    | some (.amount, _) => 8)
  + (match a.armed with
    | none => 0
    | some t => (if t.basis = .gross then 16 else 32) + bit t.clamped 6)

/-- An allowance as returned: 28 bytes and its point records. While unarmed it has no cap and no totals; its residual
is sent as 0 with them (DEDUCED, notes/assumptions/13.md). -/
def allowanceField (a : Allowance) : List Byte :=
  [byteOf a.line.val, byteOf (allowanceBits a)] ++ unsignedField 3 a.ceiling
    ++ unsignedField 4 ((a.limit.map (·.2)).getD 0)
    ++ unsignedField 3 ((a.armed.map (·.price)).getD 0) ++ unsignedField 3 ((a.armed.map (·.cap)).getD 0)
    ++ unsignedField 4 a.volume ++ unsignedField 4 a.amount
    ++ signedField 4 ((a.armed.map (·.residual)).getD 0)
    ++ unsignedField 1 ((a.armed.map (·.records.length)).getD 0)
    ++ ((a.armed.map (·.records)).getD []).flatMap recordField

/-- The grant record as returned (section 10.8). -/
def grantRecord (g : Grant) : List Byte :=
  grantHead g ++ g.prompts.flatMap promptField ++ unsignedField 1 g.allowances.length
    ++ g.allowances.flatMap allowanceField

/-! ### POINT_READ, LINE_READ and STATUS_READ -/

/-- The configuration of a point as returned; role NONE and the other fields 0 for a DISABLED point (R66). -/
def pointConfigField : Option PointConfig → List Byte
  | none => [0#8, 0#8, 0#8, 0#8, 0#8, 0#8]
  | some c =>
    [byteOfRole c.role, byteOf c.line.val] ++ unsignedField 2 c.k ++ unsignedField 1 c.threshold
      ++ unsignedField 1 c.creepAllowance

/-- The no-flow periods left: 0xFFFFFF stopped, 0xFFFFFE running under code 0. -/
def noFlowField : Timer → List Byte
  | .stopped => bytesOfNat 3 0xFFFFFF
  | .unlimited => bytesOfNat 3 0xFFFFFE
  | .running n => unsignedField 3 n

/-- The point answer of 21 bytes (R66). -/
def pointAnswer (x : Point) : List Byte :=
  pointConfigField x.config
    ++ [byteOf (codeOfPointState x.state), byteOf x.nozzle.toNat]
    ++ unsignedField 1 x.dutyInForce ++ unsignedField 1 (x.tag.getD 0)
    ++ noFlowField x.noFlow ++ unsignedField 1 (if x.state = .settling then x.settleLeft else 0)
    ++ unsignedField 2 x.latchForward ++ unsignedField 2 x.latchReverse ++ unsignedField 2 x.latchErrors
    ++ unsignedField 1 x.creep

/-- The line configuration of 15 bytes with the class in its last byte; zeros for an erased one (R92). -/
def lineConfigField : Option LineConfig → List Byte
  | none => List.replicate 15 0#8
  | some c =>
    unsignedField 3 c.ceiling ++ unsignedField 2 c.slowMargin ++ unsignedField 1 c.closeLead
      ++ unsignedField 2 c.alpha ++ [byteOfBasis (some c.basis)] ++ unsignedField 1 c.fullDuty
      ++ unsignedField 1 c.slowDuty ++ unsignedField 1 c.startDelay ++ unsignedField 1 c.runOn
      ++ [byteOfYesNo (some c.probe), byteOfFuel c.fuel]

/-- The start periods left: while ON with the start delay not met; 0 otherwise (R92). -/
def startLeft (x : Line) : Nat :=
  match x.pump, x.delayMet, x.startTimer with
  | .on, false, .running n => n
  | _, _, _ => 0

/-- The run-on periods left: while RUN_ON, 0xFFFFFF for unlimited under code 0; 0 otherwise (R92). -/
def runOnField (x : Line) : List Byte :=
  match x.pump, x.runOnTimer with
  | .runOn, .running n => unsignedField 3 n
  | .runOn, .unlimited => bytesOfNat 3 0xFFFFFF
  | _, _ => bytesOfNat 3 0

/-- The line answer of 35 bytes (R92). -/
def lineAnswer (s : State) (l : Fin 4) : List Byte :=
  let x := s.line l
  lineConfigField x.config ++ unsignedField 3 x.price
    ++ [byteOf (codeOfLineState x.state), byteOf (codeOfPump x.pump), byteOf x.delayMet.toNat]
    ++ unsignedField 1 (startLeft x) ++ runOnField x ++ bytesOfNat 4 x.requesting.toNat
    ++ [byteOf (codeOfProbe (s.probe l).state)] ++ signedField 2 (s.probe l).temperature
    ++ unsignedField 3 (s.factor l).toNat

/-- The seven timer settings as sent. -/
def timersField (t : TimerSettings) : List Byte :=
  [t.decision, t.lift, t.noFlow, t.idleEnd, t.hold, t.probeHold, t.settle].flatMap (unsignedField 1)

/-- The number of tally entries held. -/
def tallyCount (s : State) : Nat := s.su.tally.toList.countP (·.isSome)

/-- The status answer of 19 bytes (R200). -/
def statusAnswer (s : State) : List Byte :=
  [byteOf (codeOfSite s.ss.site), byteOf s.ss.estop.toNat, byteOfLink (some s.su.link)]
    ++ (match s.su.date with
        | none => [0xFF#8, 0xFF#8]
        | some d => bytesOfYymm d)
    ++ unsignedField 1 s.grants.length ++ unsignedField 1 s.gm.pendingTags.length
    ++ unsignedField 1 s.gm.settledTags.length ++ unsignedField 1 s.su.programs.length
    ++ unsignedField 2 s.su.denied.length ++ unsignedField 1 (tallyCount s) ++ timersField s.cp.timers

/-! ### Frames and messages -/

/-- A response frame: result, length, data, check byte (R197). -/
def responseFrame (r : Response) : List Byte :=
  let body := byteOf (codeOfResult r.result) :: byteOf r.data.length :: r.data
  body ++ [checkByte body]

/-- What `n` clocked bytes show of a frame: its bytes, then 0xFF (R173, R195). -/
def clockOut (frame : List Byte) (n : Nat) : List Byte :=
  (frame ++ List.replicate (n - frame.length) 0xFF#8).take n

/-- An island message: kind, declared length, contents, check byte (section 10.8). -/
def islandMessage (kind : Byte) (contents : List Byte) : List Byte :=
  let body := kind :: byteOf contents.length :: contents
  body ++ [checkByte body]

/-- A list of caps: the count, then line and cap of each. -/
def capsField (caps : List Cap) : List Byte :=
  unsignedField 1 caps.length ++ caps.flatMap fun c => byteOf c.line.val :: unsignedField 3 c.cap

/-- A REPLY message (R184). -/
def replyMessage (r : Reply) : List Byte :=
  islandMessage 0x81#8 ([byteOf (codeOfReply r.result)] ++ unsignedField 1 r.tag ++ capsField r.caps)

/-- A DECISION or SALE_END message (R185). -/
def noticeMessage : Notice → List Byte
  | .approved tag caps => islandMessage 0x82#8 (unsignedField 1 tag ++ [1#8, 0#8] ++ capsField caps)
  | .declined tag code => islandMessage 0x82#8 (unsignedField 1 tag ++ [2#8] ++ unsignedField 1 code ++ [0#8])
  | .saleEnd tag outcome degraded lines =>
    islandMessage 0x83#8
      (unsignedField 1 tag
        ++ [byteOf (codeOfOutcome outcome), byteOf (declineCodeOf outcome), byteOf degraded.toNat]
        ++ unsignedField 1 lines.length
        ++ lines.flatMap fun x => byteOf x.line.val :: unsignedField 4 x.volume ++ unsignedField 4 x.amount)

/-- A SITE_NOTICE message (R185). -/
def siteNoticeMessage (n : SiteNotice) : List Byte :=
  islandMessage 0x84#8 [byteOf n.halted.toNat, byteOfLink (some n.link)]

end Sys2Proof.Machine
end

