-- ==== Sys2Proof/Machine/Lines.lean ====
section
/-! DEFINITION. Line Control (chapter 4): pump requests and withdrawals, the forced stop, and PRICE_SET, LINE_READ,
LINE_RESTORE and RUN_ON_TIMER_EXPIRY. LINE_SET stands in Temperature.lean, since it changes the probe's rotation;
START_TIMER_EXPIRY stands in Points.lean, since it opens valves. -/

namespace Sys2Proof.Machine

/-- Whether LC takes requests on the line: AVAILABLE, and the site RUNNING (R93, R97). -/
def State.pumpAllowed (s : State) (l : Fin 4) : Bool :=
  (s.line l).state == .available && s.ss.site == .running

/-- The line after a request that joins its set: the pump starts, goes on, or comes back from RUN_ON (R94). -/
def Line.withRequest (x : Line) (p : Fin 32) : Line :=
  match x.pump with
  | .off =>
    { x with
      requesting := addPoint x.requesting p
      pump := .on
      delayMet := (x.config.map (·.startDelay)).getD 0 = 0
      startTimer :=
        if (x.config.map (·.startDelay)).getD 0 = 0 then .stopped
        else .running ((x.config.map (·.startDelay)).getD 0) }
  | .on => { x with requesting := addPoint x.requesting p }
  | .runOn =>
    { x with
      requesting := addPoint x.requesting p
      pump := .on
      delayMet := true
      runOnTimer := .stopped }

/-- A pump request of point `p` on line `l`, with whether pump ready goes to the point in the same step (R93, R94). -/
def requestPump (p : Fin 32) (l : Fin 4) (s : State) : State × Bool :=
  if !s.pumpAllowed l || hasPoint (s.line l).requesting p then (s, false)
  else (s.setLine l ((s.line l).withRequest p), ((s.line l).withRequest p).delayMet)

/-- The line after the withdrawal of a point in its set; when the set becomes empty while ON the pump runs on (R96). -/
def Line.withoutRequest (x : Line) (p : Fin 32) : Line :=
  if dropPoint x.requesting p = 0 ∧ x.pump = .on then
    { x with
      requesting := dropPoint x.requesting p
      pump := .runOn
      delayMet := true
      startTimer := .stopped
      runOnTimer := Timer.start ((x.config.map (·.runOn)).getD 0) }
  else { x with requesting := dropPoint x.requesting p }

/-- The withdrawal of a pump request; one for a point not in the set changes nothing (R93). -/
def withdrawPump (p : Fin 32) (l : Fin 4) (s : State) : State :=
  if hasPoint (s.line l).requesting p then s.setLine l ((s.line l).withoutRequest p) else s

/-- The line after the forced stop: OFF from any state, both timers stopped, the set empty, the mark no (R96). -/
def Line.stopped (x : Line) : Line :=
  { x with requesting := 0, pump := .off, delayMet := false, startTimer := .stopped, runOnTimer := .stopped }

/-- The forced stop of a line's pump (R96, R97). -/
def forcedStop (l : Fin 4) (s : State) : State := s.setLine l (s.line l).stopped

/-- The pump relay PMP of a line is energized in ON and RUN_ON (section 4.4). -/
def State.relay (s : State) (l : Fin 4) : Bool := (s.line l).pump != .off

/-- PRICE_SET (R90). -/
def doPriceSet (line price : Nat) (s : State) : State × Response :=
  match lineOf line with
  | none => (s, refusal .badParam)
  | some l =>
    if price ≤ 99999 then
      (s.setLine l { s.line l with price := price },
        okWith (unsignedField 3 (s.line l).price ++ unsignedField 3 price))
    else (s, refusal .badParam)

/-- LINE_READ (R92). -/
def doLineRead (line : Nat) (s : State) : State × Response :=
  match lineOf line with
  | none => (s, refusal .badParam)
  | some l => (s, okWith (lineAnswer s l))

/-- LINE_RESTORE (R151): back to AVAILABLE, or to UNCONFIGURED when the line has no class. -/
def doLineRestore (line : Nat) (s : State) : State × Response :=
  match lineOf line with
  | none => (s, refusal .badParam)
  | some l =>
    if (s.line l).state = .lockedOut then
      (s.setLine l { s.line l with state := if (s.line l).config.isSome then .available else .unconfigured },
        okWith [])
    else (s, refusal .wrongState)

/-- The run-on timer's expiry: the pump goes OFF and the mark becomes no (R96). A timer that does not run does not
expire (notes/assumptions/6.md). -/
def runOnExpiry (l : Fin 4) (s : State) : State :=
  if (s.line l).runOnTimer.mayExpire then
    s.setLine l { s.line l with pump := .off, delayMet := false, runOnTimer := .stopped }
  else s

/-- PRICE_SET. -/
def execPriceSet (line price : Nat) (s : State) : Host.Outcome State Fault Refusal :=
  .next (takeCommand (.priceSet line price) (doPriceSet line price) s)

/-- LINE_READ. -/
def execLineRead (line : Nat) (s : State) : Host.Outcome State Fault Refusal :=
  .next (takeCommand (.lineRead line) (doLineRead line) s)

/-- LINE_RESTORE. -/
def execLineRestore (line : Nat) (s : State) : Host.Outcome State Fault Refusal :=
  .next (takeCommand (.lineRestore line) (doLineRestore line) s)

/-- RUN_ON_TIMER_EXPIRY. -/
def execRunOnTimerExpiry (l : Fin 4) (s : State) : Host.Outcome State Fault Refusal :=
  .next (runOnExpiry l s)

end Sys2Proof.Machine
end

