-- ==== Sys2Proof/Machine/Points.lean ====
section
/-! DEFINITION. The Point Interface (chapter 3): the valve drive, close and slow orders, priming and the opening of a
valve, the pulser decoding of the Metering Unit (R100, R101), and POINT_SET, POINT_READ, POINT_ENABLE, PULSER_STEP,
DUTY_IN_FORCE_CHANGE and START_TIMER_EXPIRY. Lifts and hang-ups stand in Nozzles.lean. -/

namespace Sys2Proof.Machine

/-- The states in which a point holds a pump request and a close order acts (R71, R76). -/
def PointState.isOpenOrPriming : PointState → Bool
  | .priming | .flowing | .slowing => true
  | .disabled | .idle | .lifted | .settling | .outOfService => false

/-- The states of an open valve. -/
def PointState.isOpen : PointState → Bool
  | .flowing | .slowing => true
  | .disabled | .idle | .lifted | .priming | .settling | .outOfService => false

/-- The states that keep a CLOSING grant from settling (R30). -/
def PointState.blocksSettlement : PointState → Bool
  | .priming | .flowing | .slowing | .settling => true
  | .disabled | .idle | .lifted | .outOfService => false

/-- The states whose pulses go to creep watch (R104 step 4). -/
def PointState.creepWatched : PointState → Bool
  | .idle | .lifted | .priming | .outOfService => true
  | .disabled | .flowing | .slowing | .settling => false

/-- A stage duty set by a transition: a change to 0 takes force at once, any other at the next PWM period (R82). -/
def Point.withStage (x : Point) (duty : Nat) : Point :=
  { x with stageDuty := duty, dutyInForce := if duty = 0 then 0 else x.dutyInForce }

/-- The point on entry to SETTLING: valve closed, no-flow timer stopped, window loaded (R74, R76, R79). -/
def Point.settlingFrom (x : Point) (settleCount : Nat) : Point :=
  { x.withStage 0 with state := .settling, noFlow := .stopped, settleLeft := settleCount }

/-- The withdrawal of the pump request a point may hold on its own line (R71). -/
def withdrawOwn (p : Fin 32) (s : State) : State :=
  match (s.point p).config with
  | some c => withdrawPump p c.line s
  | none => s

/-- The valve of a point in PRIMING, FLOWING or SLOWING closes and the point enters SETTLING (R74, R76). -/
def closeValve (p : Fin 32) (s : State) : State :=
  withdrawOwn p (s.setPoint p ((s.point p).settlingFrom s.cp.timers.settle))

/-- A close order: it acts in PRIMING, FLOWING and SLOWING and changes nothing in any other state (R76). -/
def closeOrder (p : Fin 32) (s : State) : State :=
  if (s.point p).state.isOpenOrPriming then closeValve p s else s

/-- Close orders for a list of points. -/
def closeOrders (ps : List (Fin 32)) (s : State) : State := ps.foldl (fun s p => closeOrder p s) s

/-- A slow order: FLOWING becomes SLOWING at the line's slow duty; in any other state it changes nothing (R75). -/
def slowOrder (p : Fin 32) (s : State) : State :=
  match (s.point p).state, (s.point p).config with
  | .flowing, some c =>
    s.setPoint p { (s.point p).withStage (s.lineField c.line (·.slowDuty)) with state := .slowing }
  | _, _ => s

/-- Slow orders for a list of points. -/
def slowOrders (ps : List (Fin 32)) (s : State) : State := ps.foldl (fun s p => slowOrder p s) s

/-- The armed terms of the allowance a point draws on: its line's allowance in its grant (R72). -/
def State.termsOfPoint (s : State) (p : Fin 32) : Option Armed :=
  match (s.point p).config, (s.slotOfPoint p).bind s.grantAt with
  | some c, some g => (g.allowanceOn c.line).bind (·.armed)
  | _, _ => none

/-- The point as pump ready opens its valve: FLOWING at the full duty when the residual is above the slow margin,
else SLOWING at the slow duty; the no-flow timer starts, the creep count becomes 0 (R72, R77, R147). -/
def Point.opened (x : Point) (residual : Int) (slowMargin full slow noFlowCode : Nat) : Point :=
  if (slowMargin : Int) < residual then
    { x.withStage full with state := .flowing, noFlow := Timer.start noFlowCode, creep := 0 }
  else
    { x.withStage slow with state := .slowing, noFlow := Timer.start noFlowCode, creep := 0 }

/-- Pump ready reaches a point: in PRIMING it opens the valve and the GM sets the grant's flowed field (R72, R20); in
any other state it is discarded. -/
def pumpReady (p : Fin 32) (s : State) : State :=
  match (s.point p).state, (s.point p).config, s.slotOfPoint p, s.termsOfPoint p with
  | .priming, some c, some i, some terms =>
    (s.setPoint p
        ((s.point p).opened terms.residual (s.lineField c.line (·.slowMargin)) (s.lineField c.line (·.fullDuty))
          (s.lineField c.line (·.slowDuty)) s.cp.timers.noFlow)).modGrant i
      fun g => { g with flowed := true }
  | _, _, _, _ => s

/-- Entry to PRIMING: the pump request is placed, and pump ready may come in the same step (R71). -/
def enterPriming (p : Fin 32) (s : State) : State :=
  match (s.point p).config with
  | some c =>
    if (requestPump p c.line (s.setPoint p { s.point p with state := .priming })).2 then
      pumpReady p (requestPump p c.line (s.setPoint p { s.point p with state := .priming })).1
    else (requestPump p c.line (s.setPoint p { s.point p with state := .priming })).1
  | none => s

/-- The PI's own three conditions for a lift: the site RUNNING, the line AVAILABLE, the point not OUT_OF_SERVICE
(R70). -/
def State.liftConditions (s : State) (p : Fin 32) : Bool :=
  s.ss.site == .running
    && ((s.point p).config.any fun c => (s.line c.line).state == .available)
    && (s.point p).state != .outOfService

/-- A point counts as lifted while its nozzle switch is asserted (section 1.8). -/
def State.anyLifted (s : State) (ps : List (Fin 32)) : Bool := ps.any fun p => (s.point p).nozzle

/-- Detachment: the PI erases the attached tag; the point keeps its state (R84). -/
def detach (p : Fin 32) (s : State) : State := s.setPoint p { s.point p with tag := none }

/-- Detachment of a list of points. -/
def detachAll (ps : List (Fin 32)) (s : State) : State := ps.foldl (fun s p => detach p s) s

/-- The start timer's expiry: the mark becomes yes and pump ready goes to every PRIMING point of the line (R95). A
timer that does not run does not expire (notes/assumptions/6.md). -/
def startExpiry (l : Fin 4) (s : State) : State :=
  if (s.line l).startTimer.mayExpire then
    (allPoints.filter fun p => (s.point p).state == .priming && (s.point p).config.any (·.line == l)).foldl
      (fun s p => pumpReady p s)
      (s.setLine l { s.line l with delayMet := true, startTimer := .stopped })
  else s

/-! ### POINT_SET, POINT_READ, POINT_ENABLE -/

/-- The counters and latches cleared by POINT_SET, and the reference phase taken (R64, R102). -/
def Point.countersCleared (x : Point) (phase : Fin 4) : Point :=
  { x with
    phase := phase
    forward := 0
    reverse := 0
    errors := 0
    latchForward := 0
    latchReverse := 0
    latchErrors := 0 }

/-- POINT_SET's check 2: attached to no grant, and IDLE or DISABLED (R63). -/
def Point.settable (x : Point) : Bool := x.tag.isNone && (x.state == .idle || x.state == .disabled)

/-- The point after POINT_SET with a role other than NONE. A point that was DISABLED takes the switch level then
present, and is IDLE or LIFTED by it; its filter starts from that level (R64, R67). -/
def Point.configured (x : Point) (c : PointConfig) (level : Bool) (phase : Fin 4) : Point :=
  if x.state = .disabled then
    { x.countersCleared phase with
      config := some c, creep := 0, nozzle := level, state := if level then .lifted else .idle }
  else { x.countersCleared phase with config := some c, creep := 0 }

/-- The point after POINT_SET with role NONE: configuration erased, DISABLED (R64, R65). -/
def Point.disabledBy (x : Point) (phase : Fin 4) : Point :=
  { x.countersCleared phase with config := none, state := .disabled }

/-- POINT_SET (R63, R64). -/
def doPointSet (point : Nat) (arg : PointArg) (s : State) : State × Response :=
  match pointOf point, arg with
  | none, _ => (s, refusal .badParam)
  | some _, .unlisted => (s, refusal .badParam)
  | some p, .clear =>
    if (s.point p).settable then
      (s.setPoint p ((s.point p).disabledBy s.pins.phase[p.val]), okWith [byteOf (codeOfPointState .disabled)])
    else (s, refusal .pointBusy)
  | some p, .set role line k threshold creep =>
    match pointConfigOf role line k threshold creep with
    | none => (s, refusal .badParam)
    | some c =>
      if (s.point p).settable then
        (s.setPoint p ((s.point p).configured c s.pins.nozzle[p.val] s.pins.phase[p.val]),
          okWith
            [byteOf (codeOfPointState
              ((s.point p).configured c s.pins.nozzle[p.val] s.pins.phase[p.val]).state)])
      else (s, refusal .pointBusy)

/-- POINT_READ (R66). -/
def doPointRead (point : Nat) (s : State) : State × Response :=
  match pointOf point with
  | none => (s, refusal .badParam)
  | some p => (s, okWith (pointAnswer (s.point p)))

/-- POINT_ENABLE (R139): its four checks in order, then IDLE with the creep count at 0. -/
def doPointEnable (point : Nat) (s : State) : State × Response :=
  match pointOf point with
  | none => (s, refusal .badParam)
  | some p =>
    if (s.point p).state ≠ .outOfService then (s, refusal .wrongState)
    else if (s.point p).config.any fun c => (s.line c.line).state == .lockedOut then (s, refusal .lineLocked)
    else if (s.point p).nozzle then (s, refusal .pointBusy)
    else (s.setPoint p { s.point p with state := .idle, creep := 0 }, okWith [])

/-! ### Pulser and PWM -/

/-- A counter at its top stays there (R101). -/
def countUp (n : Nat) : Nat := min (n + 1) Config.counterTop

/-- The point after its pulser shows a new phase: one place forward is a forward step, one place back a reverse step,
two places a quadrature error; the phase reached is the new reference (R100). -/
def Point.stepped (x : Point) (phase : Fin 4) : Point :=
  if phase = x.phase then x
  else if phase = x.phase + 1 then { x with phase := phase, forward := countUp x.forward }
  else if phase + 1 = x.phase then { x with phase := phase, reverse := countUp x.reverse }
  else { x with phase := phase, errors := countUp x.errors }

/-- The pulser inputs of a point now stand at a phase; the MU decodes them unless the point is DISABLED (R65, R100). -/
def pulserStep (p : Fin 32) (phase : Fin 4) (s : State) : State :=
  if (s.point p).state = .disabled then
    { s with pins := { s.pins with phase := s.pins.phase.set p.val phase p.isLt } }
  else
    { s.setPoint p ((s.point p).stepped phase) with
      pins := { s.pins with phase := s.pins.phase.set p.val phase p.isLt } }

/-- At the start of a PWM period the stage duty takes force (R82). -/
def dutyTakesForce (p : Fin 32) (s : State) : State :=
  s.setPoint p { s.point p with dutyInForce := (s.point p).stageDuty }

/-- POINT_SET. -/
def execPointSet (point : Nat) (arg : PointArg) (s : State) : Host.Outcome State Fault Refusal :=
  .next (takeCommand (.pointSet point arg) (doPointSet point arg) s)

/-- POINT_READ. -/
def execPointRead (point : Nat) (s : State) : Host.Outcome State Fault Refusal :=
  .next (takeCommand (.pointRead point) (doPointRead point) s)

/-- POINT_ENABLE. -/
def execPointEnable (point : Nat) (s : State) : Host.Outcome State Fault Refusal :=
  .next (takeCommand (.pointEnable point) (doPointEnable point) s)

/-- PULSER_STEP. -/
def execPulserStep (p : Fin 32) (phase : Fin 4) (s : State) : Host.Outcome State Fault Refusal :=
  .next (pulserStep p phase s)

/-- DUTY_IN_FORCE_CHANGE. -/
def execDutyInForceChange (p : Fin 32) (s : State) : Host.Outcome State Fault Refusal :=
  .next (dutyTakesForce p s)

/-- START_TIMER_EXPIRY. -/
def execStartTimerExpiry (l : Fin 4) (s : State) : Host.Outcome State Fault Refusal :=
  .next (startExpiry l s)

end Sys2Proof.Machine
end

