-- ==== Sys2Proof/Machine/Bus.lean ====
section
/-! DEFINITION. The Island Bus Interface (chapter 9): the bus monitor and the stuck timer, the reply slots, the notice
queues and the transfers as master. The rows here are START_CONDITION, STOP_CONDITION, ADDRESS_BYTE, WRITE_PHASE_END,
REPLY_READ, BUS_STUCK_TIMER_EXPIRY, RETRY_WAIT_END, NOTICE_TRANSFER_START, LANE_NOTICE_TRANSFER_END,
GENERAL_CALL_TRANSFER_END and ARBITRATION_LOSS. -/

namespace Sys2Proof.Machine

/-- The state with the IBI changed. -/
def State.modIbi (s : State) (f : IslandBus → IslandBus) : State := { s with ibi := f s.ibi }

/-! ### Notices -/

/-- The transfer in flight after its notice has left its place (R182). -/
def BusState.overtaken (b : BusState) (n : Fin 8) : BusState :=
  match b with
  | .masterTx (.lane l current) => .masterTx (.lane l (current && l != n))
  | b => b

/-- A notice is queued for a lane: a full queue of 2 loses its oldest, and with the head the attempt count and the
retry wait (R176, R182). -/
def queueNotice (n : Fin 8) (x : Notice) (s : State) : State :=
  if (s.lane n).notices.length < 2 then
    s.setLane n { s.lane n with notices := (s.lane n).notices ++ [x] }
  else
    (s.setLane n
        { s.lane n with notices := (s.lane n).notices.drop 1 ++ [x], attempts := 0, retryWait := false }).modIbi
      fun b => { b with state := b.state.overtaken n }

/-- The SITE_NOTICE of this moment: a site in HALTING is reported as HALTED (R161). -/
def State.siteNotice (s : State) : SiteNotice :=
  { halted := s.ss.site != .running, link := s.su.link }

/-- A SITE_NOTICE is placed in the general-call slot, replacing the one there (R161, R177, R182). -/
def placeSiteNotice (s : State) : State :=
  s.modIbi fun b =>
    { b with
      general := some s.siteNotice
      state :=
        match b.state with
        | .masterTx (.general _) => .masterTx (.general false)
        | other => other }

/-! ### Replies -/

/-- The REPLY of a read with nothing to answer (R173). -/
def noReply : Reply := { result := .noReply, tag := 0, caps := [] }

/-- The read of a lane's slot with `n` bytes clocked: the REPLY or NO_REPLY is sent, and a REPLY clocked to its check
byte has been read (R173). -/
def sendReply (lane : Fin 8) (n : Nat) (s : State) : State :=
  match (s.lane lane).reply with
  | some r =>
    (if (replyMessage r).length ≤ n then s.setLane lane { s.lane lane with reply := none } else s).modIbi
      fun b => { b with sent := clockOut (replyMessage r) n, stretch := none }
  | none => s.modIbi fun b => { b with sent := clockOut (replyMessage noReply) n, stretch := none }

/-- A lane's request is in processing while the answer to its newest message is still to come (R171, R172). -/
def IslandBus.processing (x : IslandBus) (n : Fin 8) : Bool := x.inProcess.any fun e => e.lane == n && !e.discarded

/-- The answer is placed in the lane's slot; a read that waits under clock stretch goes on with it (R172, R174). -/
def placeReply (lane : Fin 8) (r : Reply) (s : State) : State :=
  let placed := s.setLane lane { s.lane lane with reply := some r }
  match s.ibi.state, s.ibi.stretch with
  | .slaveTx l, some n => if l = lane then sendReply lane n placed else placed
  | _, _ => placed

/-- The flush of lane `n`: notice queue and reply slot emptied, attempts and retry wait reset, and the answers of its
earlier messages still in processing to be discarded (R171); a transfer of its notice, if one is in flight, no longer
sends the head (R182). -/
def flushLane (n : Fin 8) (s : State) : State :=
  (s.setLane n Lane.atReset).modIbi fun b =>
    { b with
      state := b.state.overtaken n
      inProcess := b.inProcess.map fun e => if e.lane = n then { e with discarded := true } else e }

/-- The answer FORMAT (R170). -/
def formatReply : Reply := { result := .format, tag := 0, caps := [] }

/-- The messages left in processing once the oldest is taken. The malformed ones at their head are answered FORMAT by the
IBI in their turn, which has come (R170, R175). -/
def goOnWith : List InProcess → State → State
  | [], s => s.modIbi fun b => { b with inProcess := [] }
  | e :: rest, s =>
    if e.message = .malformed then goOnWith rest (if e.discarded then s else placeReply e.lane formatReply s)
    else s.modIbi fun b => { b with inProcess := e :: rest }

/-- The oldest message in processing is taken by the block that answers it. -/
def takeOldest (s : State) : State := goOnWith (s.ibi.inProcess.drop 1) s

/-- How a block's row meets the messages in processing (notes/assumptions/4.md): the oldest message taken with its
answer to be placed or to be discarded, a row that stands for the whole write, or a row for another message. -/
inductive Taking where
  | placed | discarded | direct | absent
deriving DecidableEq, Repr

/-- Which of these it is for message `m` of lane `n`: messages are taken in the order the IBI took them, whatever their
lanes (R175). -/
def IslandBus.taking (x : IslandBus) (n : Fin 8) (m : LaneMessage) : Taking :=
  match x.inProcess with
  | [] => .direct
  | e :: _ => if e.lane = n ∧ e.message = m then (if e.discarded then .discarded else .placed) else .absent

/-- The row of a block that answers a lane's message: the effect is made, and the answer placed or discarded (R171,
R172). With no message in processing the row stands for the whole write, and the lane is flushed first (R171). -/
def answerMessage (lane : Fin 8) (m : LaneMessage) (act : State → State × Reply) (s : State) : State :=
  match s.ibi.taking lane m with
  | .placed =>
    let out := act (takeOldest s)
    placeReply lane out.2 out.1
  | .discarded => (act (takeOldest s)).1
  | .direct =>
    let out := act (flushLane lane s)
    placeReply lane out.2 out.1
  | .absent => s

/-! ### The bus monitor -/

/-- The lane of an address byte that names one of the part's addresses 0x28 to 0x2F, and its direction bit, yes for a
read (R164, R168). -/
def laneOfAddress (b : Byte) : Option (Fin 8 × Bool) :=
  (laneOf (b.toNat / 2 - 0x28)).bind fun n => if 0x28 ≤ b.toNat / 2 then some (n, b.toNat % 2 == 1) else none

/-- The IBI after an address byte: SLAVE_RX or SLAVE_TX at a lane address, else still BUSY_OTHER (R165). -/
def IslandBus.addressed (x : IslandBus) (b : Byte) : IslandBus :=
  match laneOfAddress b with
  | some (n, true) => { x with state := .slaveTx n, stretch := none }
  | some (n, false) => { x with state := .slaveRx n, received := [] }
  | none => { x with state := .busyOther false }

/-- The part's own transfer is over, or given up, with `n` bytes of it sent whole: it sends nothing more of it (R167,
R179, R181). Outside MASTER_TX there is no such transfer. -/
def IslandBus.cut (x : IslandBus) (n : Nat) : IslandBus :=
  match x.state with
  | .masterTx _ => { x with sent := x.outgoing.take n, outgoing := [] }
  | _ => x

/-- In MASTER_TX the part's own transfer is broken off by a condition that does not say how far it had come (R167, R181);
that number is free (notes/assumptions/16.md). -/
def breakOff (s : State) : State :=
  match s.ibi.state with
  | .masterTx _ => { s.modIbi (·.cut (Config.wholeBytes s.draws)) with draws := s.draws + 1 }
  | _ => s

/-- A START or repeated START of another party (R165, R166); in MASTER_TX it is a loss of arbitration (R181). In STUCK
it changes nothing (R167). -/
def IslandBus.started (x : IslandBus) : IslandBus :=
  match x.state with
  | .stuck => x
  | _ =>
    { x with
      state := .busyOther true
      stuckTimer := if x.busy then x.stuckTimer else true
      busy := true
      stretch := none }

/-- A STOP: bus busy is cleared, the stuck timer stops, and the IBI is FREE, from STUCK as well (R165 to R167). -/
def IslandBus.stoppedAt (x : IslandBus) : IslandBus :=
  { x with state := .free, busy := false, stuckTimer := false, stretch := none }

/-- An address byte is taken while the IBI waits for one (R165). -/
def addressByte (b : Byte) (s : State) : State :=
  match s.ibi.state with
  | .busyOther true => s.modIbi (·.addressed b)
  | _ => s

/-- The bus-stuck timer's expiry: both lines released, the transfer abandoned, STUCK entered, BUS_FAULT raised (R166,
R167). A timer that does not run does not expire. -/
def busStuck (s : State) : State :=
  if s.ibi.stuckTimer then
    ((breakOff s).modIbi fun b =>
      { b with state := .stuck, stuckTimer := false, stretch := none, received := [] }).raiseBusFault
  else s

/-! ### A terminal's write -/

/-- A message handed on joins the messages in processing (R170, R172). -/
def handOn (lane : Fin 8) (m : LaneMessage) (s : State) : State :=
  s.modIbi fun b => { b with inProcess := b.inProcess ++ [{ lane := lane, message := m, discarded := false }] }

/-- A malformed message is answered FORMAT by the IBI: at once, or behind the messages it took before (R170, R172,
R175). -/
def answerFormat (lane : Fin 8) (s : State) : State :=
  if s.ibi.inProcess = [] then placeReply lane formatReply s else handOn lane .malformed s

/-- The sorting of a message (R170): a bad check byte or an unknown kind is answered FORMAT; an AUTH_REQUEST goes to
the Screening Unit; a CANCEL of the declared length with a tag of 1 to 255 goes to the Grant Manager. -/
def sortMessage (lane : Fin 8) (message : List Byte) (s : State) : State :=
  if checkGood message then
    match message with
    | kind :: rest =>
      if kind = 1#8 then handOn lane (.auth (authOfMessage message)) s
      else if kind = 2#8 then
        match rest with
        | [n, tag, _] =>
          if n = 1#8 ∧ tag ≠ 0#8 then handOn lane (.cancel tag.toNat) s else answerFormat lane s
        | _ => answerFormat lane s
      else answerFormat lane s
    | [] => answerFormat lane s
  else answerFormat lane s

/-- The message the receive buffer holds is taken from the lane: nothing for an empty write, else the lane is flushed
and the message sorted (R169, R171). The buffer is then empty. -/
def takeMessage (lane : Fin 8) (s : State) : State :=
  match s.ibi.received with
  | [] => s
  | b :: rest =>
    sortMessage lane (b :: rest) (flushLane lane (s.modIbi fun x => { x with received := [] }))

/-- The condition that ended the write moves the bus monitor (R165). -/
def IslandBus.ended (x : IslandBus) : WriteEnd → IslandBus
  | .repeatedStart => x.started
  | .stop => x.stoppedAt

/-- The end of a terminal's write in SLAVE_RX: the buffer keeps the first 64 bytes, the message is taken, and only then
the repeated START or STOP acts (R165, R169). -/
def writePhaseEnd (bytes : List Byte) (ending : WriteEnd) (s : State) : State :=
  match s.ibi.state with
  | .slaveRx lane =>
    (takeMessage lane (s.modIbi fun x => { x with received := bytes.take Config.islandBufferSize })).modIbi
      (·.ended ending)
  | _ => s

/-- A terminal's read in SLAVE_TX: the REPLY or NO_REPLY is sent, or the clock is stretched while the lane's request is
in processing (R173, R174). -/
def replyRead (n : Nat) (s : State) : State :=
  match s.ibi.state with
  | .slaveTx lane =>
    if s.ibi.processing lane then s.modIbi fun b => { b with stretch := some n, sent := [] }
    else sendReply lane n s
  | _ => s

/-! ### The part as master -/

/-- The lanes in the cyclic order that starts after the lane served last (R178). -/
def lanesAfter (last : Fin 8) : List (Fin 8) := allLanes.map fun k => last + 1 + k

/-- The first lane with a notice whose retry wait is not running, and its head notice (R178). -/
def State.nextLane (s : State) : Option (Fin 8 × Notice) :=
  (lanesAfter s.ibi.lastServed).findSome? fun n =>
    if (s.lane n).retryWait then none else (s.lane n).notices.head?.map (n, ·)

/-- A transfer of the part's own begins: its START sets bus busy and starts the stuck timer, and its bytes are to go out
one by one (R166, R179, R180). -/
def IslandBus.master (x : IslandBus) (t : Transfer) (bytes : List Byte) : IslandBus :=
  { x with
    state := .masterTx t
    stuckTimer := if x.busy then x.stuckTimer else true
    busy := true
    outgoing := bytes
    sent := [] }

/-- With the bus FREE and both lines high, the IBI starts the general-call notice, else the next lane's head notice,
else nothing (R178). -/
def startTransfer (s : State) : State :=
  match s.ibi.state with
  | .free =>
    match s.ibi.general, s.nextLane with
    | some notice, _ => s.modIbi (·.master (.general true) (0#8 :: siteNoticeMessage notice))
    | none, some (n, notice) =>
      s.modIbi (·.master (.lane n true) (byteOf ((0x30 + n.val) * 2) :: noticeMessage notice))
    | none, none => s
  | _ => s

/-- A lane after its head notice was delivered (R179). -/
def Lane.delivered (x : Lane) : Lane :=
  { x with notices := x.notices.drop 1, attempts := 0, retryWait := false }

/-- A lane after a NAK: counted and passed over for 20 ms, or at the third attempt its notice lost (R179). -/
def Lane.refused (x : Lane) : Lane :=
  if x.attempts + 1 < 3 then { x with attempts := x.attempts + 1, retryWait := true }
  else { x with notices := x.notices.drop 1, attempts := 0, retryWait := true }

/-- The bytes of a transfer sent whole at its STOP: all of them, or those up to the byte NAKed (R179). -/
def sentBytes (bytes : List Byte) : Option Nat → Nat
  | none => bytes.length
  | some k => k + 1

/-- At the STOP of a lane notice transfer, which comes at the first NAK or after the last byte (R178, R179, R182). -/
def laneTransferEnd (nak : Option Nat) (s : State) : State :=
  match s.ibi.state with
  | .masterTx (.lane n current) =>
    let free := s.modIbi fun b => { (b.cut (sentBytes b.outgoing nak)).stoppedAt with lastServed := n }
    if !current then free
    else if nak.isNone then free.setLane n (s.lane n).delivered
    else if (s.lane n).attempts + 1 < 3 then free.setLane n (s.lane n).refused
    else (free.setLane n (s.lane n).refused).raiseTerminalSilent n
  | _ => s

/-- At the STOP of a general-call transfer, every byte sent: the slot is emptied if it still holds the notice sent (R180,
R182). -/
def generalTransferEnd (s : State) : State :=
  match s.ibi.state with
  | .masterTx (.general current) =>
    s.modIbi fun b => { (b.cut b.outgoing.length).stoppedAt with general := if current then none else b.general }
  | _ => s

/-- The IBI loses arbitration: it sends nothing more of its own and goes on as a listener, or as the addressed slave when
the winner's address byte is one of its own (R181). Nothing is counted and the notice keeps its place. -/
def arbitrationLoss (loss : ArbitrationLoss) (s : State) : State :=
  match s.ibi.state with
  | .masterTx _ =>
    match loss with
    | .address winner => s.modIbi fun b => (b.cut 0).addressed winner
    | .data complete => s.modIbi fun b => { b.cut (complete + 1) with state := .busyOther false }
  | _ => s

/-- A lane's retry wait ends (R179). -/
def retryWaitEnd (n : Fin 8) (s : State) : State := s.setLane n { s.lane n with retryWait := false }

/-! ### The rows -/

/-- START_CONDITION. -/
def execStartCondition (s : State) : Host.Outcome State Fault Refusal :=
  .next ((breakOff s).modIbi (·.started))

/-- STOP_CONDITION. -/
def execStopCondition (s : State) : Host.Outcome State Fault Refusal :=
  .next ((breakOff s).modIbi (·.stoppedAt))

/-- ADDRESS_BYTE. -/
def execAddressByte (b : Byte) (s : State) : Host.Outcome State Fault Refusal :=
  .next (addressByte b s)

/-- WRITE_PHASE_END. -/
def execWritePhaseEnd (bytes : List Byte) (ending : WriteEnd) (s : State) : Host.Outcome State Fault Refusal :=
  .next (writePhaseEnd bytes ending s)

/-- REPLY_READ. -/
def execReplyRead (n : Nat) (s : State) : Host.Outcome State Fault Refusal :=
  .next (replyRead n s)

/-- BUS_STUCK_TIMER_EXPIRY. -/
def execBusStuckTimerExpiry (s : State) : Host.Outcome State Fault Refusal :=
  .next (busStuck s)

/-- RETRY_WAIT_END. -/
def execRetryWaitEnd (n : Fin 8) (s : State) : Host.Outcome State Fault Refusal :=
  .next (retryWaitEnd n s)

/-- NOTICE_TRANSFER_START. -/
def execNoticeTransferStart (s : State) : Host.Outcome State Fault Refusal :=
  .next (startTransfer s)

/-- LANE_NOTICE_TRANSFER_END. -/
def execLaneNoticeTransferEnd (nak : Option Nat) (s : State) : Host.Outcome State Fault Refusal :=
  .next (laneTransferEnd nak s)

/-- GENERAL_CALL_TRANSFER_END. -/
def execGeneralCallTransferEnd (s : State) : Host.Outcome State Fault Refusal :=
  .next (generalTransferEnd s)

/-- ARBITRATION_LOSS. -/
def execArbitrationLoss (loss : ArbitrationLoss) (s : State) : Host.Outcome State Fault Refusal :=
  .next (arbitrationLoss loss s)

end Sys2Proof.Machine
end

