-- ==== Sys2Proof/Machine/Tables.lean ====
section
/-! DEFINITION. The Screening Unit's tables (chapter 2): the program table, the deny set, the stand-in tally with its
checks and bookings, link state and site date; and the rows PROGRAM_PUT to TALLY_CLEAR, LINK_SET and DATE_SET. -/

namespace Sys2Proof.Machine

/-- The state with the Screening Unit changed. -/
def State.modSu (s : State) (f : ScreeningUnit → ScreeningUnit) : State := { s with su := f s.su }

/-! ### The program table -/

/-- Two ranges overlap when each one's low prefix is at most the other's high one (R36). -/
def overlaps (a b : Program) : Bool := a.low ≤ b.high && b.low ≤ a.high

/-- The entry takes the place in ascending order that its low prefix gives it (R38). -/
def insertProgram (p : Program) : List Program → List Program
  | [] => [p]
  | q :: rest => if p.low < q.low then p :: q :: rest else q :: insertProgram p rest

/-- The entry whose range contains a program prefix (R36). -/
def coveringProgram (programs : List Program) (pre : Nat) : Option Program :=
  programs.find? fun e => e.low ≤ pre && pre ≤ e.high

/-- The table after PROGRAM_PUT (R38): an entry of the same id is replaced. -/
def putProgram (p : Program) (programs : List Program) : List Program :=
  insertProgram p (programs.filter (·.id != p.id))

/-- PROGRAM_PUT (R37, R38). -/
def doProgramPut (e : ProgramArg) (s : State) : State × Response :=
  match programOf e with
  | none => (s, refusal .badParam)
  | some p =>
    if s.su.programs.any fun q => q.id != p.id && overlaps p q then (s, refusal .overlap)
    else if !(s.su.programs.any (·.id == p.id)) && Config.programSlots ≤ s.su.programs.length then
      (s, refusal .tableFull)
    else
      (s.modSu fun u => { u with programs := putProgram p u.programs },
        okWith
          [if s.su.programs.any (·.id == p.id) then 2#8 else 1#8,
           byteOf ((putProgram p s.su.programs).findIdx (·.id == p.id))])

/-- PROGRAM_DROP (R39). -/
def doProgramDrop (id : Nat) (s : State) : State × Response :=
  if 31 < id then (s, refusal .badParam)
  else if s.su.programs.any (·.id == id) then
    (s.modSu fun u => { u with programs := u.programs.filter (·.id != id) }, okWith [])
  else (s, refusal .notFound)

/-- PROGRAM_READ (R40). -/
def doProgramRead (index : Nat) (s : State) : State × Response :=
  if 31 < index then (s, refusal .badParam)
  else
    match s.su.programs[index]? with
    | some p => (s, okWith (bytesOfProgram p.toArg))
    | none => (s, refusal .empty)

/-! ### The deny set -/

/-- DENY_ADD (R43). -/
def doDenyAdd (pan : Pan) (s : State) : State × Response :=
  if !panValid pan then (s, refusal .badParam)
  else if s.su.denied.contains pan then (s, okWith [2#8])
  else if Config.denySlots ≤ s.su.denied.length then (s, refusal .tableFull)
  else (s.modSu fun u => { u with denied := u.denied ++ [pan] }, okWith [1#8])

/-- DENY_DROP (R44). -/
def doDenyDrop (pan : Pan) (s : State) : State × Response :=
  if !panValid pan then (s, refusal .badParam)
  else if s.su.denied.contains pan then
    (s.modSu fun u => { u with denied := u.denied.filter (· != pan) }, okWith [])
  else (s, refusal .notFound)

/-- DENY_TEST (R44). -/
def doDenyTest (pan : Pan) (s : State) : State × Response :=
  if !panValid pan then (s, refusal .badParam)
  else (s, okWith [if s.su.denied.contains pan then 1#8 else 0#8])

/-- DENY_CLEAR (R44). -/
def doDenyClear (s : State) : State × Response :=
  (s.modSu fun u => { u with denied := [] }, okWith (unsignedField 2 s.su.denied.length))

/-! ### The stand-in tally -/

/-- The positions of the tally in ascending order (R58). -/
def allPositions : List (Fin 128) := List.finRange 128

/-- The entry at a position, if it is not empty. -/
def ScreeningUnit.entryAt (u : ScreeningUnit) (k : Fin 128) : Option TallyEntry := u.tally[k.val]

/-- The tally with a position replaced. -/
def ScreeningUnit.setEntry (u : ScreeningUnit) (k : Fin 128) (x : Option TallyEntry) : ScreeningUnit :=
  { u with tally := u.tally.set k.val x k.isLt }

/-- The position of the entry of a PAN; no two entries hold the same one (R58). -/
def ScreeningUnit.positionOf (u : ScreeningUnit) (pan : Pan) : Option (Fin 128) :=
  allPositions.find? fun k => (u.entryAt k).any (·.pan == pan)

/-- The lowest-numbered empty position (R58). -/
def ScreeningUnit.emptyPosition (u : ScreeningUnit) : Option (Fin 128) :=
  allPositions.find? fun k => (u.entryAt k).isNone

/-- The entry of a PAN. -/
def ScreeningUnit.entryOf (u : ScreeningUnit) (pan : Pan) : Option TallyEntry :=
  (u.positionOf pan).bind u.entryAt

/-- What the stand-in checks give (R53). -/
inductive StandinVerdict where
  | approved | refused | tallyFull
deriving DecidableEq, Repr

/-- Whether the program's mode permits stand-in on this path: at screening OFFLINE or OFFLINE_AND_TIMEOUT, at a decision
timeout only OFFLINE_AND_TIMEOUT (R53). -/
def modePermits (timeout : Bool) : StandinMode → Bool
  | .never => false
  | .offline => !timeout
  | .offlineAndTimeout => true

/-- The stand-in checks, in their order (R53). -/
def standinChecks (timeout : Bool) (pan : Pan) (p : Program) (u : ScreeningUnit) : StandinVerdict :=
  if !modePermits timeout p.mode then .refused
  else if p.countLimit ≤ ((u.entryOf pan).map (·.count)).getD 0 then .refused
  else if (u.positionOf pan).isNone && u.emptyPosition.isNone then .tallyFull
  else .approved

/-- The booking of a stand-in approval (R54). -/
def ScreeningUnit.book (u : ScreeningUnit) (pan : Pan) (program : Nat) : ScreeningUnit :=
  match u.positionOf pan with
  | some k => u.setEntry k ((u.entryAt k).map fun e => { e with count := e.count + 1 })
  | none =>
    match u.emptyPosition with
    | some k => u.setEntry k (some { pan := pan, program := program, count := 1, amount := 0 })
    | none => u

/-- A settled stand-in grant's total amount joins the card's entry, held at 99,999,999; without an entry it is
discarded (R59). -/
def ScreeningUnit.addAmount (u : ScreeningUnit) (pan : Pan) (amount : Nat) : ScreeningUnit :=
  match u.positionOf pan with
  | some k =>
    u.setEntry k ((u.entryAt k).map fun e => { e with amount := min (e.amount + amount) Config.tallyAmountTop })
  | none => u

/-- The data of a tally entry as TALLY_READ sends it. -/
def tallyField (e : TallyEntry) : List Byte :=
  bytesOfPan e.pan ++ unsignedField 1 e.program ++ unsignedField 1 e.count ++ unsignedField 4 e.amount

/-- TALLY_READ (R60). -/
def doTallyRead (position : Nat) (s : State) : State × Response :=
  if h : position < 128 then
    match s.su.entryAt ⟨position, h⟩ with
    | some e => (s, okWith (tallyField e))
    | none => (s, refusal .empty)
  else (s, refusal .badParam)

/-- TALLY_DROP (R61). -/
def doTallyDrop (pan : Pan) (s : State) : State × Response :=
  if !panValid pan then (s, refusal .badParam)
  else
    match s.su.positionOf pan, s.su.entryOf pan with
    | some k, some e =>
      (s.modSu fun u => u.setEntry k none, okWith (unsignedField 1 e.count ++ unsignedField 4 e.amount))
    | _, _ => (s, refusal .notFound)

/-- TALLY_CLEAR (R61). -/
def doTallyClear (s : State) : State × Response :=
  (s.modSu fun u => { u with tally := Vector.replicate 128 none }, okWith (unsignedField 1 (tallyCount s)))

/-! ### Link state and site date -/

/-- LINK_SET (R45): a change places a SITE_NOTICE with the new link state. -/
def doLinkSet (link : Option LinkState) (s : State) : State × Response :=
  match link with
  | none => (s, refusal .badParam)
  | some l =>
    if s.su.link = l then (s, okWith [])
    else (placeSiteNotice (s.modSu fun u => { u with link := l }), okWith [])

/-- DATE_SET (R46); `none` is UNSET. -/
def doDateSet (date : Option Yymm) (s : State) : State × Response :=
  if date.all yymmValid then (s.modSu fun u => { u with date := date }, okWith [])
  else (s, refusal .badParam)

/-! ### The rows -/

/-- PROGRAM_PUT. -/
def execProgramPut (e : ProgramArg) (s : State) : Host.Outcome State Fault Refusal :=
  .next (takeCommand (.programPut e) (doProgramPut e) s)

/-- PROGRAM_DROP. -/
def execProgramDrop (id : Nat) (s : State) : Host.Outcome State Fault Refusal :=
  .next (takeCommand (.programDrop id) (doProgramDrop id) s)

/-- PROGRAM_READ. -/
def execProgramRead (index : Nat) (s : State) : Host.Outcome State Fault Refusal :=
  .next (takeCommand (.programRead index) (doProgramRead index) s)

/-- DENY_ADD. -/
def execDenyAdd (pan : Pan) (s : State) : Host.Outcome State Fault Refusal :=
  .next (takeCommand (.denyAdd pan) (doDenyAdd pan) s)

/-- DENY_DROP. -/
def execDenyDrop (pan : Pan) (s : State) : Host.Outcome State Fault Refusal :=
  .next (takeCommand (.denyDrop pan) (doDenyDrop pan) s)

/-- DENY_TEST. -/
def execDenyTest (pan : Pan) (s : State) : Host.Outcome State Fault Refusal :=
  .next (takeCommand (.denyTest pan) (doDenyTest pan) s)

/-- DENY_CLEAR. -/
def execDenyClear (s : State) : Host.Outcome State Fault Refusal :=
  .next (takeCommand .denyClear doDenyClear s)

/-- TALLY_READ. -/
def execTallyRead (position : Nat) (s : State) : Host.Outcome State Fault Refusal :=
  .next (takeCommand (.tallyRead position) (doTallyRead position) s)

/-- TALLY_DROP. -/
def execTallyDrop (pan : Pan) (s : State) : Host.Outcome State Fault Refusal :=
  .next (takeCommand (.tallyDrop pan) (doTallyDrop pan) s)

/-- TALLY_CLEAR. -/
def execTallyClear (s : State) : Host.Outcome State Fault Refusal :=
  .next (takeCommand .tallyClear doTallyClear s)

/-- LINK_SET. -/
def execLinkSet (link : Option LinkState) (s : State) : Host.Outcome State Fault Refusal :=
  .next (takeCommand (.linkSet link) (doLinkSet link) s)

/-- DATE_SET. -/
def execDateSet (date : Option Yymm) (s : State) : Host.Outcome State Fault Refusal :=
  .next (takeCommand (.dateSet date) (doDateSet date) s)

end Sys2Proof.Machine
end

