-- ==== Sys2Proof/Machine/Grants.lean ====
section
/-! DEFINITION. The Grant Manager's shared operations (chapter 1): settlement, closing, the completion tests, the
grant timers, holds, arming, creation, and the reports of lifts, hang-ups, exhaustion and removed points. -/

namespace Sys2Proof.Machine

/-- The state with the Grant Manager changed. -/
def State.modGm (s : State) (f : GrantManager → GrantManager) : State := { s with gm := f s.gm }

/-! ### Settlement -/

/-- The caps a DECISION or an APPROVED reply carries: per allowance, in ascending line order (R185). -/
def Grant.caps (g : Grant) : List Cap :=
  g.allowances.filterMap fun a => a.armed.map fun t => { line := a.line, cap := t.cap }

/-- The SALE_END notice of a grant (R31, R185). -/
def Grant.saleEnd (g : Grant) : Notice :=
  .saleEnd g.tag g.outcome g.degraded
    (g.allowances.map fun a => { line := a.line, volume := a.volume, amount := a.amount })

/-- A grant as it enters SETTLED: its timers stopped, its attached set empty (R31). -/
def Grant.settledForm (g : Grant) : Grant :=
  { g with
    state := .settled
    attached := []
    decisionTimer := .stopped
    liftTimer := .stopped
    idleEndTimer := .stopped
    holdTimer := .stopped }

/-- The stand-in amount handed to the Screening Unit (R31, R59). -/
def handAmount (g : Grant) (s : State) : State :=
  match g.source, g.card with
  | some .standinOffline, some c => s.modSu (·.addAmount c.pan g.totalAmount)
  | some .standinTimeout, some c => s.modSu (·.addAmount c.pan g.totalAmount)
  | _, _ => s

/-- Settlement in the order of R31: timers, state, queues, detachment, SALE_END, tally. -/
def settleCore (i : Fin 24) (s : State) : State :=
  match s.grantAt i with
  | some g =>
    if g.state = .settled then s
    else
      handAmount g
        (queueNotice g.lane g.saleEnd
          (detachAll g.attached
            ((s.setSlot i (some g.settledForm)).modGm fun m =>
              { m with
                pendingTags := m.pendingTags.filter (· != g.tag)
                settledTags := m.settledTags ++ [g.tag] })))
  | none => s

/-- Whether some grant of the table is CLOSING (R157). -/
def State.anyClosing (s : State) : Bool := s.grants.any (·.state == .closing)

/-- The Site Supervisor's completion test: HALTING becomes HALTED when no grant is CLOSING, and HALT_COMPLETE is raised
(R157). -/
def haltTest (s : State) : State :=
  if s.ss.site = .halting ∧ s.anyClosing = false then
    { s with ss := { s.ss with site := .halted } }.raiseHaltComplete
  else s

/-- Settlement, and the test that the Site Supervisor makes each time a grant settles (R31, R157). -/
def settle (i : Fin 24) (s : State) : State := haltTest (settleCore i s)

/-- A CLOSING grant may settle when none of its attached points is in PRIMING, FLOWING, SLOWING or SETTLING (R30). -/
def State.completionDue (s : State) (i : Fin 24) : Bool :=
  (s.grantAt i).any fun g =>
    g.state == .closing && g.attached.all fun p => !(s.point p).state.blocksSettlement

/-- The completion test of R30. -/
def completionTest (i : Fin 24) (s : State) : State := if s.completionDue i then settle i s else s

/-! ### Closing and holding -/

/-- A grant as it enters CLOSING: outcome recorded, lift, idle-end and hold timers stopped (R29, R1). -/
def Grant.closingForm (g : Grant) (r : EndReason) : Grant :=
  { g.recordOutcome r with
    state := .closing
    liftTimer := .stopped
    idleEndTimer := .stopped
    holdTimer := .stopped }

/-- Entry to CLOSING without its completion test (R29). -/
def enterClosingCore (i : Fin 24) (r : EndReason) (s : State) : State :=
  match s.grantAt i with
  | some g => closeOrders g.attached (s.setSlot i (some (g.closingForm r)))
  | none => s

/-- Entry to CLOSING, with the completion test as soon as the entry is done (R29, R30). -/
def enterClosing (i : Fin 24) (r : EndReason) (s : State) : State :=
  completionTest i (enterClosingCore i r s)

/-- The outcome is recorded and the grant settles at once (R22, R27, R28). -/
def endNow (i : Fin 24) (r : EndReason) (s : State) : State :=
  settle i (s.modGrant i (·.recordOutcome r))

/-- A grant as it enters HELD (R140). -/
def Grant.heldForm (g : Grant) (holdCode : Nat) : Grant :=
  { g with
    state := .held
    liftTimer := .stopped
    idleEndTimer := .stopped
    holdTimer := Timer.start holdCode }

/-- Entry to HELD: the grant's open points close and the hold timer starts (R140). -/
def enterHeld (i : Fin 24) (s : State) : State :=
  match s.grantAt i with
  | some g => closeOrders g.attached (s.setSlot i (some (g.heldForm s.cp.timers.hold)))
  | none => s

/-! ### The lift and idle-end timers -/

/-- The timer test of R21: when no attached point of a FUELING grant is lifted, the idle-end timer starts if it has
flowed and the lift timer if not. -/
def startWaitTimer (i : Fin 24) (s : State) : State :=
  match s.grantAt i with
  | some g =>
    if g.state = .fueling ∧ s.anyLifted g.attached = false then
      s.setSlot i
        (some
          (if g.flowed then { g with idleEndTimer := Timer.start s.cp.timers.idleEnd }
           else { g with liftTimer := Timer.start s.cp.timers.lift }))
    else s
  | none => s

/-- A point that entered OUT_OF_SERVICE leaves the attached set; a timer already running keeps running; a CLOSING grant
makes its completion test (R26). -/
def removePoint (i : Fin 24) (p : Fin 32) (s : State) : State :=
  match s.grantAt i with
  | some g =>
    let removed := s.setSlot i (some { g with attached := g.attached.filter (· != p) })
    match g.state with
    | .fueling =>
      if g.liftTimer.active || g.idleEndTimer.active then removed else startWaitTimer i removed
    | .closing => completionTest i removed
    | .pending | .armed | .held | .settled => removed
  | none => s

/-! ### Reports of the Point Interface -/

/-- Whether the allowance of a point's line in this grant is OPEN (R20). -/
def State.drawsOnOpen (s : State) (g : Grant) (p : Fin 32) : Bool :=
  (s.point p).config.any fun c => g.openOn c.line

/-- The GM takes a lift report with the PI's conditions marked met or not (R20). -/
def liftReport (i : Fin 24) (p : Fin 32) (conditions : Bool) (s : State) : State :=
  match s.grantAt i with
  | some g =>
    match g.state with
    | .armed =>
      if conditions && s.drawsOnOpen g p then
        enterPriming p (s.setSlot i (some { g with state := .fueling, liftTimer := .stopped }))
      else s
    | .fueling =>
      if conditions && s.drawsOnOpen g p then
        enterPriming p (s.setSlot i (some { g with liftTimer := .stopped, idleEndTimer := .stopped }))
      else s.setSlot i (some { g with liftTimer := .stopped, idleEndTimer := .stopped })
    | .pending | .held | .closing | .settled => s
  | none => s

/-- The lift report of an attached point; none is made for an unattached one (R68, R70). -/
def reportLift (p : Fin 32) (conditions : Bool) (s : State) : State :=
  match s.slotOfPoint p with
  | some i => liftReport i p conditions s
  | none => s

/-- The GM takes a hang-up report (R21). -/
def reportHangUp (p : Fin 32) (s : State) : State :=
  match s.slotOfPoint p with
  | some i => startWaitTimer i s
  | none => s

/-- The report of an exit from PRIMING, FLOWING, SLOWING or SETTLING: the completion test of a CLOSING grant (R30). -/
def reportExit (p : Fin 32) (s : State) : State :=
  match s.slotOfPoint p with
  | some i => completionTest i s
  | none => s

/-! ### Exhaustion -/

/-- The GM examines a grant after an exhaustion report: FUELING or HELD with every allowance EXHAUSTED enters CLOSING
with LIMIT (R25). -/
def exhaustionReport (i : Fin 24) (s : State) : State :=
  match s.grantAt i with
  | some g =>
    if g.allExhausted && (g.state == .fueling || g.state == .held) then enterClosing i .limit s else s
  | none => s

/-! ### Arming -/

/-- R17 for one allowance: removed when its line is LOCKED_OUT or its price is 0, else armed at this moment's price and
basis. -/
def armAllowance (s : State) (a : Allowance) : Option Allowance :=
  if (s.line a.line).state = .lockedOut ∨ (s.line a.line).price = 0 then none
  else
    let limit := effectiveLimit (a.limit.getD (.volume, 0)) a.ceiling
    some
      { a with
        limit := some limit
        armed :=
          some (armedTerms limit a.ceiling (s.line a.line).price
            (((s.line a.line).config.map (·.basis)).getD .gross)) }

/-- The allowances that arming keeps, in ascending line order (R17). -/
def keptAllowances (s : State) (g : Grant) : List Allowance := g.allowances.filterMap (armAllowance s)

/-- Whether a point joins the attached set: in service, on a line whose allowance is kept, and no SATELLITE of a grant
without dual-side (R18). -/
def attachable (s : State) (kept : List Allowance) (dualSide : Bool) (p : Fin 32) : Bool :=
  (s.point p).state != .disabled && (s.point p).state != .outOfService
    && (s.point p).config.any fun c =>
      kept.any (·.line == c.line) && (dualSide || c.role != .satellite)

/-- The points arming attaches, in ascending order (R18). -/
def attachedBy (s : State) (kept : List Allowance) (g : Grant) : List (Fin 32) :=
  (pointsOfLane g.lane).filter (attachable s kept g.dualSide)

/-- The point records that arming creates in an allowance (R18). -/
def recordsFor (s : State) (points : List (Fin 32)) (l : Fin 4) : List PointRecord :=
  points.filterMap fun p =>
    (s.point p).config.bind fun c => if c.line = l then some (newRecord p c.k) else none

/-- A grant with its kept allowances, its attached set and its point records (R17, R18). -/
def armedForm (s : State) (g : Grant) : Grant :=
  let kept := keptAllowances s g
  let points := attachedBy s kept g
  { g with
    allowances := kept.map fun a => { a with armed := a.armed.map ({ · with records := recordsFor s points a.line }) }
    attached := points }

/-- The PI marks the attached points (R18, R68). -/
def attachAll (tag : Nat) (ps : List (Fin 32)) (s : State) : State :=
  ps.foldl (fun s p => s.setPoint p { s.point p with tag := some tag }) s

/-- Arming leaves PENDING: the tag leaves the pending queue and the decision timer stops (R5, R13, R15). -/
def leavePending (i : Fin 24) (s : State) : State :=
  match s.grantAt i with
  | some g =>
    (s.setSlot i (some { g with decisionTimer := .stopped })).modGm fun m =>
      { m with pendingTags := m.pendingTags.filter (· != g.tag) }
  | none => s

/-- How arming ends (R19): settled with LINE_LOCKOUT, settled with LIMIT, or ARMED with the lift timer started and,
unless the source is STANDIN_OFFLINE, a DECISION notice queued. -/
def armingEnd (i : Fin 24) (s : State) : State :=
  match s.grantAt i with
  | some g =>
    if g.allowances.isEmpty then endNow i .lineLockout s
    else if g.allExhausted then endNow i .limit s
    else
      let armed := s.setSlot i (some { g with state := .armed, liftTimer := Timer.start s.cp.timers.lift })
      if g.source = some .standinOffline then armed else queueNotice g.lane (.approved g.tag g.caps) armed
  | none => s

/-- Arming (R17 to R19), on every approval. -/
def arm (i : Fin 24) (s : State) : State :=
  match s.grantAt i with
  | some g =>
    armingEnd i (attachAll g.tag (armedForm s g).attached (s.setSlot i (some (armedForm s g))))
  | none => s

/-! ### Creation -/

/-- The next tag of the cycle 1, 2, …, 255, 1, …; after 0 it is 1 (R3). -/
def stepTag (n : Nat) : Nat := if n < 255 then n + 1 else 1

/-- The counter stepped until its value is not held; at most 24 tags are held, so 25 steps reach one (R3). -/
def freeTag (held : List Nat) : Nat → Nat → Nat
  | 0, n => n
  | fuel + 1, n => if held.contains (stepTag n) then freeTag held fuel (stepTag n) else stepTag n

/-- The tag the next grant takes (R3). -/
def State.nextTag (s : State) : Nat := freeTag (s.grants.map (·.tag)) 25 s.gm.tagCounter

/-- The lowest-numbered free slot (R2). -/
def State.freeSlot (s : State) : Option (Fin 24) := allSlots.find? fun i => (s.grantAt i).isNone

/-- A grant takes the lowest free slot and the next tag (R2, R3). -/
def createIn (i : Fin 24) (g : Grant) (s : State) : State :=
  (s.setSlot i (some { g with tag := s.nextTag })).modGm fun m => { m with tagCounter := s.nextTag }

/-- A new grant of a lane: every field that creation does not fill is absent, no or empty (R7, R10). -/
def Grant.blank (lane : Fin 8) : Grant where
  tag := 0
  lane := lane
  card := none
  prompts := []
  requested := 0
  dualSide := true
  source := none
  state := .pending
  served := false
  allowances := []
  attached := []
  flowed := false
  outcome := none
  degraded := false
  decisionTimer := .stopped
  liftTimer := .stopped
  idleEndTimer := .stopped
  holdTimer := .stopped

/-- Whether the lane has a live grant (R4). -/
def State.laneBusy (s : State) (n : Fin 8) : Bool := s.grants.any fun g => g.lane == n && g.isLive

/-! ### Site notice and halt -/

/-- The GM takes the halt for the grant of slot `i` by its state (R155). The Site Supervisor's test waits for step 6 of
R154, so the settlements here do not make it (DEDUCED, notes/assumptions/7.md). -/
def haltGrant (i : Fin 24) (s : State) : State :=
  match s.grantAt i with
  | some g =>
    match g.state with
    | .pending | .armed => settleCore i (s.modGrant i (·.recordOutcome .halt))
    | .fueling | .held =>
      let closing := enterClosingCore i .halt s
      if closing.completionDue i then settleCore i closing else closing
    | .closing | .settled => s
  | none => s

/-- The slots of a lane's grants. -/
def State.slotsOfLane (s : State) (n : Fin 8) : List (Fin 24) :=
  allSlots.filter fun i => (s.grantAt i).any (·.lane == n)

/-- The halt for every grant in the table, in ascending lane order (R155). -/
def haltGrants (s : State) : State :=
  (allLanes.flatMap s.slotsOfLane).foldl (fun s i => haltGrant i s) s

end Sys2Proof.Machine
end

