-- ==== Sys2Proof/Machine/Nozzles.lean ====
section
/-! DEFINITION. The filtered nozzle events of a point: LIFT (R70, R80, R138) and HANG_UP (R73, R74, R80, R138), and
NO_FLOW_TIMER_EXPIRY (R78, R24). -/

namespace Sys2Proof.Machine

/-- The nozzle switch of a point now stands at a level. -/
def setNozzlePin (p : Fin 32) (level : Bool) (s : State) : State :=
  { s with pins := { s.pins with nozzle := s.pins.nozzle.set p.val level p.isLt } }

/-- The filtered level of a point that is followed (R67). -/
def setNozzle (p : Fin 32) (level : Bool) (s : State) : State :=
  (setNozzlePin p level s).setPoint p { s.point p with nozzle := level }

/-- A lift of a followed point whose nozzle was down: from IDLE it becomes LIFTED and is reported with the PI's
conditions (R70); in SETTLING it is reported with the conditions marked as not met (R80); an OUT_OF_SERVICE point only
keeps the level (R138). -/
def liftFollowed (p : Fin 32) (s : State) : State :=
  match (s.point p).state with
  | .idle =>
    let lifted := s.setPoint p { s.point p with state := .lifted }
    reportLift p (lifted.liftConditions p) lifted
  | .settling => reportLift p false s
  | .disabled | .lifted | .priming | .flowing | .slowing | .outOfService => s

/-- LIFT. A DISABLED point is not followed, and only its switch changes (R65). Lifts and hang-ups alternate (R67), so a
lift of a lifted nozzle does not occur (notes/assumptions/6.md). -/
def nozzleLift (p : Fin 32) (s : State) : State :=
  if (s.point p).state = .disabled then setNozzlePin p true s
  else if (s.point p).nozzle then s
  else liftFollowed p (setNozzle p true s)

/-- A hang-up of a followed point whose nozzle was lifted (R73, R74, R80, R138). -/
def hangUpFollowed (p : Fin 32) (s : State) : State :=
  match (s.point p).state with
  | .priming =>
    reportExit p (reportHangUp p (withdrawOwn p (s.setPoint p { s.point p with state := .idle })))
  | .lifted => reportHangUp p (s.setPoint p { s.point p with state := .idle })
  | .flowing | .slowing => reportHangUp p (closeValve p s)
  | .settling => reportHangUp p s
  | .disabled | .idle | .outOfService => s

/-- HANG_UP, as LIFT. -/
def nozzleHangUp (p : Fin 32) (s : State) : State :=
  if (s.point p).state = .disabled then setNozzlePin p false s
  else if (s.point p).nozzle then hangUpFollowed p (setNozzle p false s)
  else s

/-- The no-flow timer's expiry is reported to the GM and the timer stays stopped; a FUELING grant enters CLOSING with
NO_FLOW (R78, R24). A timer that does not run does not expire (notes/assumptions/6.md). -/
def noFlowExpiry (p : Fin 32) (s : State) : State :=
  if (s.point p).noFlow.mayExpire then
    let stopped := s.setPoint p { s.point p with noFlow := .stopped }
    match stopped.slotOfPoint p with
    | some i =>
      if (stopped.grantAt i).any (·.state == .fueling) then enterClosing i .noFlow stopped else stopped
    | none => stopped
  else s

/-- LIFT. -/
def execLift (p : Fin 32) (s : State) : Host.Outcome State Fault Refusal :=
  .next (nozzleLift p s)

/-- HANG_UP. -/
def execHangUp (p : Fin 32) (s : State) : Host.Outcome State Fault Refusal :=
  .next (nozzleHangUp p s)

/-- NO_FLOW_TIMER_EXPIRY. -/
def execNoFlowTimerExpiry (p : Fin 32) (s : State) : Host.Outcome State Fault Refusal :=
  .next (noFlowExpiry p s)

end Sys2Proof.Machine
end

