-- ==== Sys2Proof/Machine/GrantRows.lean ====
section
/-! DEFINITION. The rows the Grant Manager owns: SERVICE, DECIDE, OPEN_GRANT, READ_GRANT, HOLD, RESUME, STOP, COLLECT,
CANCEL, and the expiries of the decision, lift, idle-end and hold timers. -/

namespace Sys2Proof.Machine

/-- The answer OK with the record of the grant in slot `i` as it stands (R10, R13, R33). -/
def recordAnswer (i : Fin 24) (s : State) : Response :=
  match s.grantAt i with
  | some g => okWith (grantRecord g)
  | none => refusal .unknownTag

/-! ### SERVICE, READ_GRANT, COLLECT -/

/-- SERVICE (R11): the head tag leaves the pending queue and its grant is marked served. -/
def doService (s : State) : State × Response :=
  match s.gm.pendingTags with
  | [] => (s, refusal .empty)
  | tag :: rest =>
    match s.findTag tag with
    | some i =>
      let served := (s.modGrant i fun g => { g with served := true }).modGm fun m => { m with pendingTags := rest }
      (served, recordAnswer i served)
    | none => (s.modGm fun m => { m with pendingTags := rest }, refusal .unknownTag)

/-- READ_GRANT (R33): changes nothing. -/
def doReadGrant (tag : Nat) (s : State) : State × Response :=
  match s.findTag tag with
  | some i => (s, recordAnswer i s)
  | none => (s, refusal .unknownTag)

/-- COLLECT (R34): the head of the settled queue leaves with its grant, whose slot is freed. -/
def doCollect (s : State) : State × Response :=
  match s.gm.settledTags with
  | [] => (s, refusal .empty)
  | tag :: rest =>
    match s.findTag tag with
    | some i => ((s.setSlot i none).modGm fun m => { m with settledTags := rest }, recordAnswer i s)
    | none => (s.modGm fun m => { m with settledTags := rest }, refusal .unknownTag)

/-! ### DECIDE and OPEN_GRANT -/

/-- The grant with the limits of an approval: an allowance of an unlisted line is removed (R13). -/
def Grant.withLimits (g : Grant) (es : List LimitEntry) : Grant :=
  { g with
    source := some .host
    allowances :=
      g.allowances.filterMap fun a => (entryFor es a.line).map fun e => { a with limit := limitOf e } }

/-- DECIDE APPROVE that passes R12 (R13). -/
def approve (i : Fin 24) (es : List LimitEntry) (s : State) : State :=
  arm i (leavePending i (s.modGrant i (·.withLimits es)))

/-- DECIDE DECLINE that passes R12 (R14): source, outcome, DECISION notice, settlement. -/
def declineGrant (i : Fin 24) (code : Nat) (s : State) : State :=
  match s.grantAt i with
  | some g =>
    settle i
      (queueNotice g.lane (.declined g.tag code)
        (leavePending i
          (s.setSlot i (some { g.recordOutcome (.declinedHost code) with source := some .host }))))
  | none => s

/-- DECIDE's check 4: the list is not empty and every listed line has an allowance in the grant (R12). -/
def entriesMatch (g : Grant) (es : List LimitEntry) : Bool :=
  !es.isEmpty && es.all fun e => g.allowances.any fun a => a.line.val == e.line

/-- DECIDE (R12 to R14). -/
def doDecide (tag : Nat) (verdict : Verdict) (s : State) : State × Response :=
  if !verdictValid verdict then (s, refusal .badParam)
  else
    match s.findTag tag with
    | none => (s, refusal .unknownTag)
    | some i =>
      match s.grantAt i with
      | none => (s, refusal .unknownTag)
      | some g =>
        if g.state ≠ .pending then (s, refusal .late)
        else
          match verdict with
          | .approve es =>
            if entriesMatch g es then (approve i es s, recordAnswer i (approve i es s))
            else (s, refusal .badClass)
          | .decline code => (declineGrant i code s, okWith [])
          | .unlisted => (s, refusal .badParam)

/-- The allowances of an attendant grant: one for each listed line that is AVAILABLE, in ascending line order (R10). -/
def attendantAllowances (s : State) (es : List LimitEntry) : List Allowance :=
  allLines.filterMap fun l =>
    if (s.line l).state = .available then
      (entryFor es l).map fun e =>
        { line := l, ceiling := s.lineField l (·.ceiling), limit := limitOf e, armed := none }
    else none

/-- The attendant grant OPEN_GRANT creates, before its tag and its arming (R10). -/
def attendantGrant (n : Fin 8) (es : List LimitEntry) (s : State) : Grant :=
  { Grant.blank n with
    requested := linesOfEntries es
    dualSide := true
    source := some .attendant
    allowances := attendantAllowances s es }

/-- OPEN_GRANT (R9, R10). -/
def doOpenGrant (lane : Nat) (es : List LimitEntry) (s : State) : State × Response :=
  match laneOf lane with
  | none => (s, refusal .badParam)
  | some n =>
    if !openGrantValid lane es then (s, refusal .badParam)
    else if s.ss.site ≠ .running then (s, refusal .halted)
    else if s.laneBusy n then (s, refusal .wrongState)
    else
      match s.freeSlot with
      | none => (s, refusal .noSlot)
      | some i =>
        if (attendantAllowances s es).isEmpty then (s, refusal .badParam)
        else
          (arm i (createIn i (attendantGrant n es s) s),
            recordAnswer i (arm i (createIn i (attendantGrant n es s) s)))

/-! ### HOLD, RESUME, STOP, CANCEL -/

/-- HOLD (R141). -/
def doHold (tag : Nat) (s : State) : State × Response :=
  match s.findTag tag with
  | none => (s, refusal .unknownTag)
  | some i =>
    if (s.grantAt i).any (·.state == .fueling) then (enterHeld i s, okWith [])
    else (s, refusal .wrongState)

/-- RESUME's step 2: a lift report for each attached point in LIFTED, with the PI's conditions (R143). -/
def resumeReports (i : Fin 24) (ps : List (Fin 32)) (s : State) : State :=
  ps.foldl
    (fun s p => if (s.point p).state = .lifted then liftReport i p (s.liftConditions p) s else s) s

/-- A HELD grant is resumed (R143). -/
def resumeGrant (i : Fin 24) (s : State) : State :=
  match s.grantAt i with
  | some g =>
    startWaitTimer i
      (resumeReports i g.attached (s.setSlot i (some { g with state := .fueling, holdTimer := .stopped })))
  | none => s

/-- RESUME (R143). -/
def doResume (tag : Nat) (s : State) : State × Response :=
  match s.findTag tag with
  | none => (s, refusal .unknownTag)
  | some i =>
    if (s.grantAt i).any (·.state == .held) then (resumeGrant i s, okWith [])
    else (s, refusal .notHeld)

/-- STOP (R27). -/
def doStop (tag : Nat) (s : State) : State × Response :=
  match s.findTag tag with
  | none => (s, refusal .unknownTag)
  | some i =>
    match (s.grantAt i).map Grant.state with
    | some .pending => (endNow i .hostStop s, okWith [])
    | some .armed => (endNow i .hostStop s, okWith [])
    | some .fueling => (enterClosing i .hostStop s, okWith [])
    | some .held => (enterClosing i .hostStop s, okWith [])
    | some .closing => (s, refusal .alreadyEnding)
    | some .settled => (s, refusal .late)
    | none => (s, refusal .unknownTag)

/-- A reply that carries the CANCEL's tag (R184). -/
def cancelReply (r : ReplyResult) (tag : Nat) : Reply := { result := r, tag := tag, caps := [] }

/-- CANCEL (R28): the grant must be held, of this lane, and not SETTLED. -/
def doCancel (lane : Fin 8) (tag : Nat) (s : State) : State × Reply :=
  match s.findTag tag with
  | none => (s, cancelReply .notFound tag)
  | some i =>
    match s.grantAt i with
    | none => (s, cancelReply .notFound tag)
    | some g =>
      if g.lane ≠ lane then (s, cancelReply .notFound tag)
      else
        match g.state with
        | .pending => (endNow i .cancelled s, cancelReply .cancelOk tag)
        | .armed => (endNow i .cancelled s, cancelReply .cancelOk tag)
        | .fueling => (enterClosing i .cancelled s, cancelReply .cancelOk tag)
        | .held => (enterClosing i .cancelled s, cancelReply .cancelOk tag)
        | .closing => (s, cancelReply .alreadyEnding tag)
        | .settled => (s, cancelReply .notFound tag)

/-! ### The grant timers' expiries; a timer that does not run does not expire (notes/assumptions/6.md) -/

/-- The current stand-in limits given to a grant's allowances on timeout (R15, R56). -/
def Grant.withStandin (g : Grant) (source : Source) (limits : Fin 4 → Nat) : Grant :=
  { g with
    source := some source
    allowances := g.allowances.map fun a => { a with limit := some (.volume, limits a.line) } }

/-- A program's stand-in limit for the class of a line (R8, R56); a line that holds an allowance has a class. -/
def standinLimit (s : State) (p : Program) (l : Fin 4) : Nat :=
  ((s.line l).config.map fun c => classValue p.limits c.fuel).getD 0

/-- The decision timer expires: a stand-in verdict on timeout is taken with the entry that carries the grant's program
id, and the grant is armed with STANDIN_TIMEOUT or settled with DECLINED_TIMEOUT (R15, R56). -/
def decisionExpiry (tag : Nat) (s : State) : State :=
  match s.findTag tag with
  | none => s
  | some i =>
    match s.grantAt i with
    | none => s
    | some g =>
      if g.decisionTimer.mayExpire = false ∨ g.state ≠ .pending then s
      else
        let waiting := leavePending i s
        match g.card with
        | none => endNow i .declinedTimeout waiting
        | some c =>
          match s.su.programs.find? (·.id == c.program) with
          | none => endNow i .declinedTimeout waiting
          | some p =>
            match standinChecks true c.pan p s.su with
            | .approved =>
              arm i
                ((waiting.modSu (·.book c.pan p.id)).modGrant i
                  (·.withStandin .standinTimeout (standinLimit s p)))
            | .refused => endNow i .declinedTimeout waiting
            | .tallyFull => endNow i .declinedTimeout waiting.raiseTallyFull

/-- The lift timer expires (R22). -/
def liftExpiry (tag : Nat) (s : State) : State :=
  match s.findTag tag with
  | none => s
  | some i =>
    match s.grantAt i with
    | none => s
    | some g =>
      if g.liftTimer.mayExpire then
        match g.state with
        | .armed => endNow i .liftTimeout s
        | .fueling => enterClosing i .liftTimeout s
        | .pending | .held | .closing | .settled => s
      else s

/-- The idle-end timer expires (R23). -/
def idleEndExpiry (tag : Nat) (s : State) : State :=
  match s.findTag tag with
  | none => s
  | some i =>
    if (s.grantAt i).any fun g => g.idleEndTimer.mayExpire && g.state == .fueling then
      enterClosing i .hangupIdle s
    else s

/-- The hold timer expires (R144). -/
def holdExpiry (tag : Nat) (s : State) : State :=
  match s.findTag tag with
  | none => s
  | some i =>
    if (s.grantAt i).any fun g => g.holdTimer.mayExpire && g.state == .held then
      enterClosing i .holdExpired s
    else s

/-! ### The rows -/

/-- SERVICE. -/
def execService (s : State) : Host.Outcome State Fault Refusal :=
  .next (takeCommand .service doService s)

/-- DECIDE. -/
def execDecide (tag : Nat) (verdict : Verdict) (s : State) : Host.Outcome State Fault Refusal :=
  .next (takeCommand (.decide tag verdict) (doDecide tag verdict) s)

/-- OPEN_GRANT. -/
def execOpenGrant (lane : Nat) (es : List LimitEntry) (s : State) : Host.Outcome State Fault Refusal :=
  .next (takeCommand (.openGrant lane es) (doOpenGrant lane es) s)

/-- READ_GRANT. -/
def execReadGrant (tag : Nat) (s : State) : Host.Outcome State Fault Refusal :=
  .next (takeCommand (.readGrant tag) (doReadGrant tag) s)

/-- HOLD. -/
def execHold (tag : Nat) (s : State) : Host.Outcome State Fault Refusal :=
  .next (takeCommand (.hold tag) (doHold tag) s)

/-- RESUME. -/
def execResume (tag : Nat) (s : State) : Host.Outcome State Fault Refusal :=
  .next (takeCommand (.resume tag) (doResume tag) s)

/-- STOP. -/
def execStop (tag : Nat) (s : State) : Host.Outcome State Fault Refusal :=
  .next (takeCommand (.stop tag) (doStop tag) s)

/-- COLLECT. -/
def execCollect (s : State) : Host.Outcome State Fault Refusal :=
  .next (takeCommand .collect doCollect s)

/-- CANCEL. -/
def execCancel (lane : Fin 8) (tag : Nat) (s : State) : Host.Outcome State Fault Refusal :=
  .next (answerMessage lane (.cancel tag) (doCancel lane tag) s)

/-- DECISION_TIMER_EXPIRY. -/
def execDecisionTimerExpiry (tag : Nat) (s : State) : Host.Outcome State Fault Refusal :=
  .next (decisionExpiry tag s)

/-- LIFT_TIMER_EXPIRY. -/
def execLiftTimerExpiry (tag : Nat) (s : State) : Host.Outcome State Fault Refusal :=
  .next (liftExpiry tag s)

/-- IDLE_END_TIMER_EXPIRY. -/
def execIdleEndTimerExpiry (tag : Nat) (s : State) : Host.Outcome State Fault Refusal :=
  .next (idleEndExpiry tag s)

/-- HOLD_TIMER_EXPIRY. -/
def execHoldTimerExpiry (tag : Nat) (s : State) : Host.Outcome State Fault Refusal :=
  .next (holdExpiry tag s)

end Sys2Proof.Machine
end

