-- ==== Sys2Proof/Machine/Faults.lean ====
section
/-! DEFINITION. The fault escalation (chapter 7): points going OUT_OF_SERVICE, line lockout, creep watch and the pulser
fault. Its one row, PERIOD_END, stands in Metering.lean. -/

namespace Sys2Proof.Machine

/-- The point as it enters OUT_OF_SERVICE: valve released at once, no-flow timer stopped, window abandoned (R137). -/
def Point.takenOut (x : Point) : Point :=
  { x.withStage 0 with state := .outOfService, noFlow := .stopped, settleLeft := 0 }

/-- R137 step 4: an attached point loses its tag and the GM removes it from the attached set (R26). -/
def leaveGrant (p : Fin 32) (s : State) : State :=
  match s.slotOfPoint p with
  | some i => removePoint i p (detach p s)
  | none => detach p s

/-- Entry to OUT_OF_SERVICE, in the order of R137. -/
def outOfService (p : Fin 32) (s : State) : State :=
  let left := leaveGrant p (withdrawOwn p (s.setPoint p (s.point p).takenOut))
  (left.setPoint p { left.point p with creep := 0 }).raisePointFault p

/-! ### Line lockout -/

/-- The configured points of a line, of every lane. -/
def State.pointsOnLine (s : State) (l : Fin 4) : List (Fin 32) :=
  allPoints.filter fun p => (s.point p).config.any (·.line == l)

/-- Line Control's own part of a lockout (R98). -/
def lineLockedOut (l : Fin 4) (s : State) : State :=
  closeOrders (s.pointsOnLine l) (forcedStop l (s.setLine l { s.line l with state := .lockedOut }))

/-- An allowance marked EXHAUSTED (R149). -/
def Allowance.exhaust (a : Allowance) : Allowance :=
  { a with armed := a.armed.map fun t => { t with exhausted := true } }

/-- The grant states whose OPEN allowances a lockout exhausts (R149). -/
def GrantState.drawsOnLine : GrantState → Bool
  | .armed | .fueling | .held | .closing => true
  | .pending | .settled => false

/-- The slots whose grant has an OPEN allowance on the line (R149). -/
def State.slotsOpenOn (s : State) (l : Fin 4) : List (Fin 24) :=
  allSlots.filter fun i => (s.grantAt i).any fun g => g.state.drawsOnLine && g.openOn l

/-- Every OPEN allowance on the line is marked EXHAUSTED (R149 step 2). -/
def exhaustLine (l : Fin 4) (slots : List (Fin 24)) (s : State) : State :=
  slots.foldl (fun s i => s.modGrant i (·.modAllowance l Allowance.exhaust)) s

/-- The GM examines a grant that a lockout has left with an exhausted allowance (R150). -/
def lockoutGrant (i : Fin 24) (s : State) : State :=
  match s.grantAt i with
  | some g =>
    if g.allExhausted && (g.state == .armed || g.state == .fueling || g.state == .held) then
      enterClosing i .lineLockout s
    else s
  | none => s

/-- A lockout request for a line (R149); one for a line already LOCKED_OUT changes nothing. The manual gives the
grants no order; they are taken in a free one (notes/assumptions/5.md). -/
def lockout (l : Fin 4) (s : State) : State :=
  if (s.line l).state = .lockedOut then s
  else
    let slots := (lineLockedOut l s).slotsOpenOn l
    let exhausted := exhaustLine l slots (lineLockedOut l s)
    ((arrange s.draws slots).foldl (fun s i => lockoutGrant i s)
      { exhausted with draws := s.draws + 1 }).raiseLineLockout l

/-! ### Creep watch -/

/-- Unauthorized flow on a point in IDLE, LIFTED or PRIMING: a live grant it is attached to ends with UNAUTH_FLOW, and
the point goes OUT_OF_SERVICE (R148). -/
def unauthorizedFlow (p : Fin 32) (s : State) : State :=
  outOfService p
    (match s.slotOfPoint p with
    | some i =>
      if (s.grantAt i).any fun g => g.state == .armed || g.state == .fueling || g.state == .held then
        enterClosing i .unauthFlow s
      else s
    | none => s)

/-- An excess: the count restarts at 0; a point in service suffers unauthorized flow, a point out of service asks for
the lockout of its line (R148). -/
def creepExcess (p : Fin 32) (line : Fin 4) (s : State) : State :=
  let restarted := s.setPoint p { s.point p with creep := 0 }
  if (s.point p).state = .outOfService then lockout line restarted else unauthorizedFlow p restarted

/-- Creep watch takes a period's N: a sum below 0 becomes 0, and a count above the allowance is an excess (R147). -/
def creepWatch (p : Fin 32) (c : PointConfig) (n : Int) (s : State) : State :=
  if c.creepAllowance < (((s.point p).creep : Int) + n).toNat then creepExcess p c.line s
  else s.setPoint p { s.point p with creep := (((s.point p).creep : Int) + n).toNat }

/-! ### The pulser fault -/

/-- The state of the grant a point is attached to. -/
def State.grantStateOfPoint (s : State) (p : Fin 32) : Option GrantState :=
  ((s.slotOfPoint p).bind s.grantAt).map Grant.state

/-- A pulser fault during delivery: the grant is held and POINT_FAULT raised (R135, R140). -/
def faultHold (p : Fin 32) (s : State) : State :=
  match s.slotOfPoint p with
  | some i => (enterHeld i s).raisePointFault p
  | none => s

/-- A compound fault: the held grant ends with COMPOUND and the point goes OUT_OF_SERVICE (R146). -/
def compoundFault (p : Fin 32) (s : State) : State :=
  outOfService p
    (match s.slotOfPoint p with
    | some i => enterClosing i .compound s
    | none => s)

/-- The escalation of a pulser fault by the first matching row of R135, against the states as they stand. -/
def pulserFault (p : Fin 32) (s : State) : State :=
  match (s.point p).state with
  | .outOfService | .disabled => s
  | .flowing | .slowing => if s.grantStateOfPoint p = some .fueling then faultHold p s else s
  | .idle | .lifted | .priming | .settling =>
    if s.grantStateOfPoint p = some .held then compoundFault p s else outOfService p s

end Sys2Proof.Machine
end

