-- ==== Sys2Proof/Machine/Metering.lean ====
section
/-! DEFINITION. The Metering Unit's period end (chapter 5): latching, the accumulation into the sale, limit evaluation,
the point timers, creep and fault steps of R104; the row PERIOD_END. -/

namespace Sys2Proof.Machine

/-- The point with its counters latched and cleared (R103). -/
def Point.latched (x : Point) : Point :=
  { x with
    latchForward := x.forward
    latchReverse := x.reverse
    latchErrors := x.errors
    forward := 0
    reverse := 0
    errors := 0 }

/-- The period's net pulse count N = f − r (R103). -/
def Point.net (x : Point) : Int := (x.forward : Int) - (x.reverse : Int)

/-- The three conditions of a pulser fault (R103). -/
def Point.faulty (x : Point) (c : PointConfig) : Bool :=
  c.threshold ≤ x.errors || x.forward == Config.counterTop || x.reverse == Config.counterTop

/-- An allowance's terms with one point's record accumulated and its totals recomputed (R106 to R113). -/
def Armed.accumulate (t : Armed) (p : Fin 32) (n f : Int) : Armed :=
  Armed.recompute
    { t with
      records := t.records.map fun (r : PointRecord) => if r.point = p then r.accumulate t.basis n f else r }

/-- Whether a period end marks the grant degraded: a compensation step with N other than 0 while the probe is in
REFERENCE (R108). -/
def marksDegraded (r : PointRecord) (n : Int) (probe : ProbeState) : Bool :=
  !pulsesClear r n && n != 0 && probe == .reference

/-- The record of a point in an allowance's terms (R18). -/
def Armed.recordOf (t : Armed) (p : Fin 32) : Option PointRecord := t.records.find? (·.point == p)

/-- The record a point accumulates into: in its line's allowance of its grant (R104, section 5.3). -/
def State.recordOfPoint (s : State) (p : Fin 32) : Option PointRecord :=
  (s.termsOfPoint p).bind (·.recordOf p)

/-- The points of an allowance that are in the attached set (R118). -/
def Armed.attachedPoints (t : Armed) (g : Grant) : List (Fin 32) :=
  (t.records.map (·.point)).filter g.attached.contains

/-- q: the last basis increments of the records whose points are FLOWING or SLOWING in the attached set (R117). -/
def openIncrement (s : State) (g : Grant) (t : Armed) : Nat :=
  ((t.records.filter fun r => g.attached.contains r.point && (s.point r.point).state.isOpen).map
    (·.lastIncrement)).sum

/-- Whether the residual exhausts the allowance: R ≤ 0 or R ≤ q × close lead (R118). -/
def exhaustionMet (residual : Int) (q lead : Nat) : Bool := residual ≤ 0 || residual ≤ (q * lead : Nat)

/-- The allowance of a line is EXHAUSTED by evaluation: its open points are closed and the GM told (R118). -/
def exhaustAllowance (i : Fin 24) (l : Fin 4) (points : List (Fin 32)) (s : State) : State :=
  exhaustionReport i (closeOrders points (s.modGrant i (·.modAllowance l Allowance.exhaust)))

/-- The limit evaluation of an OPEN allowance (R117 to R119). -/
def evaluate (i : Fin 24) (l : Fin 4) (s : State) : State :=
  match s.grantAt i with
  | some g =>
    match (g.allowanceOn l).bind (·.armed) with
    | some t =>
      if t.exhausted then s
      else if exhaustionMet t.residual (openIncrement s g t) (s.lineField l (·.closeLead)) then
        exhaustAllowance i l (t.attachedPoints g) s
      else if t.residual ≤ (s.lineField l (·.slowMargin) : Int) then slowOrders (t.attachedPoints g) s
      else s
    | none => s
  | none => s

/-- The grant with a period's pulses in the record of a point (R106 to R113). -/
def Grant.metered (g : Grant) (l : Fin 4) (p : Fin 32) (n f : Int) (degrades : Bool) : Grant :=
  { g.modAllowance l fun a => { a with armed := a.armed.map fun t => t.accumulate p n f } with
    degraded := g.degraded || degrades }

/-- Step 2 of a period end: accumulation, totals, evaluation (R104). -/
def saleStep (p : Fin 32) (c : PointConfig) (n : Int) (s : State) : State :=
  match s.slotOfPoint p, s.recordOfPoint p with
  | some i, some r =>
    evaluate i c.line
      (s.modGrant i
        (·.metered c.line p n (s.factor c.line) (marksDegraded r n (s.probe c.line).state)))
  | _, _ => s

/-- The end of a settle window: the point becomes IDLE or LIFTED by its nozzle and creep watch begins; the exit is
reported, then, if still attached and LIFTED, the lift (R81). -/
def windowEnd (p : Fin 32) (s : State) : State :=
  let left :=
    s.setPoint p
      { s.point p with
        state := if (s.point p).nozzle then .lifted else .idle
        settleLeft := 0
        creep := 0 }
  let reported := reportExit p left
  if (s.point p).nozzle then reportLift p (reported.liftConditions p) reported else reported

/-- Step 3 of a period end, with the state the point was in when it was taken (R77, R79, R104). -/
def pointTimers (p : Fin 32) (was : PointState) (n : Int) (s : State) : State :=
  if was = .settling then
    if (s.point p).settleLeft ≤ 1 then windowEnd p s
    else s.setPoint p { s.point p with settleLeft := (s.point p).settleLeft - 1 }
  else if 0 < n ∧ (s.point p).state.isOpen = true then
    s.setPoint p { s.point p with noFlow := Timer.start s.cp.timers.noFlow }
  else s

/-- Whether the pulses of a period end go to the sale (R104 step 2). -/
def PointState.metersSale : PointState → Bool
  | .flowing | .slowing | .settling => true
  | .disabled | .idle | .lifted | .priming | .outOfService => false

/-- Whether a period end drives P past its top, which is a pulser fault (R106). -/
def State.saturatesAt (s : State) (p : Fin 32) (n : Int) : Bool :=
  (s.point p).state.metersSale && (s.recordOfPoint p).any fun r => pulsesSaturate r n

/-- PERIOD_END, in the five steps of R104. A DISABLED point has no period ends (R65). -/
def periodEnd (p : Fin 32) (s : State) : State :=
  match (s.point p).config with
  | none => s
  | some c =>
    let x := s.point p
    let latched := s.setPoint p x.latched
    let sold := if x.state.metersSale then saleStep p c x.net latched else latched
    let timed := pointTimers p x.state x.net sold
    let watched := if x.state.creepWatched then creepWatch p c x.net timed else timed
    if x.faulty c || s.saturatesAt p x.net then pulserFault p watched else watched

/-- PERIOD_END. -/
def execPeriodEnd (p : Fin 32) (s : State) : Host.Outcome State Fault Refusal :=
  .next (periodEnd p s)

end Sys2Proof.Machine
end

