-- ==== Sys2Proof/Machine/Screening.lean ====
section
/-! DEFINITION. Screening (chapter 2): the ten checks of R47, the product set, and the two ways a passed request becomes
a grant; the row AUTH_REQUEST. -/

namespace Sys2Proof.Machine

/-- A usable point of a lane on a line (R51). -/
def usablePoint (s : State) (dualSide : Bool) (l : Fin 4) (p : Fin 32) : Bool :=
  (s.point p).state != .disabled && (s.point p).state != .outOfService
    && (s.point p).config.any fun c => c.line == l && (dualSide || c.role != .satellite)

/-- Whether a line belongs to the product set of a request (R51). -/
def inProductSet (s : State) (lane : Fin 8) (p : Program) (requested : BitVec 4) (l : Fin 4) : Bool :=
  (pointsOfLane lane).any (usablePoint s p.dualSide l)
    && ((s.line l).config.any fun c => permits p.classes c.fuel)
    && (s.line l).state == .available
    && (s.line l).price != 0
    && (requested == 0 || requested.getLsbD l.val)

/-- The product set, in ascending line order (R51). -/
def productSet (s : State) (lane : Fin 8) (p : Program) (requested : BitVec 4) : List (Fin 4) :=
  allLines.filter (inProductSet s lane p requested)

/-- The ceiling of an allowance at creation: the lesser of the line's site ceiling and the program's ceiling for the
line's class (R7, R52). -/
def cardCeiling (s : State) (p : Program) (l : Fin 4) : Nat :=
  ((s.line l).config.map fun c => min c.ceiling (classValue p.ceilings c.fuel)).getD 0

/-- Whether a card has expired: its expiry is earlier than a set site date (R50). -/
def cardExpired (s : State) (expiry : Yymm) : Bool := s.su.date.any (yymmEarlier expiry)

/-- What checks 1 to 9 give: a refusal, or the program and the product set (R47). -/
inductive Screened where
  | refused (r : ReplyResult)
  | passed (program : Program) (products : List (Fin 4))
deriving DecidableEq, Repr

/-- Checks 5 to 9 of R47, on a well-formed request. -/
def screenCard (lane : Fin 8) (r : AuthRequest) (s : State) : Screened :=
  if s.su.denied.contains r.pan then .refused .deniedCard
  else
    match coveringProgram s.su.programs (programPrefix r.pan) with
    | none => .refused .unknownProgram
    | some p =>
      if cardExpired s r.expiry then .refused .expired
      else if !promptsMet p.prompts r.prompts then .refused .promptMissing
      else if (productSet s lane p r.lines).isEmpty then .refused .noProduct
      else .passed p (productSet s lane p r.lines)

/-- Checks 1 to 9 of R47, in their order. -/
def screen (lane : Fin 8) (r : AuthRequest) (s : State) : Screened :=
  if !requestValid r then .refused .format
  else if s.ss.site ≠ .running then .refused .siteHalted
  else if s.laneBusy lane then .refused .laneBusy
  else if s.freeSlot.isNone then .refused .noSlot
  else screenCard lane r s

/-- A reply without a tag (R184). -/
def refusedReply (r : ReplyResult) : Reply := { result := r, tag := 0, caps := [] }

/-- The grant of a card request as R7 fills it, before its tag. -/
def cardGrant (lane : Fin 8) (r : AuthRequest) (p : Program) (products : List (Fin 4)) (s : State) : Grant :=
  { Grant.blank lane with
    card := some { pan := r.pan, expiry := r.expiry, program := p.id }
    prompts := r.prompts
    requested := r.lines
    dualSide := p.dualSide
    allowances :=
      products.map fun l => { line := l, ceiling := cardCeiling s p l, limit := none, armed := none } }

/-- A request that passes while ONLINE: the grant is created PENDING, its tag joins the pending queue and its decision
timer starts (R7, R52). -/
def acceptOnline (i : Fin 24) (g : Grant) (s : State) : State × Reply :=
  ((createIn i { g with decisionTimer := Timer.start s.cp.timers.decision } s).modGm fun m =>
      { m with pendingTags := m.pendingTags ++ [s.nextTag] },
    { result := .accepted, tag := s.nextTag, caps := [] })

/-- A request that stand-in approves while OFFLINE: the approval is booked, the grant created and armed (R8, R55). -/
def approveOffline (i : Fin 24) (g : Grant) (pan : Pan) (p : Program) (s : State) : State × Reply :=
  let created :=
    createIn i (g.withStandin .standinOffline (standinLimit s p)) (s.modSu (·.book pan p.id))
  let armed := arm i created
  (armed, { result := .approved, tag := s.nextTag, caps := ((armed.grantAt i).map (·.caps)).getD [] })

/-- Check 10 and the creation that follows a pass (R47, R52 to R55). -/
def admitRequest (lane : Fin 8) (r : AuthRequest) (p : Program) (products : List (Fin 4)) (s : State) :
    State × Reply :=
  match s.freeSlot with
  | none => (s, refusedReply .noSlot)
  | some i =>
    match s.su.link with
    | .online => acceptOnline i (cardGrant lane r p products s) s
    | .offline =>
      match standinChecks false r.pan p s.su with
      | .approved => approveOffline i (cardGrant lane r p products s) r.pan p s
      | .refused => (s, refusedReply .standinRefused)
      | .tallyFull => (s.raiseTallyFull, refusedReply .tallyFull)

/-- The screening of a lane's request, with its reply (R47). -/
def doAuthRequest (lane : Fin 8) (request : Option AuthRequest) (s : State) : State × Reply :=
  match request with
  | none => (s, refusedReply .format)
  | some r =>
    match screen lane r s with
    | .refused x => (s, refusedReply x)
    | .passed p products => admitRequest lane r p products s

/-- AUTH_REQUEST. -/
def execAuthRequest (lane : Fin 8) (request : Option AuthRequest) (s : State) :
    Host.Outcome State Fault Refusal :=
  .next (answerMessage lane (.auth request) (doAuthRequest lane request) s)

end Sys2Proof.Machine
end

