-- ==== Sys2Proof/Machine/Site.lean ====
section
/-! DEFINITION. The Site Supervisor (chapter 8) and reset: the rows SITE_HALT, SITE_RESUME, ESTOP_ASSERTION,
ESTOP_RELEASE and RESET. -/

namespace Sys2Proof.Machine

/-- Steps 1 to 3 of the entry to HALTING: the site state, the close orders, the pumps (R154). -/
def stopForecourt (s : State) : State :=
  allLines.foldl (fun s l => forcedStop l s)
    (closeOrders allPoints { s with ss := { s.ss with site := .halting } })

/-- The entry to HALTING, in the order of R154. -/
def enterHalting (s : State) : State := haltTest (placeSiteNotice (haltGrants (stopForecourt s)))

/-- SITE_HALT (R158): answered OK with the site state after it. -/
def doSiteHalt (s : State) : State × Response :=
  if s.ss.site = .running then (enterHalting s, okWith [byteOf (codeOfSite (enterHalting s).ss.site)])
  else (s, okWith [byteOf (codeOfSite s.ss.site)])

/-- The resume (R160). -/
def resumeSite (s : State) : State := placeSiteNotice { s with ss := { s.ss with site := .running } }

/-- SITE_RESUME (R159). -/
def doSiteResume (s : State) : State × Response :=
  match s.ss.site with
  | .running => (s, okWith [])
  | .halting => (s, refusal .wrongState)
  | .halted => if s.ss.estop then (s, refusal .stillAsserted) else (resumeSite s, okWith [])

/-- The E-STOP level, at the pin and as filtered (R153). -/
def setEstop (level : Bool) (s : State) : State :=
  { s with ss := { s.ss with estop := level }, pins := { s.pins with estop := level } }

/-- A filtered E-STOP assertion: recorded, and in RUNNING the halt is entered (R153). -/
def estopAssert (s : State) : State :=
  if s.ss.site = .running then enterHalting (setEstop true s) else setEstop true s

/-- RESET: every block in its state after reset; the input pins are the world's and keep their levels, and the E-STOP
state and the site state follow the ESTOP level (R35, R85, R99, R123, R134, R152, R163, R186, R201, R210). -/
def resetPart (s : State) : State := State.afterReset s.pins s.cp.selection.acrossReset s.draws s.pending

/-- SITE_HALT. -/
def execSiteHalt (s : State) : Host.Outcome State Fault Refusal :=
  .next (takeCommand .siteHalt doSiteHalt s)

/-- SITE_RESUME. -/
def execSiteResume (s : State) : Host.Outcome State Fault Refusal :=
  .next (takeCommand .siteResume doSiteResume s)

/-- ESTOP_ASSERTION. -/
def execEstopAssertion (s : State) : Host.Outcome State Fault Refusal :=
  .next (estopAssert s)

/-- ESTOP_RELEASE. -/
def execEstopRelease (s : State) : Host.Outcome State Fault Refusal :=
  .next (setEstop false s)

/-- RESET. -/
def execReset (s : State) : Host.Outcome State Fault Refusal :=
  .next (resetPart s)

end Sys2Proof.Machine
end

