-- ==== Sys2Proof/Machine/Temperature.lean ====
section
/-! DEFINITION. The Temperature Unit (chapter 6): the scan, the probe states, and the rows LINE_SET (with the probe
rotation of R124), PROBE_SET, CONVERSION_COMPLETION and PROBE_HOLD_TIMER_EXPIRY. -/

namespace Sys2Proof.Machine

/-- The state with the Temperature Unit changed. -/
def State.modTu (s : State) (f : TemperatureUnit → TemperatureUnit) : State := { s with tu := f s.tu }

/-- The lines in the cyclic order that starts after the line served last (R125). -/
def linesAfter (last : Fin 4) : List (Fin 4) := allLines.map fun k => last + 1 + k

/-- The next channel in rotation (R125). -/
def State.nextChannel (s : State) : Option (Fin 4) :=
  (linesAfter s.tu.lastServed).find? fun l => (s.probe l).inRotation

/-- The converter chooses the next channel and starts its conversion, or is idle (R125). The line served last becomes
that line here, at the start, so that a conversion whose completion is discarded counts as served (DESIGN CHOICE,
notes/assumptions/21.md). -/
def chooseChannel (s : State) : State :=
  match s.nextChannel with
  | some l => s.modTu fun u => { u with converting := some { line := l, discard := false }, lastServed := l }
  | none => s.modTu fun u => { u with converting := none }

/-- The probe on entry to rotation (R124). -/
def Probe.entered (x : Probe) : Probe :=
  { x with state := .reference, temperature := 150, hold := .stopped, reported := false, inRotation := true }

/-- The probe on exit from rotation (R124). -/
def Probe.leftRotation (x : Probe) : Probe :=
  { x with state := .absent, temperature := 150, hold := .stopped, reported := false, inRotation := false }

/-- A channel enters rotation; an idle converter starts at once (R124, R125). -/
def enterRotation (l : Fin 4) (s : State) : State :=
  let entered := s.setProbe l (s.probe l).entered
  if s.tu.converting.isNone then chooseChannel entered else entered

/-- A channel leaves rotation; its conversion in flight runs on and its completion is discarded (R124, R126). -/
def leaveRotation (l : Fin 4) (s : State) : State :=
  (s.setProbe l (s.probe l).leftRotation).modTu fun u =>
    { u with
      converting := u.converting.map fun k => if k.line = l then { k with discard := true } else k }

/-- LINE_SET's change of rotation: by whether the line had a probe and whether it has one now (R89, R124). -/
def changeRotation (l : Fin 4) (before after : Bool) (s : State) : State :=
  match before, after with
  | false, true => enterRotation l s
  | true, false => leaveRotation l s
  | _, _ => s

/-- Whether a line's configuration has a probe. -/
def Line.hasProbe (x : Line) : Bool := x.config.any (·.probe)

/-- Whether a grant held in the table, in any state, has an allowance on the line (R88). -/
def State.lineHeld (s : State) (l : Fin 4) : Bool :=
  s.grants.any fun g => g.allowances.any fun a => a.line == l

/-- LINE_SET with class NONE (R89): configuration erased, pump forced OFF, probe out of rotation; the price is kept. -/
def eraseLine (l : Fin 4) (s : State) : State :=
  changeRotation l (s.line l).hasProbe false
    (forcedStop l (s.setLine l { s.line l with config := none, state := .unconfigured }))

/-- LINE_SET with another class (R89): every configuration field replaced, the line AVAILABLE. -/
def configureLine (l : Fin 4) (c : LineConfig) (s : State) : State :=
  changeRotation l (s.line l).hasProbe c.probe
    (s.setLine l { s.line l with config := some c, state := .available })

/-- LINE_SET's checks 2 and 3 (R88). -/
def lineSetRefusal (l : Fin 4) (s : State) : Option Result :=
  if (s.line l).state = .lockedOut then some .lineLocked
  else if s.lineHeld l then some .lineBusy
  else none

/-- LINE_SET (R88, R89). -/
def doLineSet (line : Nat) (arg : LineArg) (s : State) : State × Response :=
  match lineOf line, arg with
  | none, _ => (s, refusal .badParam)
  | some _, .unlisted => (s, refusal .badParam)
  | some l, .clear =>
    match lineSetRefusal l s with
    | some r => (s, refusal r)
    | none => (eraseLine l s, okWith [byteOf (codeOfLineState .unconfigured)])
  | some l, .set fuel fields =>
    match lineConfigOf fuel fields with
    | none => (s, refusal .badParam)
    | some c =>
      match lineSetRefusal l s with
      | some r => (s, refusal r)
      | none => (configureLine l c s, okWith [byteOf (codeOfLineState .available)])

/-- PROBE_SET (R128): the calibration alone changes. -/
def doProbeSet (line : Nat) (offset : Int) (span : Nat) (s : State) : State × Response :=
  match lineOf line with
  | none => (s, refusal .badParam)
  | some l =>
    if -1000 ≤ offset ∧ offset ≤ 1000 ∧ 1 ≤ span ∧ span ≤ 3000 then
      (s.setProbe l { s.probe l with offset := offset, span := span },
        okWith
          (signedField 2 (s.probe l).offset ++ unsignedField 2 (s.probe l).span ++ signedField 2 offset
            ++ unsignedField 2 span))
    else (s, refusal .badParam)

/-- The probe after a completion (R129, R131): a good code makes it GOOD at once; a fault code takes GOOD to HOLDING
and leaves the other states as they are. -/
def Probe.completed (x : Probe) (code holdCode : Nat) : Probe :=
  if codeGood code then
    { x with state := .good, temperature := convert x.offset x.span code, hold := .stopped, reported := false }
  else
    match x.state with
    | .good => { x with state := .holding, hold := Timer.start holdCode, reported := true }
    | .holding | .reference => { x with reported := true }
    | .absent => x

/-- The completion of a line in rotation; PROBE_FAULT is raised for a fault code while fault reported is no (R131). -/
def probeCompletion (l : Fin 4) (code : Nat) (s : State) : State :=
  let done := s.setProbe l ((s.probe l).completed code s.cp.timers.probeHold)
  if !codeGood code && !(s.probe l).reported then done.raiseProbeFault l else done

/-- CONVERSION_COMPLETION: the completion is taken, or discarded by R126, and the converter chooses again (R125). With
an idle converter no conversion completes (notes/assumptions/6.md). -/
def conversionCompletion (code : Nat) (s : State) : State :=
  match s.tu.converting with
  | some k =>
    chooseChannel (if !k.discard && (s.probe k.line).inRotation then probeCompletion k.line code s else s)
  | none => s

/-- The probe hold timer's expiry: REFERENCE, T 150, and no event (R130). A timer that does not run does not expire. -/
def probeHoldExpiry (l : Fin 4) (s : State) : State :=
  if (s.probe l).hold.mayExpire then
    s.setProbe l { s.probe l with state := .reference, temperature := 150, hold := .stopped }
  else s

/-- LINE_SET. -/
def execLineSet (line : Nat) (arg : LineArg) (s : State) : Host.Outcome State Fault Refusal :=
  .next (takeCommand (.lineSet line arg) (doLineSet line arg) s)

/-- PROBE_SET. -/
def execProbeSet (line : Nat) (offset : Int) (span : Nat) (s : State) : Host.Outcome State Fault Refusal :=
  .next (takeCommand (.probeSet line offset span) (doProbeSet line offset span) s)

/-- CONVERSION_COMPLETION. -/
def execConversionCompletion (code : Nat) (s : State) : Host.Outcome State Fault Refusal :=
  .next (conversionCompletion code s)

/-- PROBE_HOLD_TIMER_EXPIRY. -/
def execProbeHoldTimerExpiry (l : Fin 4) (s : State) : Host.Outcome State Fault Refusal :=
  .next (probeHoldExpiry l s)

end Sys2Proof.Machine
end

