-- ==== Sys2Proof/Machine/Port.lean ====
section
/-! DEFINITION. The Controller Port (chapter 10): selections, framing, the passing on of a command to its owner, its
completion, FETCH, and the commands the port itself owns: COMMAND_FRAME, COMMAND_COMPLETION, FETCH, TIMERS_SET,
STATUS_READ. -/

namespace Sys2Proof.Machine

/-- The state with the Controller Port changed. -/
def State.modCp (s : State) (f : ControllerPort → ControllerPort) : State := { s with cp := f s.cp }

/-! ### The port's own commands -/

/-- The settle count is clamped to 2 to 30 (R199). -/
def clampSettle (n : Nat) : Nat := max 2 (min n 30)

/-- TIMERS_SET (R199). -/
def doTimersSet (t : TimerSettings) (s : State) : State × Response :=
  (s.modCp fun c => { c with timers := { t with settle := clampSettle t.settle } },
    okWith (timersField { t with settle := clampSettle t.settle }))

/-- STATUS_READ (R200). -/
def doStatusRead (s : State) : State × Response := (s, okWith (statusAnswer s))

/-! ### The command map (section 10.7) -/

/-- The owning block's effect and answer for a command the port passes on; `none` for a row that is no host command. -/
def ownerOf : Instr → Option (State → State × Response)
  | .service => some doService
  | .decide tag verdict => some (doDecide tag verdict)
  | .openGrant lane es => some (doOpenGrant lane es)
  | .readGrant tag => some (doReadGrant tag)
  | .hold tag => some (doHold tag)
  | .resume tag => some (doResume tag)
  | .stop tag => some (doStop tag)
  | .collect => some doCollect
  | .programPut e => some (doProgramPut e)
  | .programDrop id => some (doProgramDrop id)
  | .programRead index => some (doProgramRead index)
  | .denyAdd pan => some (doDenyAdd pan)
  | .denyDrop pan => some (doDenyDrop pan)
  | .denyTest pan => some (doDenyTest pan)
  | .denyClear => some doDenyClear
  | .tallyRead position => some (doTallyRead position)
  | .tallyDrop pan => some (doTallyDrop pan)
  | .tallyClear => some doTallyClear
  | .pointSet point arg => some (doPointSet point arg)
  | .pointRead point => some (doPointRead point)
  | .pointEnable point => some (doPointEnable point)
  | .lineSet line arg => some (doLineSet line arg)
  | .lineRead line => some (doLineRead line)
  | .priceSet line price => some (doPriceSet line price)
  | .lineRestore line => some (doLineRestore line)
  | .probeSet line offset span => some (doProbeSet line offset span)
  | .siteHalt => some doSiteHalt
  | .siteResume => some doSiteResume
  | .linkSet link => some (doLinkSet link)
  | .dateSet date => some (doDateSet date)
  | .timersSet t => some (doTimersSet t)
  | .statusRead => some doStatusRead
  | .eventRead => some doEventRead
  | .eventMask mask => some (doEventMask mask)
  | .reset | .commandFrame _ | .commandCompletion | .fetch _ | .lift _ | .hangUp _ | .pulserStep _ _
  | .estopAssertion | .estopRelease | .periodEnd _ | .decisionTimerExpiry _ | .liftTimerExpiry _
  | .idleEndTimerExpiry _ | .holdTimerExpiry _ | .noFlowTimerExpiry _ | .startTimerExpiry _
  | .runOnTimerExpiry _ | .probeHoldTimerExpiry _ | .conversionCompletion _ | .dutyInForceChange _
  | .startCondition | .stopCondition | .writePhaseEnd _ _ | .authRequest _ _ | .cancel _ _ | .replyRead _
  | .busStuckTimerExpiry | .retryWaitEnd _ | .noticeTransferStart | .laneNoticeTransferEnd _
  | .generalCallTransferEnd | .arbitrationLoss _ | .addressByte _ => none

/-! ### Completion (R193) -/

/-- The response replaces the buffer, RESP_READY is set, BUSY is cleared (R193). -/
def placeResponse (r : Response) (s : State) : State :=
  s.modCp fun c => { c with state := .responseReady, held := none, answer := none, response := some r }

/-- COMMAND_COMPLETION. A command whose owner has not yet taken it is taken by now, since the taking falls at some
moment before the completion (R192). Outside PROCESSING no command completes (notes/assumptions/6.md). -/
def completion (s : State) : State :=
  match s.cp.state, s.cp.answer, s.cp.held with
  | .processing, some r, _ => placeResponse r s
  | .processing, none, some i =>
    match ownerOf i with
    | some act => placeResponse (act s).2 (act s).1
    | none => s
  | _, _, _ => s

/-! ### Selections -/

/-- The two framing checks (R190), on the number of complete bytes received and the bytes kept. -/
def framingFault (count : Nat) (kept : List Byte) : Option Result :=
  match kept with
  | _ :: n :: _ =>
    if count < 3 ∨ 250 < n.toNat ∨ count ≠ n.toNat + 3 then some .frameLength
    else if checkGood kept then none
    else some .frameCheck
  | _ => some .frameLength

/-- A good frame is passed into PROCESSING and sorted (R191): an unknown code and a wrong shape are answered by the
port itself. -/
def passOn (kept : List Byte) (s : State) : State :=
  match sortCommand (kept.headD 0#8) ((kept.drop 2).dropLast) with
  | .command i => s.modCp fun c => { c with state := .processing, held := some i, answer := none }
  | .unknown => s.giveAnswer (refusal .unknownCommand)
  | .badShape => s.giveAnswer (refusal .badParam)

/-- The frame in the receive buffer is taken at the rise of SCS: a collision while PROCESSING (R194), else the framing
checks (R190). The buffer is emptied at the end of every frame. -/
def takeFrame (count : Nat) (s : State) : State :=
  let emptied := s.modCp fun c => { c with received := [] }
  if s.cp.state = .processing then emptied.modCp fun c => { c with collision := true }
  else
    match framingFault count s.cp.received with
    | some r => placeResponse (refusal r) emptied
    | none => passOn s.cp.received emptied

/-- The response frame a FETCH chooses at its code byte: the unfetched response, or EMPTY (R195). -/
def fetchFrame (c : ControllerPort) : List Byte := responseFrame (c.response.getD (refusal .empty))

/-- The port after a FETCH that clocks `n` bytes after the status byte: the collision flag is cleared, and a response
shifted out to its check byte has been fetched (R195, R196). -/
def ControllerPort.fetched (c : ControllerPort) (status : Byte) (n : Nat) : ControllerPort :=
  let shown := { c with collision := false, shifted := status :: clockOut (fetchFrame c) n }
  if c.response.isSome ∧ (fetchFrame c).length ≤ n then
    { shown with response := none, state := if c.state = .responseReady then .ready else c.state }
  else shown

/-- The gathering of a command frame: the bytes up to the 253rd are kept, and 0x00 is shifted out after the status
byte (R189, R190). -/
def gather (status : Byte) (bytes : List Byte) (s : State) : State :=
  s.modCp fun c =>
    { c with
      received := bytes.take Config.portBufferSize
      shifted := status :: List.replicate (bytes.length - 1) 0#8 }

/-- A selection by its status byte and its complete bytes (R187, R189): none has no effect, one byte other than the FETCH
code is a status selection, a first byte of the FETCH code is a fetch, and anything else is a command frame. -/
def selection (status : Byte) (bytes : List Byte) (s : State) : State :=
  match bytes with
  | [] => s
  | first :: rest =>
    if first = Config.fetchCode then s.modCp (·.fetched status rest.length)
    else if rest = [] then s.modCp fun c => { c with shifted := [status] }
    else takeFrame bytes.length (gather status bytes s)

/-- SCS falls: a selection begins, and its status byte is formed from the state of this moment (R187, R188). In a
selection that has begun SCS does not fall (notes/assumptions/6.md). -/
def scsFalls (s : State) : State :=
  match s.cp.selection with
  | .begun _ => s
  | .released | .ignored => s.modCp fun c => { c with selection := .begun s.statusByte }

/-- The selection ends: it is carried out with the status byte formed at its fall of SCS, unless it is one that the part
ignores (R188, R201). A row without a fall before it stands for the whole selection, fall and rise in one step (DESIGN
CHOICE, notes/assumptions/9.md). -/
def endSelection (act : Byte → State → State) (s : State) : State :=
  let high := s.modCp fun c => { c with selection := .released }
  match s.cp.selection with
  | .ignored => high
  | .begun status => act status high
  | .released => act s.statusByte high

/-- A fetch selection of `n` bytes after the status byte (R195). -/
def fetchSelection (n : Nat) (s : State) : State :=
  endSelection (fun status t => t.modCp (·.fetched status n)) s

/-- COMMAND_FRAME at either edge of SCS (R187 to R191). -/
def scsEdge (edge : ScsEdge) (s : State) : State :=
  match edge with
  | .fall => scsFalls s
  | .rise bytes => endSelection (selection · bytes) s

/-! ### The rows -/

/-- TIMERS_SET. -/
def execTimersSet (t : TimerSettings) (s : State) : Host.Outcome State Fault Refusal :=
  .next (takeCommand (.timersSet t) (doTimersSet t) s)

/-- STATUS_READ. -/
def execStatusRead (s : State) : Host.Outcome State Fault Refusal :=
  .next (takeCommand .statusRead doStatusRead s)

/-- COMMAND_FRAME. -/
def execCommandFrame (edge : ScsEdge) (s : State) : Host.Outcome State Fault Refusal :=
  .next (scsEdge edge s)

/-- COMMAND_COMPLETION. -/
def execCommandCompletion (s : State) : Host.Outcome State Fault Refusal :=
  .next (completion s)

/-- FETCH. -/
def execFetch (n : Nat) (s : State) : Host.Outcome State Fault Refusal :=
  .next (fetchSelection n s)

end Sys2Proof.Machine
end

