-- ==== Sys2Proof/Machine/Tick.lean ====
section
/-! DEFINITION. The tick of 100 ms on which the interval-code timers and the pump start timer count (00_scope, Timers).
The table has no row for it: it is what a step does when no command waits (DESIGN CHOICE, notes/assumptions/8.md). -/

namespace Sys2Proof.Machine

/-- A grant with its four timers counted. -/
def Grant.tick (g : Grant) : Grant :=
  { g with
    decisionTimer := g.decisionTimer.tick
    liftTimer := g.liftTimer.tick
    idleEndTimer := g.idleEndTimer.tick
    holdTimer := g.holdTimer.tick }

/-- The expiries of a grant's timers that this tick completes. -/
def Grant.due (g : Grant) : List Instr :=
  (if g.decisionTimer.dueAtTick then [.decisionTimerExpiry g.tag] else [])
    ++ (if g.liftTimer.dueAtTick then [.liftTimerExpiry g.tag] else [])
    ++ (if g.idleEndTimer.dueAtTick then [.idleEndTimerExpiry g.tag] else [])
    ++ (if g.holdTimer.dueAtTick then [.holdTimerExpiry g.tag] else [])

/-- The expiries of a line's timers and its probe's that this tick completes. -/
def State.lineDue (s : State) (l : Fin 4) : List Instr :=
  (if (s.line l).startTimer.dueAtTick then [.startTimerExpiry l] else [])
    ++ (if (s.line l).runOnTimer.dueAtTick then [.runOnTimerExpiry l] else [])
    ++ (if (s.probe l).hold.dueAtTick then [.probeHoldTimerExpiry l] else [])

/-- Every expiry that this tick completes. -/
def State.due (s : State) : List Instr :=
  s.grants.flatMap (·.due)
    ++ (allPoints.filterMap fun p => if (s.point p).noFlow.dueAtTick then some (.noFlowTimerExpiry p) else none)
    ++ allLines.flatMap s.lineDue

/-- A line's two timers and its probe's hold timer counted. -/
def tickLine (s : State) (l : Fin 4) : State :=
  (s.setLine l { s.line l with startTimer := (s.line l).startTimer.tick, runOnTimer := (s.line l).runOnTimer.tick }).setProbe
    l { s.probe l with hold := (s.probe l).hold.tick }

/-- Every timer counted. -/
def tickTimers (s : State) : State :=
  allLines.foldl tickLine
    (allPoints.foldl (fun s p => s.setPoint p { s.point p with noFlow := (s.point p).noFlow.tick })
      (allSlots.foldl (fun s i => s.modGrant i (·.tick)) s))

/-- A tick: every running timer counts one period, and the expiries that it completes wait in the queue, in a free
order (notes/assumptions/5.md). -/
def tick (s : State) : State :=
  { tickTimers s with
    pending := s.pending ++ arrange s.draws s.due
    draws := if s.due.isEmpty then s.draws else s.draws + 1 }

end Sys2Proof.Machine
end

