-- ==== Sys2Proof/Machine/Dispatch.lean ====
section
/-! DEFINITION. The meaning of each command and event of the table, one arm each. -/

namespace Sys2Proof.Machine

/-- The effect of a command on everything but the queue. -/
def exec (i : Instr) (s : State) : Host.Outcome State Fault Refusal :=
  match i with
  | .reset => Sys2Proof.Machine.execReset s
  | .service => Sys2Proof.Machine.execService s
  | .decide tag verdict => Sys2Proof.Machine.execDecide tag verdict s
  | .openGrant lane entries => Sys2Proof.Machine.execOpenGrant lane entries s
  | .readGrant tag => Sys2Proof.Machine.execReadGrant tag s
  | .hold tag => Sys2Proof.Machine.execHold tag s
  | .resume tag => Sys2Proof.Machine.execResume tag s
  | .stop tag => Sys2Proof.Machine.execStop tag s
  | .collect => Sys2Proof.Machine.execCollect s
  | .programPut entry => Sys2Proof.Machine.execProgramPut entry s
  | .programDrop id => Sys2Proof.Machine.execProgramDrop id s
  | .programRead index => Sys2Proof.Machine.execProgramRead index s
  | .denyAdd pan => Sys2Proof.Machine.execDenyAdd pan s
  | .denyDrop pan => Sys2Proof.Machine.execDenyDrop pan s
  | .denyTest pan => Sys2Proof.Machine.execDenyTest pan s
  | .denyClear => Sys2Proof.Machine.execDenyClear s
  | .tallyRead position => Sys2Proof.Machine.execTallyRead position s
  | .tallyDrop pan => Sys2Proof.Machine.execTallyDrop pan s
  | .tallyClear => Sys2Proof.Machine.execTallyClear s
  | .pointSet point arg => Sys2Proof.Machine.execPointSet point arg s
  | .pointRead point => Sys2Proof.Machine.execPointRead point s
  | .pointEnable point => Sys2Proof.Machine.execPointEnable point s
  | .lineSet line arg => Sys2Proof.Machine.execLineSet line arg s
  | .lineRead line => Sys2Proof.Machine.execLineRead line s
  | .priceSet line price => Sys2Proof.Machine.execPriceSet line price s
  | .lineRestore line => Sys2Proof.Machine.execLineRestore line s
  | .probeSet line offset span => Sys2Proof.Machine.execProbeSet line offset span s
  | .siteHalt => Sys2Proof.Machine.execSiteHalt s
  | .siteResume => Sys2Proof.Machine.execSiteResume s
  | .linkSet link => Sys2Proof.Machine.execLinkSet link s
  | .dateSet date => Sys2Proof.Machine.execDateSet date s
  | .timersSet settings => Sys2Proof.Machine.execTimersSet settings s
  | .statusRead => Sys2Proof.Machine.execStatusRead s
  | .eventRead => Sys2Proof.Machine.execEventRead s
  | .eventMask mask => Sys2Proof.Machine.execEventMask mask s
  | .commandFrame edge => Sys2Proof.Machine.execCommandFrame edge s
  | .commandCompletion => Sys2Proof.Machine.execCommandCompletion s
  | .fetch clocked => Sys2Proof.Machine.execFetch clocked s
  | .lift point => Sys2Proof.Machine.execLift point s
  | .hangUp point => Sys2Proof.Machine.execHangUp point s
  | .pulserStep point phase => Sys2Proof.Machine.execPulserStep point phase s
  | .estopAssertion => Sys2Proof.Machine.execEstopAssertion s
  | .estopRelease => Sys2Proof.Machine.execEstopRelease s
  | .periodEnd point => Sys2Proof.Machine.execPeriodEnd point s
  | .decisionTimerExpiry tag => Sys2Proof.Machine.execDecisionTimerExpiry tag s
  | .liftTimerExpiry tag => Sys2Proof.Machine.execLiftTimerExpiry tag s
  | .idleEndTimerExpiry tag => Sys2Proof.Machine.execIdleEndTimerExpiry tag s
  | .holdTimerExpiry tag => Sys2Proof.Machine.execHoldTimerExpiry tag s
  | .noFlowTimerExpiry point => Sys2Proof.Machine.execNoFlowTimerExpiry point s
  | .startTimerExpiry line => Sys2Proof.Machine.execStartTimerExpiry line s
  | .runOnTimerExpiry line => Sys2Proof.Machine.execRunOnTimerExpiry line s
  | .probeHoldTimerExpiry line => Sys2Proof.Machine.execProbeHoldTimerExpiry line s
  | .conversionCompletion code => Sys2Proof.Machine.execConversionCompletion code s
  | .dutyInForceChange point => Sys2Proof.Machine.execDutyInForceChange point s
  | .startCondition => Sys2Proof.Machine.execStartCondition s
  | .stopCondition => Sys2Proof.Machine.execStopCondition s
  | .writePhaseEnd bytes ending => Sys2Proof.Machine.execWritePhaseEnd bytes ending s
  | .authRequest lane request => Sys2Proof.Machine.execAuthRequest lane request s
  | .cancel lane tag => Sys2Proof.Machine.execCancel lane tag s
  | .replyRead clocked => Sys2Proof.Machine.execReplyRead clocked s
  | .busStuckTimerExpiry => Sys2Proof.Machine.execBusStuckTimerExpiry s
  | .retryWaitEnd lane => Sys2Proof.Machine.execRetryWaitEnd lane s
  | .noticeTransferStart => Sys2Proof.Machine.execNoticeTransferStart s
  | .laneNoticeTransferEnd nak => Sys2Proof.Machine.execLaneNoticeTransferEnd nak s
  | .generalCallTransferEnd => Sys2Proof.Machine.execGeneralCallTransferEnd s
  | .arbitrationLoss loss => Sys2Proof.Machine.execArbitrationLoss loss s
  | .addressByte byte => Sys2Proof.Machine.execAddressByte byte s

end Sys2Proof.Machine
end

