-- ==== Sys2Proof/Safety.lean ====
section
/-! DEFINITION. What the claims about the part speak of: when an owner may take a host command, the checks of the
manual written out as propositions, what arming makes of a grant, and the laws that every step keeps. -/

namespace Sys2Proof.Machine

/-! ### Commands -/

/-- The port holds no other command that waits for its owner (notes/assumptions/3.md): the owner of `i` may take it. -/
def Takes (i : Instr) (s : State) : Prop := s.cp.held = none ∨ s.cp.held = some i

/-- The status byte of the selection on the port: the one formed at the fall of SCS (R188), or, where the fall was given
no row, the one of this moment (notes/assumptions/9.md). -/
def State.statusAtFall (s : State) : Byte :=
  match s.cp.selection with
  | .begun status => status
  | .released | .ignored => s.statusByte

/-- A PAN of 12 to 19 decimal digits (R43, R48). -/
abbrev GoodPan (pan : Pan) : Prop := 12 ≤ pan.length ∧ pan.length ≤ 19 ∧ ∀ d ∈ pan, d ≤ 9

/-- A YYMM value of decimal digits whose month is 01 to 12 (R46, R203). -/
abbrev GoodMonth (d : Yymm) : Prop :=
  d.y1 ≤ 9 ∧ d.y2 ≤ 9 ∧ d.m1 ≤ 9 ∧ d.m2 ≤ 9 ∧ 1 ≤ d.m1 * 10 + d.m2 ∧ d.m1 * 10 + d.m2 ≤ 12

/-- A list of limit entries whose lines are 0 to 3, each once, and whose kinds are listed (R9, R12). -/
abbrev GoodEntries (es : List LimitEntry) : Prop :=
  (∀ e ∈ es, e.line < 4 ∧ e.kind ≠ none) ∧ (es.map (·.line)).Nodup

/-- DECIDE's check 1 (R12). -/
def GoodVerdict : Verdict → Prop
  | .approve es => es.length ≤ 4 ∧ GoodEntries es
  | .decline code => 1 ≤ code ∧ code ≤ 255
  | .unlisted => False

/-- A program entry within the ranges of R37's check 1. -/
def GoodProgram (e : ProgramArg) (p : Program) : Prop :=
  e.id ≤ 31 ∧ e.low ≤ e.high ∧ e.high ≤ 99999999 ∧ 1 ≤ e.countLimit ∧ e.countLimit ≤ 15
    ∧ (∀ v ∈ [e.ceilings.roadDiesel, e.ceilings.defFluid, e.ceilings.reefer, e.limits.roadDiesel,
        e.limits.defFluid, e.limits.reefer], 1 ≤ v ∧ v ≤ 2000000)
    ∧ e.dualSide = some p.dualSide ∧ e.mode = some p.mode
    ∧ p =
      { id := e.id, low := e.low, high := e.high, classes := e.classes, dualSide := p.dualSide, prompts := e.prompts,
        ceilings := e.ceilings, mode := p.mode, limits := e.limits, countLimit := e.countLimit }

/-- A line configuration within the ranges of R86, slow duty at most full duty (R88's check 1). -/
def GoodLine (fuel : FuelClass) (f : LineFields) (c : LineConfig) : Prop :=
  1 ≤ f.ceiling ∧ f.ceiling ≤ 2000000 ∧ f.slowMargin ≤ 50000 ∧ f.closeLead ≤ 20 ∧ f.alpha ≤ 2000
    ∧ 1 ≤ f.fullDuty ∧ f.fullDuty ≤ 255 ∧ 1 ≤ f.slowDuty ∧ f.slowDuty ≤ f.fullDuty ∧ f.startDelay ≤ 30
    ∧ f.runOn ≤ 255 ∧ f.basis = some c.basis ∧ f.probe = some c.probe
    ∧ c =
      { fuel := fuel, ceiling := f.ceiling, slowMargin := f.slowMargin, closeLead := f.closeLead, alpha := f.alpha,
        basis := c.basis, fullDuty := f.fullDuty, slowDuty := f.slowDuty, startDelay := f.startDelay,
        runOn := f.runOn, probe := c.probe }

/-- A point configuration within the ranges of R62 (R63's check 1). -/
def GoodPoint (line k threshold creep : Nat) : Prop :=
  line ≤ 3 ∧ 50 ≤ k ∧ k ≤ 2000 ∧ 1 ≤ threshold ∧ threshold ≤ 15 ∧ 1 ≤ creep ∧ creep ≤ 255

/-- A grant that stands in a slot of the table, the lowest that carries its tag. -/
def HeldIn (s : State) (tag : Nat) (i : Fin 24) (g : Grant) : Prop :=
  s.findTag tag = some i ∧ s.grantAt i = some g

/-! ### Screening (R47 to R53) -/

/-- A well-formed card request (R48). -/
def GoodRequest (r : AuthRequest) : Prop :=
  GoodPan r.pan ∧ GoodMonth r.expiry ∧ r.prompts.length ≤ 4 ∧ (r.prompts.map (·.kind)).Nodup
    ∧ ∀ q ∈ r.prompts, q.kind ≠ none ∧ 1 ≤ q.digits.length ∧ q.digits.length ≤ 8 ∧ ∀ d ∈ q.digits, d ≤ 9

/-- A line is in the product set of a request of a lane under a program (R51). -/
def InProducts (s : State) (lane : Fin 8) (p : Program) (requested : BitVec 4) (l : Fin 4) : Prop :=
  (∃ (q : Fin 32) (c : PointConfig), q.val / 4 = lane.val ∧ (s.point q).state ≠ .disabled
      ∧ (s.point q).state ≠ .outOfService ∧ (s.point q).config = some c ∧ c.line = l
      ∧ (p.dualSide = true ∨ c.role ≠ .satellite))
    ∧ (∃ x, (s.line l).config = some x ∧ permits p.classes x.fuel = true)
    ∧ (s.line l).state = .available ∧ (s.line l).price ≠ 0 ∧ (requested = 0 ∨ requested.getLsbD l.val = true)

/-- The first program entry whose prefix range holds a PAN's first eight digits (R36, R50). -/
def State.programFor (s : State) (pan : Pan) : Option Program :=
  s.su.programs.find? fun e => decide (e.low ≤ natOfDigits (pan.take 8) ∧ natOfDigits (pan.take 8) ≤ e.high)

/-- `u'` is `u` with a stand-in approval of a card booked (R54, R57): the count of its entry one higher, or, for a card
without an entry, a new entry with count 1 and amount 0 in the lowest empty position; nothing else changes. -/
def Booked (u u' : ScreeningUnit) (pan : Pan) (program : Nat) : Prop :=
  u'.programs = u.programs ∧ u'.denied = u.denied ∧ u'.link = u.link ∧ u'.date = u.date
    ∧ (∀ k e, u.entryAt k = some e → e.pan = pan → (∀ j f, u.entryAt j = some f → f.pan = pan → j = k) →
        u'.entryAt k = some { e with count := e.count + 1 } ∧ ∀ j, j ≠ k → u'.entryAt j = u.entryAt j)
    ∧ ((∀ j f, u.entryAt j = some f → f.pan ≠ pan) →
        ∀ k, u.entryAt k = none → (∀ j, j < k → u.entryAt j ≠ none) →
          u'.entryAt k = some { pan := pan, program := program, count := 1, amount := 0 }
            ∧ ∀ j, j ≠ k → u'.entryAt j = u.entryAt j)

/-- The first nine checks of R47 in their order, each as the condition that refuses and the result it answers. -/
def refusals (s : State) (lane : Fin 8) (r : AuthRequest) : List (Prop × ReplyResult) :=
  [(¬ GoodRequest r, .format),
   (s.ss.site ≠ .running, .siteHalted),
   (∃ i g, s.grantAt i = some g ∧ g.lane = lane ∧ g.state ≠ .settled, .laneBusy),
   (∀ i, s.grantAt i ≠ none, .noSlot),
   (r.pan ∈ s.su.denied, .deniedCard),
   (s.programFor r.pan = none, .unknownProgram),
   (∃ d, s.su.date = some d
      ∧ (r.expiry.y1 * 10 + r.expiry.y2 < d.y1 * 10 + d.y2
        ∨ r.expiry.y1 * 10 + r.expiry.y2 = d.y1 * 10 + d.y2
          ∧ r.expiry.m1 * 10 + r.expiry.m2 < d.m1 * 10 + d.m2), .expired),
   (∃ p k, s.programFor r.pan = some p ∧ p.prompts.getLsbD (promptBit k) = true
      ∧ ∀ q ∈ r.prompts, q.kind ≠ some k, .promptMissing),
   (∃ p, s.programFor r.pan = some p ∧ ∀ l, ¬ InProducts s lane p r.lines l, .noProduct)]

/-- `s₁` is the state in which a block takes the message `m` of a lane: with that message, the oldest in processing of
all lanes, taken and the malformed ones behind it answered in their turn (R175), or, with no message in processing, with
the lane flushed, when the row stands for the whole write (R171; notes/assumptions/4.md). -/
def TakenFrom (s : State) (lane : Fin 8) (m : LaneMessage) (s₁ : State) : Prop :=
  (s.ibi.inProcess = [] ∧ s₁ = flushLane lane s)
    ∨ ∃ rest, s.ibi.inProcess = { lane := lane, message := m, discarded := false } :: rest ∧ s₁ = goOnWith rest s

/-! ### Arming (R17, R18, R115, R116) -/

/-- The volume equivalent L of a limit at a price (R116). -/
def equivalentVolume : LimitKind → Nat → Nat → Nat
  | .volume, value, _ => value
  | .amount, value, price => value * 10000 / price

/-- `b` is what arming makes of the allowance `a` that was given the limit `limit`: limit 0 rewritten as the ceiling
(R115), price and basis of the line as they stand, the cap of R116, and totals of 0 (R17). -/
def ArmedFrom (s : State) (limit : LimitKind × Nat) (a b : Allowance) : Prop :=
  b.line = a.line ∧ b.ceiling = a.ceiling ∧
    ∃ kind value t, b.limit = some (kind, value) ∧ b.armed = some t
      ∧ (kind, value) = (if limit.2 = 0 then (LimitKind.volume, a.ceiling) else limit)
      ∧ t.price = (s.line a.line).price
      ∧ (∀ c, (s.line a.line).config = some c → t.basis = c.basis)
      ∧ t.cap = min (equivalentVolume kind value t.price) a.ceiling
      ∧ t.clamped = decide (a.ceiling < equivalentVolume kind value t.price)
      ∧ t.exhausted = decide (t.cap = 0)
      ∧ t.volume = 0 ∧ t.amount = 0 ∧ t.residual = t.cap

/-- Whether arming keeps the allowance of a line (R17): not LOCKED_OUT, and a price other than 0. -/
def keepsLine (s : State) (l : Fin 4) : Bool := (s.line l).state != .lockedOut && (s.line l).price != 0

/-- `g'` has the allowances, the attached set and the point records that arming gives `g`, each allowance with the
limit `limits` gives its line (R17, R18). -/
def ArmedAs (s : State) (limits : Fin 4 → Option (LimitKind × Nat)) (g g' : Grant) : Prop :=
  List.Forall₂ (fun a b => ∃ limit, limits a.line = some limit ∧ ArmedFrom s limit a b)
      (g.allowances.filter fun a => (limits a.line).isSome && keepsLine s a.line) g'.allowances
    ∧ g'.attached =
      (pointsOfLane g.lane).filter (fun p =>
        (s.point p).state != .disabled && (s.point p).state != .outOfService
          && (s.point p).config.any fun c =>
            g'.allowances.any (·.line == c.line) && (g.dualSide || c.role != .satellite))
    ∧ ∀ b ∈ g'.allowances, ∀ t, b.armed = some t →
        t.records =
          (g'.attached.filter fun p => (s.point p).config.any (·.line == b.line)).map fun p =>
            { point := p, k := ((s.point p).config.map (·.k)).getD 0, pulses := 0, accumulator := 0, gross := 0,
              compensated := 0, lastIncrement := 0 }

/-! ### The laws every step keeps -/

/-- The valve law, as far as the points, the lines and the site show it (R82, R83): no duty outside FLOWING and
SLOWING; a point that primes or delivers has its nozzle lifted, its line not LOCKED_OUT and the site RUNNING. -/
def ValveLaw (s : State) : Prop :=
  ∀ p : Fin 32,
    ((s.point p).state.isOpen = false → (s.point p).stageDuty = 0 ∧ (s.point p).dutyInForce = 0)
      ∧ ((s.point p).state.isOpenOrPriming = true →
        (s.point p).nozzle = true ∧ s.ss.site = .running
          ∧ ∃ c, (s.point p).config = some c ∧ (s.line c.line).state ≠ .lockedOut)
      ∧ ((s.point p).state = .lifted → (s.point p).nozzle = true)

/-- What section 4.4 lays down for a line in each pump state. -/
def PumpForm (x : Line) : Prop :=
  match x.pump with
  | .off => x.requesting = 0 ∧ x.delayMet = false ∧ x.startTimer = .stopped ∧ x.runOnTimer = .stopped
  | .on => x.requesting ≠ 0 ∧ x.runOnTimer = .stopped ∧ (x.delayMet = true ↔ x.startTimer = .stopped)
  | .runOn => x.requesting = 0 ∧ x.delayMet = true ∧ x.startTimer = .stopped ∧ x.runOnTimer ≠ .stopped

/-- The pump law (R97 and the table of section 4.4): a relay is energized only on an AVAILABLE line of a RUNNING site,
and each pump state has its requesting set, mark and timer. -/
def PumpLaw (s : State) : Prop :=
  ∀ l : Fin 4,
    (s.relay l = true → (s.line l).state = .available ∧ s.ss.site = .running) ∧ PumpForm (s.line l)

/-- What section 6.3 lays down for a probe in each state, and the range of T (R109, R127). -/
def ProbeForm (x : Probe) : Prop :=
  -400 ≤ x.temperature ∧ x.temperature ≤ 700 ∧
    match x.state with
    | .absent => x.inRotation = false ∧ x.temperature = 150 ∧ x.hold = .stopped
    | .good => x.inRotation = true ∧ x.hold = .stopped
    | .holding => x.inRotation = true ∧ x.hold ≠ .stopped
    | .reference => x.inRotation = true ∧ x.temperature = 150 ∧ x.hold = .stopped

/-- The bounds of the counters, windows, creep counts, notice queues and settle count (R79, R101, R147, R176, R199),
and the form of the probes, in rotation while their line is configured with a probe (R124). -/
def BoundLaw (s : State) : Prop :=
  (∀ p : Fin 32,
    (s.point p).forward ≤ 4095 ∧ (s.point p).reverse ≤ 4095 ∧ (s.point p).errors ≤ 4095
      ∧ (s.point p).latchForward ≤ 4095 ∧ (s.point p).latchReverse ≤ 4095 ∧ (s.point p).latchErrors ≤ 4095
      ∧ (s.point p).settleLeft ≤ 30
      ∧ ∀ c, (s.point p).config = some c → (s.point p).creep ≤ c.creepAllowance)
    ∧ (∀ n : Fin 8, (s.lane n).notices.length ≤ 2 ∧ (s.lane n).attempts ≤ 2)
    ∧ 2 ≤ s.cp.timers.settle ∧ s.cp.timers.settle ≤ 30
    ∧ ∀ l : Fin 4, ProbeForm (s.probe l) ∧ ((s.probe l).inRotation = true ↔ ∃ c, (s.line l).config = some c ∧ c.probe = true)

/-- The law of the Screening Unit's tables (R36, R42, R58, R59). -/
def TableLaw (s : State) : Prop :=
  s.su.programs.length ≤ 32 ∧ (s.su.programs.map (·.id)).Nodup
    ∧ s.su.programs.Pairwise (fun a b => a.high < b.low)
    ∧ (∀ p ∈ s.su.programs, p.low ≤ p.high ∧ p.countLimit ≤ 15)
    ∧ s.su.denied.length ≤ 1024 ∧ s.su.denied.Nodup
    ∧ (∀ j k e f, s.su.entryAt j = some e → s.su.entryAt k = some f → e.pan = f.pan → j = k)
    ∧ ∀ k e, s.su.entryAt k = some e → e.count ≤ 15 ∧ e.amount ≤ 99999999

/-- The law of the grant table and its queues (R2, R4, R5, R6): tags distinct in 1 to 255, one live grant a lane, the
pending queue exactly the PENDING grants not served, the settled queue exactly the SETTLED grants. -/
def GrantLaw (s : State) : Prop :=
  (∀ i g, s.grantAt i = some g → 1 ≤ g.tag ∧ g.tag ≤ 255)
    ∧ (∀ i j g h, s.grantAt i = some g → s.grantAt j = some h → g.tag = h.tag → i = j)
    ∧ (∀ i j g h, s.grantAt i = some g → s.grantAt j = some h → g.isLive = true → h.isLive = true →
        g.lane = h.lane → i = j)
    ∧ s.gm.pendingTags.Nodup
    ∧ (∀ tag, tag ∈ s.gm.pendingTags ↔
        ∃ i g, s.grantAt i = some g ∧ g.tag = tag ∧ g.state = .pending ∧ g.served = false)
    ∧ s.gm.settledTags.Nodup
    ∧ ∀ tag, tag ∈ s.gm.settledTags ↔ ∃ i g, s.grantAt i = some g ∧ g.tag = tag ∧ g.state = .settled

/-- The law of attachment and delivery (R18, R26, R30, R68, R83, R104). Besides the laws of the grants and the valves:
a point's tag names the grant that has it attached; attached points belong to the grant's lane, are configured and have
a record in the armed allowance of their line; a grant PENDING or SETTLED has none; a point that primes or delivers is
attached to a FUELING grant whose allowance of its line is OPEN; a point in its settle window is attached to a grant
FUELING, HELD or CLOSING. -/
def DeliveryLaw (s : State) : Prop :=
  GrantLaw s ∧ ValveLaw s
    ∧ (∀ p tag, (s.point p).tag = some tag ↔ ∃ i g, s.grantAt i = some g ∧ g.tag = tag ∧ p ∈ g.attached)
    ∧ (∀ i g, s.grantAt i = some g →
        (g.state = .pending ∨ g.state = .settled → g.attached = [])
          ∧ ∀ p ∈ g.attached, p.val / 4 = g.lane.val
            ∧ ∃ c a t, (s.point p).config = some c ∧ g.allowanceOn c.line = some a ∧ a.armed = some t
              ∧ p ∈ t.records.map (·.point))
    ∧ (∀ p, (s.point p).state.isOpenOrPriming = true →
        ∃ i g c, s.grantAt i = some g ∧ p ∈ g.attached ∧ g.state = .fueling
          ∧ (s.point p).config = some c ∧ g.openOn c.line = true)
    ∧ ∀ p, (s.point p).state = .settling →
        ∃ i g, s.grantAt i = some g ∧ p ∈ g.attached
          ∧ (g.state = .fueling ∨ g.state = .held ∨ g.state = .closing)

/-- The volumes of a point record follow from its totals (R106, R107, R111). -/
def RecordForm (r : PointRecord) : Prop :=
  r.pulses ≤ 4294967295 ∧ r.accumulator ≤ 18446744073709551615
    ∧ r.gross = r.pulses * 1000 / r.k ∧ r.compensated = r.accumulator / (r.k * 1000)

/-- The totals of an armed allowance follow from its records (R113), and its cap from its ceiling (R116). -/
def AllowanceForm (a : Allowance) : Prop :=
  ∀ t, a.armed = some t →
    (∀ r ∈ t.records, RecordForm r) ∧ 1 ≤ t.price ∧ t.cap ≤ a.ceiling
      ∧ t.volume = (t.records.map fun r => match t.basis with | .gross => r.gross | .compensated => r.compensated).sum
      ∧ t.amount = (t.volume * t.price + 5000) / 10000
      ∧ t.residual = (t.cap : Int) - (t.volume : Int)

/-- The metering law: every allowance of every grant has the form of R106 to R116. -/
def MeterLaw (s : State) : Prop :=
  ∀ i g, s.grantAt i = some g → ∀ a ∈ g.allowances, AllowanceForm a

end Sys2Proof.Machine
end

