-- ==== Sys2Proof/WellFormed.lean ====
section
/-! DEFINITION. Which commands the port and the bus can carry: every operand fits its field of section 10.8. The
owners' own checks (BAD_PARAM and the rest) are no part of this: a well-formed command may still be refused. -/

namespace Sys2Proof

/-- The value fits a field of `k` bytes. -/
def fits (k n : Nat) : Bool := n < 256 ^ k

/-- The counted half-bytes of a PAN field: at most twenty, each below sixteen. -/
def wfPan (pan : Pan) : Bool := pan.length ≤ 20 && pan.all (· < 16)

/-- A limit entry's fields. -/
def wfEntry (e : LimitEntry) : Bool := fits 1 e.line && fits 4 e.value

/-- The limit entries of a frame of at most 250 parameter bytes, after `used` other parameter bytes. -/
def wfEntries (used : Nat) (es : List LimitEntry) : Bool := used + 6 * es.length ≤ 250 && es.all wfEntry

/-- A verdict's fields. -/
def wfVerdict : Verdict → Bool
  | .approve entries => wfEntries 3 entries
  | .decline code => fits 1 code
  | .unlisted => true

/-- A per-class field of three bytes each. -/
def wfPerClass (v : PerClass) : Bool := fits 3 v.roadDiesel && fits 3 v.defFluid && fits 3 v.reefer

/-- A program entry's fields. -/
def wfProgram (e : ProgramArg) : Bool :=
  fits 1 e.id && fits 4 e.low && fits 4 e.high && wfPerClass e.ceilings && wfPerClass e.limits && fits 1 e.countLimit

/-- The fields of POINT_SET. -/
def wfPointArg : PointArg → Bool
  | .clear => true
  | .set _ line k threshold creep => fits 1 line && fits 2 k && fits 1 threshold && fits 1 creep
  | .unlisted => true

/-- The fields of LINE_SET. -/
def wfLineArg : LineArg → Bool
  | .clear => true
  | .set _ f =>
    fits 3 f.ceiling && fits 2 f.slowMargin && fits 1 f.closeLead && fits 2 f.alpha && fits 1 f.fullDuty
      && fits 1 f.slowDuty && fits 1 f.startDelay && fits 1 f.runOn
  | .unlisted => true

/-- A YYMM field that is not the mark 0xFF 0xFF. -/
def wfYymm (d : Yymm) : Bool :=
  d.y1 < 16 && d.y2 < 16 && d.m1 < 16 && d.m2 < 16 && d != { y1 := 15, y2 := 15, m1 := 15, m2 := 15 }

/-- A card request's fields: half-bytes, and prompt digits before the first fill half. -/
def wfRequest (r : AuthRequest) : Bool :=
  wfPan r.pan && r.expiry.y1 < 16 && r.expiry.y2 < 16 && r.expiry.m1 < 16 && r.expiry.m2 < 16
    && r.prompts.length < 256 && r.prompts.all (fun p => p.digits.length ≤ 8 && p.digits.all (· < 15))

/-- The operands of a command fit their fields. -/
def WellFormed : Instr → Bool
  | .reset | .service | .collect | .denyClear | .tallyClear | .siteHalt | .siteResume | .linkSet _ | .dateSet none
  | .statusRead | .eventRead | .commandCompletion | .fetch _ | .lift _ | .hangUp _ | .pulserStep _ _
  | .estopAssertion | .estopRelease | .periodEnd _ | .noFlowTimerExpiry _ | .startTimerExpiry _
  | .runOnTimerExpiry _ | .probeHoldTimerExpiry _ | .dutyInForceChange _ | .startCondition | .stopCondition
  | .writePhaseEnd _ _ | .replyRead _ | .busStuckTimerExpiry | .retryWaitEnd _ | .noticeTransferStart
  | .laneNoticeTransferEnd _ | .generalCallTransferEnd | .arbitrationLoss _ | .addressByte _
  | .commandFrame .fall => true
  | .decide tag verdict => fits 1 tag && wfVerdict verdict
  | .openGrant lane entries => fits 1 lane && wfEntries 2 entries
  | .readGrant tag | .hold tag | .resume tag | .stop tag | .decisionTimerExpiry tag | .liftTimerExpiry tag
  | .idleEndTimerExpiry tag | .holdTimerExpiry tag | .cancel _ tag => fits 1 tag
  | .programPut entry => wfProgram entry
  | .programDrop n | .programRead n | .tallyRead n | .pointRead n | .pointEnable n | .lineRead n
  | .lineRestore n => fits 1 n
  | .denyAdd pan | .denyDrop pan | .denyTest pan | .tallyDrop pan => wfPan pan
  | .pointSet point arg => fits 1 point && wfPointArg arg
  | .lineSet line arg => fits 1 line && wfLineArg arg
  | .priceSet line price => fits 1 line && fits 3 price
  | .probeSet line offset span => fits 1 line && decide (-32768 ≤ offset) && decide (offset < 32768) && fits 2 span
  | .dateSet (some d) => wfYymm d
  | .timersSet t =>
    fits 1 t.decision && fits 1 t.lift && fits 1 t.noFlow && fits 1 t.idleEnd && fits 1 t.hold && fits 1 t.probeHold
      && fits 1 t.settle
  | .eventMask mask => fits 2 mask
  | .commandFrame (.rise bytes) => 2 ≤ bytes.length && bytes.head? != some Config.fetchCode
  | .conversionCompletion code => code < 1024
  | .authRequest _ none => true
  | .authRequest _ (some r) => wfRequest r

end Sys2Proof
end

