-- ==== Sys2Proof/Certificates/Slice0/Obligations.lean ====
section
/-! DEFINITION. The statements about the FA-832 for the provers. A statement about a host command assumes `Takes`: the
port holds no other command that waits for its owner. A result written as an update of `s` is its own frame: every
field, table entry and register that the update does not name is as it was. -/

open Sys2Proof Sys2Proof.Machine

/-! ### The queue and the tick -/

/-- A step takes the command at the front of the queue and runs it with the rest of the queue (the model's own form of
the order of events; notes/assumptions/1.md). -/
def Obligations.StepTakesFrontCommand : Prop :=
  ∀ (c : Instr) (rest : List Instr) (s : State),
    step { s with pending := c :: rest } = exec c { s with pending := rest }

/-- With no command waiting a step is a tick of 100 ms (the model's choice, notes/assumptions/8.md): a timer that runs
counts one period, a stopped one and one under code 0 stay; the expiry of each timer that had at most one period left
joins the queue once, in some order (notes/assumptions/5.md), and nothing else changes. -/
def Obligations.EmptyQueueCountsOnePeriod : Prop :=
  ∀ s : State, s.pending = [] →
    let counted : Timer → Timer := fun x =>
      match x with
      | .running n => .running (n - 1)
      | .stopped => .stopped
      | .unlimited => .unlimited
    let ending : Timer → Bool := fun x => x == .running 0 || x == .running 1
    let expiries : List Instr :=
      (s.grants.flatMap fun g =>
          (if ending g.decisionTimer then [.decisionTimerExpiry g.tag] else [])
            ++ (if ending g.liftTimer then [.liftTimerExpiry g.tag] else [])
            ++ (if ending g.idleEndTimer then [.idleEndTimerExpiry g.tag] else [])
            ++ (if ending g.holdTimer then [.holdTimerExpiry g.tag] else []))
        ++ (allPoints.filter fun p => ending (s.point p).noFlow).map (fun p => .noFlowTimerExpiry p)
        ++ (allLines.flatMap fun l =>
          (if ending (s.line l).startTimer then [.startTimerExpiry l] else [])
            ++ (if ending (s.line l).runOnTimer then [.runOnTimerExpiry l] else [])
            ++ (if ending (s.probe l).hold then [.probeHoldTimerExpiry l] else []))
    ∃ t, step s = .next t
      ∧ (∀ p, t.point p = { s.point p with noFlow := counted (s.point p).noFlow })
      ∧ (∀ l, t.line l =
          { s.line l with
            startTimer := counted (s.line l).startTimer, runOnTimer := counted (s.line l).runOnTimer })
      ∧ (∀ l, t.probe l = { s.probe l with hold := counted (s.probe l).hold })
      ∧ (∀ i, t.grantAt i = (s.grantAt i).map fun g =>
          { g with
            decisionTimer := counted g.decisionTimer
            liftTimer := counted g.liftTimer
            idleEndTimer := counted g.idleEndTimer
            holdTimer := counted g.holdTimer })
      ∧ t.gm.pendingTags = s.gm.pendingTags ∧ t.gm.settledTags = s.gm.settledTags
      ∧ t.gm.tagCounter = s.gm.tagCounter ∧ t.tu.converting = s.tu.converting ∧ t.tu.lastServed = s.tu.lastServed
      ∧ t.su = s.su ∧ t.ss = s.ss ∧ t.ibi = s.ibi ∧ t.cp = s.cp ∧ t.au = s.au ∧ t.pins = s.pins
      ∧ t.pending.Perm expiries ∧ t.draws = (if expiries = [] then s.draws else s.draws + 1)

/-! ### Command frames -/

/-- Every well-formed host command is read back from the code and the parameters that section 10.8 gives it. -/
def Obligations.CommandsSurviveEncoding : Prop :=
  ∀ (i : Instr) (code : Byte) (params : List Byte),
    WellFormed i = true → encodeCommand i = some (code, params) → sortCommand code params = .command i

/-- COMMAND_FRAME: outside PROCESSING the whole frame of a well-formed command puts the port in PROCESSING and hands
the command on; its bytes shift out the status byte and zeros (R188, R189, R190, R191). A selection whose fall was given
no row forms its status byte at its end: that is the model's choice (notes/assumptions/9.md), as is the output log
`shifted` (notes/assumptions/16.md). -/
def Obligations.GoodFrameIsPassedOn : Prop :=
  ∀ (i : Instr) (code : Byte) (params : List Byte) (s : State),
    WellFormed i = true → encodeCommand i = some (code, params) → s.cp.state ≠ .processing →
    s.cp.selection ≠ .ignored →
      exec (.commandFrame (.rise (frameOf code params))) s = .next
        { s with
          cp :=
            { s.cp with
              state := .processing
              selection := .released
              held := some i
              answer := none
              received := []
              shifted := s.statusAtFall :: List.replicate (params.length + 2) 0#8 } }

/-- COMMAND_FRAME, every selection. The fall of SCS forms the status byte (R188). At its rise, a selection begun before
the release of reset is ignored (R201), one without a complete byte has no effect (R187), one of one byte other than the
FETCH code shifts out the status byte alone, and one that begins with the FETCH code is a FETCH (R189). A frame whose end
finds the port PROCESSING is a collision (R194); else a wrong length is answered FRAME_LENGTH and then a wrong check byte
FRAME_CHECK (R190); a good frame is sorted: a command is handed on, a code of no command is answered UNKNOWN_COMMAND and a
wrong shape BAD_PARAM by the port (R191). That a second fall changes nothing, that a rise without a fall forms the status
byte itself, and the output log `shifted` are the model's choices (notes/assumptions/6.md, 9.md, 16.md). -/
def Obligations.FramesAreSorted : Prop :=
  (∀ s : State,
    ((∀ b, s.cp.selection ≠ .begun b) →
      exec (.commandFrame .fall) s = .next { s with cp := { s.cp with selection := .begun s.statusByte } })
    ∧ (∀ b, s.cp.selection = .begun b → exec (.commandFrame .fall) s = .next s)
    ∧ (∀ bytes, s.cp.selection = .ignored →
        exec (.commandFrame (.rise bytes)) s = .next { s with cp := { s.cp with selection := .released } })
    ∧ exec (.commandFrame (.rise [])) s = .next { s with cp := { s.cp with selection := .released } }
    ∧ (∀ b, s.cp.selection ≠ .ignored → b ≠ 0xF0#8 →
        exec (.commandFrame (.rise [b])) s = .next
          { s with cp := { s.cp with selection := .released, shifted := [s.statusAtFall] } })
    ∧ ∀ rest, exec (.commandFrame (.rise (0xF0#8 :: rest))) s = exec (.fetch rest.length) s)
  ∧ ∀ (bytes : List Byte) (s : State), 2 ≤ bytes.length → bytes.head? ≠ some 0xF0#8 → s.cp.selection ≠ .ignored →
    let taken : ControllerPort :=
      { s.cp with
        selection := .released
        received := []
        shifted := s.statusAtFall :: List.replicate (bytes.length - 1) 0#8 }
    exec (.commandFrame (.rise bytes)) s = .next
      { s with
        cp :=
          if s.cp.state = .processing then { taken with collision := true }
          else if bytes.length < 3 ∨ 250 < (bytes.getD 1 0#8).toNat
              ∨ bytes.length ≠ (bytes.getD 1 0#8).toNat + 3 then
            { taken with
              state := .responseReady
              held := none
              answer := none
              response := some { result := .frameLength, data := [] } }
          else if checkByte bytes.dropLast ≠ bytes.getLastD 0#8 then
            { taken with
              state := .responseReady
              held := none
              answer := none
              response := some { result := .frameCheck, data := [] } }
          else
            match sortCommand (bytes.getD 0 0#8) ((bytes.drop 2).dropLast) with
            | .command i => { taken with state := .processing, held := some i, answer := none }
            | .unknown =>
              { taken with
                state := .processing, held := none, answer := some { result := .unknownCommand, data := [] } }
            | .badShape =>
              { taken with state := .processing, held := none, answer := some { result := .badParam, data := [] } } }

/-- COMMAND_COMPLETION: the answer given replaces the response buffer, and the port is RESPONSE_READY (R193); a command
not yet taken is taken by its owner first (R192; that the completion's row does so is the model's choice,
notes/assumptions/3.md); outside PROCESSING nothing completes (notes/assumptions/6.md). -/
def Obligations.CompletionPlacesAnswer : Prop :=
  ∀ s : State,
    (∀ r, s.cp.state = .processing → s.cp.answer = some r →
      exec .commandCompletion s = .next
        { s with
          cp := { s.cp with state := .responseReady, held := none, answer := none, response := some r } })
    ∧ (∀ i e, s.cp.state = .processing → s.cp.answer = none → s.cp.held = some i → encodeCommand i = some e →
      ∃ t r, exec i s = .next t ∧ t.cp.answer = some r
        ∧ exec .commandCompletion s = .next
          { t with
            cp := { t.cp with state := .responseReady, held := none, answer := none, response := some r } })
    ∧ (s.cp.state ≠ .processing → exec .commandCompletion s = .next s)

/-- FETCH with `n` bytes clocked after the status byte: the response held, or EMPTY, is shifted out and then 0xFF; the
collision flag is cleared; a response clocked to its check byte has been fetched, and a RESPONSE_READY port is READY
(R195, R196, R197). A fetch begun before the release of reset is ignored (R201). The status byte of a selection whose
fall was given no row, and the output log `shifted`, are the model's choices (notes/assumptions/9.md, 16.md). -/
def Obligations.FetchSendsHeldResponse : Prop :=
  ∀ (n : Nat) (s : State),
    let r := s.cp.response.getD { result := .empty, data := [] }
    let body := byteOf (codeOfResult r.result) :: byteOf r.data.length :: r.data
    let frame := body ++ [checkByte body]
    let fetched : Prop := s.cp.response ≠ none ∧ frame.length ≤ n
    (s.cp.selection = .ignored → exec (.fetch n) s = .next { s with cp := { s.cp with selection := .released } })
    ∧ (s.cp.selection ≠ .ignored →
      exec (.fetch n) s = .next
        { s with
          cp :=
            { s.cp with
              selection := .released
              collision := false
              shifted := s.statusAtFall :: (frame ++ List.replicate n 0xFF#8).take n
              response := if fetched then none else s.cp.response
              state := if fetched ∧ s.cp.state = .responseReady then .ready else s.cp.state } })

/-! ### The port's own commands, the events, ATTN and the status byte -/

/-- The settings and the events. TIMERS_SET writes all seven settings with the settle count clamped to 2 to 30 and
answers them (R199); STATUS_READ answers the 19 bytes of the status and changes nothing (R200). EVENT_READ reports the
flags and sets as they stand and clears every sticky flag and set, leaving the mask (R208); EVENT_MASK replaces the
mask, or answers BAD_PARAM when one of bits 9 to 15 is set (R209). -/
def Obligations.SettingsAndEvents : Prop :=
  (∀ (t : TimerSettings) (s : State), WellFormed (.timersSet t) = true → Takes (.timersSet t) s →
    let settle := if t.settle < 2 then 2 else if 30 < t.settle then 30 else t.settle
    exec (.timersSet t) s = .next
      ({ s with cp := { s.cp with timers := { t with settle := settle } } }.giveAnswer
        (okWith (([t.decision, t.lift, t.noFlow, t.idleEnd, t.hold, t.probeHold, settle]).map byteOf))))
  ∧ (∀ s : State, Takes .statusRead s →
      let site : Byte := match s.ss.site with | .running => 0#8 | .halting => 1#8 | .halted => 2#8
      let link : Byte := match s.su.link with | .online => 0#8 | .offline => 1#8
      let date : List Byte := match s.su.date with | none => [0xFF#8, 0xFF#8] | some d => bytesOfYymm d
      let held := (allSlots.filter fun i => (s.grantAt i).isSome).length
      exec .statusRead s = .next
        (s.giveAnswer
          (okWith
            ([site, if s.ss.estop then 1#8 else 0#8, link] ++ date ++ unsignedField 1 held
              ++ unsignedField 1 s.gm.pendingTags.length ++ unsignedField 1 s.gm.settledTags.length
              ++ unsignedField 1 s.su.programs.length ++ unsignedField 2 s.su.denied.length
              ++ unsignedField 1 (s.su.tally.toList.countP (·.isSome)) ++ timersField s.cp.timers)))
      ∧ (statusAnswer s).length = 19)
  ∧ (∀ s : State, Takes .eventRead s →
    exec .eventRead s = .next
      ({ s with
          au :=
            { pointFault := 0, probeFault := 0, lineLockout := 0, haltComplete := false, busFault := false,
              terminalSilent := 0, tallyFull := false, mask := s.au.mask } }.giveAnswer
        (okWith
          (bytesOfNat 2 s.flags.toNat ++ bytesOfNat 4 s.au.pointFault.toNat
            ++ [s.au.probeFault.setWidth 8, s.au.lineLockout.setWidth 8, s.au.terminalSilent]))))
  ∧ ∀ (mask : Nat) (s : State), WellFormed (.eventMask mask) = true → Takes (.eventMask mask) s →
      exec (.eventMask mask) s = .next
        (if mask / 512 = 0 then
          { s with au := { s.au with mask := BitVec.ofNat 9 mask } }.giveAnswer (okWith [])
        else s.giveAnswer (refusal .badParam))

/-- ATTN is low exactly while some flag is both set and enabled (R207), each flag being as R205 and R206 set it, and
the status byte shows its six flags beside the marker bits 6 and 7 (R188). -/
def Obligations.AttnAndStatusByte : Prop :=
  ∀ s : State,
    (s.attnLow = true ↔ ∃ k, k < 9 ∧ s.flags.getLsbD k = true ∧ s.au.mask.getLsbD k = true)
    ∧ (s.flags.getLsbD 0 = true ↔ s.gm.pendingTags ≠ [])
    ∧ (s.flags.getLsbD 1 = true ↔ s.gm.settledTags ≠ [])
    ∧ (s.flags.getLsbD 2 = true ↔ s.au.pointFault ≠ 0)
    ∧ (s.flags.getLsbD 3 = true ↔ s.au.probeFault ≠ 0)
    ∧ (s.flags.getLsbD 4 = true ↔ s.au.lineLockout ≠ 0)
    ∧ s.flags.getLsbD 5 = s.au.haltComplete
    ∧ s.flags.getLsbD 6 = s.au.busFault
    ∧ (s.flags.getLsbD 7 = true ↔ s.au.terminalSilent ≠ 0)
    ∧ s.flags.getLsbD 8 = s.au.tallyFull
    ∧ s.statusByte.getLsbD 0 = s.cp.response.isSome
    ∧ (s.statusByte.getLsbD 1 = true ↔ s.cp.state = .processing)
    ∧ s.statusByte.getLsbD 2 = s.cp.collision
    ∧ s.statusByte.getLsbD 3 = s.attnLow
    ∧ (s.statusByte.getLsbD 4 = true ↔ s.ss.site ≠ .running)
    ∧ (s.statusByte.getLsbD 5 = true ↔ s.su.link = .offline)
    ∧ s.statusByte.getLsbD 6 = true ∧ s.statusByte.getLsbD 7 = false

/-! ### Grants: handing out, reading, collecting, tags -/

/-- SERVICE takes the head of the pending queue and marks its grant served, READ_GRANT changes nothing, COLLECT takes
the head of the settled queue and frees its grant's slot; each answers the grant's record, and EMPTY or UNKNOWN_TAG
where there is none (R11, R33, R34). -/
def Obligations.ServiceReadCollect : Prop :=
  (∀ s : State, Takes .service s → s.gm.pendingTags = [] →
    exec .service s = .next (s.giveAnswer (refusal .empty)))
  ∧ (∀ (s : State) tag rest i g, Takes .service s → s.gm.pendingTags = tag :: rest → HeldIn s tag i g →
    exec .service s = .next
      (((s.setSlot i (some { g with served := true })).modGm fun m => { m with pendingTags := rest }).giveAnswer
        (okWith (grantRecord { g with served := true }))))
  ∧ (∀ (s : State) tag, Takes (.readGrant tag) s → (∀ i g, s.grantAt i = some g → g.tag ≠ tag) →
    exec (.readGrant tag) s = .next (s.giveAnswer (refusal .unknownTag)))
  ∧ (∀ (s : State) tag i g, Takes (.readGrant tag) s → HeldIn s tag i g →
    exec (.readGrant tag) s = .next (s.giveAnswer (okWith (grantRecord g))))
  ∧ (∀ s : State, Takes .collect s → s.gm.settledTags = [] →
    exec .collect s = .next (s.giveAnswer (refusal .empty)))
  ∧ ∀ (s : State) tag rest i g, Takes .collect s → s.gm.settledTags = tag :: rest → HeldIn s tag i g →
    exec .collect s = .next
      (((s.setSlot i none).modGm fun m => { m with settledTags := rest }).giveAnswer (okWith (grantRecord g)))

/-- The tag a new grant takes (R3): with a slot free, it is the first value after the counter, in the cycle 1 to 255,
that no grant held carries. -/
def Obligations.NextTagIsFirstFree : Prop :=
  ∀ (s : State) (i : Fin 24), s.grantAt i = none →
    ∃ k : Nat, s.nextTag = (stepTag^[k + 1]) s.gm.tagCounter
      ∧ 1 ≤ s.nextTag ∧ s.nextTag ≤ 255
      ∧ (∀ j g, s.grantAt j = some g → g.tag ≠ s.nextTag)
      ∧ ∀ m, m < k → ∃ j g, s.grantAt j = some g ∧ g.tag = (stepTag^[m + 1]) s.gm.tagCounter

/-! ### DECIDE, OPEN_GRANT and arming -/

/-- DECIDE's four checks, in their order; a command refused changes nothing (R12). -/
def Obligations.DecideChecks : Prop :=
  ∀ (tag : Nat) (v : Verdict) (s : State), Takes (.decide tag v) s →
    (¬ GoodVerdict v → exec (.decide tag v) s = .next (s.giveAnswer (refusal .badParam)))
    ∧ (GoodVerdict v → (∀ i g, s.grantAt i = some g → g.tag ≠ tag) →
        exec (.decide tag v) s = .next (s.giveAnswer (refusal .unknownTag)))
    ∧ (∀ i g, GoodVerdict v → HeldIn s tag i g → g.state ≠ .pending →
        exec (.decide tag v) s = .next (s.giveAnswer (refusal .late)))
    ∧ ∀ i g es, v = .approve es → GoodVerdict v → HeldIn s tag i g → g.state = .pending →
        (es = [] ∨ ∃ e ∈ es, ∀ a ∈ g.allowances, a.line.val ≠ e.line) →
        exec (.decide tag v) s = .next (s.giveAnswer (refusal .badClass))

/-- DECIDE DECLINE of a PENDING grant (R14, R31, R32): source HOST, outcome DECLINED_HOST with the code, the tag out of
the pending queue and in the settled queue, the DECISION notice queued before the SALE_END notice, all timers stopped. -/
def Obligations.DeclineSettlesGrant : Prop :=
  ∀ (tag code : Nat) (s : State) (i : Fin 24) (g : Grant), Takes (.decide tag (.decline code)) s →
    1 ≤ code → code ≤ 255 → HeldIn s tag i g → g.state = .pending → g.attached = [] → g.outcome = none →
    s.ss.site = .running →
    exec (.decide tag (.decline code)) s = .next
      ((queueNotice g.lane
          (.saleEnd tag (some (.declinedHost code)) g.degraded
            (g.allowances.map fun a => { line := a.line, volume := a.volume, amount := a.amount }))
          (queueNotice g.lane (.declined tag code)
            ((s.setSlot i
                (some
                  { g with
                    source := some .host
                    outcome := some (.declinedHost code)
                    state := .settled
                    decisionTimer := .stopped
                    liftTimer := .stopped
                    idleEndTimer := .stopped
                    holdTimer := .stopped })).modGm fun m =>
              { m with
                pendingTags := m.pendingTags.filter (· ≠ tag)
                settledTags := m.settledTags ++ [tag] }))).giveAnswer
        (okWith []))

/-- DECIDE APPROVE of a PENDING grant (R13, R17, R18, R19). The grant takes the allowances, attached set and records of
arming. With an OPEN allowance it is ARMED, its lift timer started, its points tagged, a DECISION notice with the caps
queued. With none it settles with LINE_LOCKOUT when no allowance was kept, else with LIMIT. -/
def Obligations.ApproveArmsGrant : Prop :=
  ∀ (tag : Nat) (es : List LimitEntry) (s : State) (i : Fin 24) (g : Grant), Takes (.decide tag (.approve es)) s →
    GoodVerdict (.approve es) → HeldIn s tag i g → g.state = .pending → s.ss.site = .running →
    es ≠ [] → (∀ e ∈ es, ∃ a ∈ g.allowances, a.line.val = e.line) →
    ∃ (kept : List Allowance) (points : List (Fin 32)) (t : State),
      exec (.decide tag (.approve es)) s = .next t
      ∧ ArmedAs s (fun l => (entryFor es l).bind limitOf) g { g with allowances := kept, attached := points }
      ∧ (∀ j, j ≠ i → t.grantAt j = s.grantAt j)
      ∧ t.gm.tagCounter = s.gm.tagCounter ∧ t.gm.pendingTags = s.gm.pendingTags.filter (· ≠ tag)
      ∧ t.lines = s.lines ∧ t.su = s.su ∧ t.tu = s.tu ∧ t.ss = s.ss ∧ t.au = s.au ∧ t.pins = s.pins
      ∧ t.draws = s.draws ∧ t.pending = s.pending
      ∧ (∃ g', t.grantAt i = some g' ∧ t.cp = (s.giveAnswer (okWith (grantRecord g'))).cp)
      ∧ ((∃ a ∈ kept, a.isOpen = true) →
          t.grantAt i = some
            { g with
              allowances := kept
              attached := points
              source := some .host
              state := .armed
              decisionTimer := .stopped
              liftTimer := Timer.start s.cp.timers.lift }
          ∧ (∀ p, t.point p = if p ∈ points then { s.point p with tag := some tag } else s.point p)
          ∧ t.gm.settledTags = s.gm.settledTags
          ∧ t.ibi =
            (queueNotice g.lane
              (.approved tag (kept.map fun a => { line := a.line, cap := (a.armed.map (·.cap)).getD 0 })) s).ibi)
      ∧ ((∀ a ∈ kept, a.isOpen = false) →
          ∃ outcome, outcome = g.outcome.getD (if kept = [] then EndReason.lineLockout else EndReason.limit)
          ∧ t.grantAt i = some
            { g with
              allowances := kept
              attached := []
              source := some .host
              outcome := some outcome
              state := .settled
              decisionTimer := .stopped
              liftTimer := .stopped
              idleEndTimer := .stopped
              holdTimer := .stopped }
          ∧ (∀ p, t.point p = if p ∈ points then { s.point p with tag := none } else s.point p)
          ∧ t.gm.settledTags = s.gm.settledTags ++ [tag]
          ∧ t.ibi =
            (queueNotice g.lane
              (.saleEnd tag (some outcome) g.degraded
                (kept.map fun a => { line := a.line, volume := 0, amount := 0 })) s).ibi)

/-- OPEN_GRANT (R9, R10): its five checks in order; then an ATTENDANT grant in the lowest free slot with the next tag,
one allowance for each listed AVAILABLE line at the site ceiling, armed by R17 to R19, and its record answered. With an
OPEN allowance it is ARMED, its lift timer started, its points tagged, a DECISION notice with the caps queued; with none
it settles with LINE_LOCKOUT when no allowance was kept, else with LIMIT, a SALE_END notice queued. -/
def Obligations.OpenGrantChecksAndArms : Prop :=
  ∀ (lane : Nat) (es : List LimitEntry) (s : State), Takes (.openGrant lane es) s →
    (¬ (lane < 8 ∧ 1 ≤ es.length ∧ es.length ≤ 4 ∧ GoodEntries es) →
      exec (.openGrant lane es) s = .next (s.giveAnswer (refusal .badParam)))
    ∧ (∀ n : Fin 8, lane = n.val → 1 ≤ es.length → es.length ≤ 4 → GoodEntries es →
      (s.ss.site ≠ .running → exec (.openGrant lane es) s = .next (s.giveAnswer (refusal .halted)))
      ∧ (s.ss.site = .running → (∃ i g, s.grantAt i = some g ∧ g.lane = n ∧ g.state ≠ .settled) →
          exec (.openGrant lane es) s = .next (s.giveAnswer (refusal .wrongState)))
      ∧ (s.ss.site = .running → (∀ i g, s.grantAt i = some g → ¬ (g.lane = n ∧ g.state ≠ .settled)) →
          ((∀ i, s.grantAt i ≠ none) → exec (.openGrant lane es) s = .next (s.giveAnswer (refusal .noSlot)))
          ∧ ∀ i, s.grantAt i = none → (∀ j, j < i → s.grantAt j ≠ none) →
            ((∀ l : Fin 4, (∃ e ∈ es, e.line = l.val) → (s.line l).state ≠ .available) →
              exec (.openGrant lane es) s = .next (s.giveAnswer (refusal .badParam)))
            ∧ ((∃ l : Fin 4, (∃ e ∈ es, e.line = l.val) ∧ (s.line l).state = .available) →
              ∃ (requested : BitVec 4) (kept : List Allowance) (points : List (Fin 32)) (t : State),
                let made : Grant :=
                  { tag := s.nextTag
                    lane := n
                    card := none
                    prompts := []
                    requested := requested
                    dualSide := true
                    source := some .attendant
                    state := .pending
                    served := false
                    allowances :=
                      (allLines.filter fun l =>
                        (s.line l).state == .available && es.any (·.line == l.val)).map fun l =>
                          { line := l, ceiling := s.lineField l (·.ceiling), limit := (entryFor es l).bind limitOf,
                            armed := none }
                    attached := []
                    flowed := false
                    outcome := none
                    degraded := false
                    decisionTimer := .stopped
                    liftTimer := .stopped
                    idleEndTimer := .stopped
                    holdTimer := .stopped }
                (∀ l : Fin 4, requested.getLsbD l.val = true ↔ ∃ e ∈ es, e.line = l.val)
                ∧ ArmedAs s (fun l => (entryFor es l).bind limitOf) made
                    { made with allowances := kept, attached := points }
                ∧ exec (.openGrant lane es) s = .next t
                ∧ (∀ j, j ≠ i → t.grantAt j = s.grantAt j)
                ∧ t.gm.tagCounter = s.nextTag
                ∧ t.lines = s.lines ∧ t.su = s.su ∧ t.tu = s.tu ∧ t.ss = s.ss ∧ t.au = s.au ∧ t.pins = s.pins
                ∧ t.draws = s.draws ∧ t.pending = s.pending
                ∧ (∃ g', t.grantAt i = some g' ∧ t.cp = (s.giveAnswer (okWith (grantRecord g'))).cp)
                ∧ ((∃ a ∈ kept, a.isOpen = true) →
                    t.grantAt i = some
                      { made with
                        allowances := kept
                        attached := points
                        state := .armed
                        liftTimer := Timer.start s.cp.timers.lift }
                    ∧ (∀ p, t.point p = if p ∈ points then { s.point p with tag := some s.nextTag } else s.point p)
                    ∧ t.gm.settledTags = s.gm.settledTags ∧ t.gm.pendingTags = s.gm.pendingTags
                    ∧ t.ibi =
                      (queueNotice n
                        (.approved s.nextTag
                          (kept.map fun a => { line := a.line, cap := (a.armed.map (·.cap)).getD 0 })) s).ibi)
                ∧ ((∀ a ∈ kept, a.isOpen = false) →
                    ∃ outcome, outcome = (if kept = [] then EndReason.lineLockout else EndReason.limit)
                    ∧ t.grantAt i = some
                      { made with allowances := kept, attached := [], outcome := some outcome, state := .settled }
                    ∧ (∀ p, t.point p = if p ∈ points then { s.point p with tag := none } else s.point p)
                    ∧ t.gm.settledTags = s.gm.settledTags ++ [s.nextTag]
                    ∧ t.gm.pendingTags = s.gm.pendingTags.filter (· ≠ s.nextTag)
                    ∧ t.ibi =
                      (queueNotice n
                        (.saleEnd s.nextTag (some outcome) false
                          (kept.map fun a => { line := a.line, volume := 0, amount := 0 })) s).ibi))))

/-! ### Closing, settlement and the commands that end a grant -/

/-- Close orders (R71, R76, R82, R96): each named point in PRIMING, FLOWING or SLOWING enters SETTLING with its valve at
0 at once, its no-flow timer stopped and its window loaded; its pump request is withdrawn, and a pump whose set becomes
empty runs on. Every other point, and everything else, is unchanged. -/
def Obligations.CloseOrdersCloseValves : Prop :=
  ∀ (ps : List (Fin 32)) (s : State),
    let closes : Fin 32 → Bool := fun p =>
      ps.contains p && ((s.point p).state == .priming || (s.point p).state == .flowing || (s.point p).state == .slowing)
    let t := closeOrders ps s
    (∀ p, t.point p =
      if closes p then
        { s.point p with
          state := .settling
          stageDuty := 0
          dutyInForce := 0
          noFlow := .stopped
          settleLeft := s.cp.timers.settle }
      else s.point p)
    ∧ (∀ l,
        (∀ p, hasPoint (t.line l).requesting p =
          (hasPoint (s.line l).requesting p && !(closes p && (s.point p).config.any (·.line == l))))
        ∧ ((s.line l).pump = .on → (s.line l).requesting ≠ 0 → (t.line l).requesting = 0 →
            t.line l =
              { s.line l with
                requesting := 0
                pump := .runOn
                delayMet := true
                startTimer := .stopped
                runOnTimer := Timer.start (s.lineField l (·.runOn)) })
        ∧ (¬ ((s.line l).pump = .on ∧ (s.line l).requesting ≠ 0 ∧ (t.line l).requesting = 0) →
            t.line l = { s.line l with requesting := (t.line l).requesting }))
    ∧ t.gm = s.gm ∧ t.su = s.su ∧ t.tu = s.tu ∧ t.ss = s.ss ∧ t.ibi = s.ibi ∧ t.cp = s.cp ∧ t.au = s.au
    ∧ t.pins = s.pins ∧ t.draws = s.draws ∧ t.pending = s.pending

/-- Settlement in the order of R31: timers stopped, the tag out of the pending queue and at the tail of the settled
queue, points detached, a SALE_END notice queued, a stand-in grant's total amount added to its card's tally entry up to
99,999,999 (R59); in HALTING the site is HALTED when no grant is left CLOSING (R157). -/
def Obligations.SettlementFollowsOrder : Prop :=
  ∀ (i : Fin 24) (g : Grant) (s : State), s.grantAt i = some g → g.state ≠ .settled →
    let t := settle i s
    t.grantAt i = some
      { g with
        state := .settled
        attached := []
        decisionTimer := .stopped
        liftTimer := .stopped
        idleEndTimer := .stopped
        holdTimer := .stopped }
    ∧ (∀ j, j ≠ i → t.grantAt j = s.grantAt j)
    ∧ t.gm.tagCounter = s.gm.tagCounter
    ∧ t.gm.pendingTags = s.gm.pendingTags.filter (· ≠ g.tag) ∧ t.gm.settledTags = s.gm.settledTags ++ [g.tag]
    ∧ (∀ p, t.point p = if p ∈ g.attached then { s.point p with tag := none } else s.point p)
    ∧ t.ibi =
      (queueNotice g.lane
        (.saleEnd g.tag g.outcome g.degraded
          (g.allowances.map fun a => { line := a.line, volume := a.volume, amount := a.amount })) s).ibi
    ∧ (∀ c, g.card = some c → (g.source = some .standinOffline ∨ g.source = some .standinTimeout) →
        t.su.programs = s.su.programs ∧ t.su.denied = s.su.denied ∧ t.su.link = s.su.link ∧ t.su.date = s.su.date
        ∧ ∀ k, t.su.entryAt k =
          if s.su.positionOf c.pan = some k then
            (s.su.entryAt k).map fun e =>
              { e with amount := min (e.amount + (g.allowances.map (·.amount)).sum) 99999999 }
          else s.su.entryAt k)
    ∧ ((g.card = none ∨ (g.source ≠ some .standinOffline ∧ g.source ≠ some .standinTimeout)) → t.su = s.su)
    ∧ ((s.ss.site = .halting ∧ ∀ j h, j ≠ i → s.grantAt j = some h → h.state ≠ .closing) →
        t.ss = { s.ss with site := .halted } ∧ t.au = { s.au with haltComplete := true })
    ∧ (¬ (s.ss.site = .halting ∧ ∀ j h, j ≠ i → s.grantAt j = some h → h.state ≠ .closing) →
        t.ss = s.ss ∧ t.au = s.au)
    ∧ t.lines = s.lines ∧ t.tu = s.tu ∧ t.cp = s.cp ∧ t.pins = s.pins ∧ t.draws = s.draws ∧ t.pending = s.pending

/-- Entry to CLOSING (R29, R30, R1): the outcome recorded unless one stands, the lift, idle-end and hold timers stopped,
close orders for the attached points; the grant settles at once when none of them was in PRIMING, FLOWING, SLOWING or
SETTLING, and otherwise stays CLOSING. -/
def Obligations.ClosingClosesThenSettles : Prop :=
  ∀ (i : Fin 24) (g : Grant) (reason : EndReason) (s : State), s.grantAt i = some g →
    let closing :=
      closeOrders g.attached
        (s.setSlot i
          (some
            { g with
              outcome := some (g.outcome.getD reason)
              state := .closing
              liftTimer := .stopped
              idleEndTimer := .stopped
              holdTimer := .stopped }))
    let busy : Prop :=
      ∃ p ∈ g.attached,
        (s.point p).state = .priming ∨ (s.point p).state = .flowing ∨ (s.point p).state = .slowing
          ∨ (s.point p).state = .settling
    (busy → enterClosing i reason s = closing) ∧ (¬ busy → enterClosing i reason s = settle i closing)

/-- STOP by the state of the grant (R27): from PENDING and ARMED it settles with HOST_STOP, from FUELING and HELD it
enters CLOSING with HOST_STOP; a CLOSING grant is answered ALREADY_ENDING, a SETTLED one LATE, no grant UNKNOWN_TAG. -/
def Obligations.StopEndsByState : Prop :=
  ∀ (tag : Nat) (s : State), Takes (.stop tag) s →
    ((∀ i g, s.grantAt i = some g → g.tag ≠ tag) →
      exec (.stop tag) s = .next (s.giveAnswer (refusal .unknownTag)))
    ∧ ∀ i g, HeldIn s tag i g →
      ((g.state = .pending ∨ g.state = .armed) →
        exec (.stop tag) s = .next
          ((settle i (s.setSlot i (some { g with outcome := some (g.outcome.getD .hostStop) }))).giveAnswer
            (okWith [])))
      ∧ ((g.state = .fueling ∨ g.state = .held) →
        exec (.stop tag) s = .next ((enterClosing i .hostStop s).giveAnswer (okWith [])))
      ∧ (g.state = .closing → exec (.stop tag) s = .next (s.giveAnswer (refusal .alreadyEnding)))
      ∧ (g.state = .settled → exec (.stop tag) s = .next (s.giveAnswer (refusal .late)))

/-- CANCEL from a lane (R28, R172, R184): NOT_FOUND for a tag not held, a grant of another lane or a SETTLED one; else by
the grant's state as STOP, with CANCELLED, CANCEL_OK and ALREADY_ENDING (notes/assumptions/4.md for `TakenFrom`). -/
def Obligations.CancelEndsByState : Prop :=
  ∀ (lane : Fin 8) (tag : Nat) (s s₁ : State),
    TakenFrom s lane (.cancel tag) s₁ →
    ((∀ i g, s.grantAt i = some g → g.tag ≠ tag) →
      exec (.cancel lane tag) s = .next (placeReply lane { result := .notFound, tag := tag, caps := [] } s₁))
    ∧ ∀ i g, HeldIn s tag i g →
      ((g.lane ≠ lane ∨ g.state = .settled) →
        exec (.cancel lane tag) s = .next (placeReply lane { result := .notFound, tag := tag, caps := [] } s₁))
      ∧ (g.lane = lane → (g.state = .pending ∨ g.state = .armed) →
        exec (.cancel lane tag) s = .next
          (placeReply lane { result := .cancelOk, tag := tag, caps := [] }
            (settle i (s₁.setSlot i (some { g with outcome := some (g.outcome.getD .cancelled) })))))
      ∧ (g.lane = lane → (g.state = .fueling ∨ g.state = .held) →
        exec (.cancel lane tag) s = .next
          (placeReply lane { result := .cancelOk, tag := tag, caps := [] } (enterClosing i .cancelled s₁)))
      ∧ (g.lane = lane → g.state = .closing →
        exec (.cancel lane tag) s = .next
          (placeReply lane { result := .alreadyEnding, tag := tag, caps := [] } s₁))

/-- HOLD (R140, R141): a FUELING grant is HELD, its lift and idle-end timers stopped, its open points closed and the hold
timer started; in any other state WRONG_STATE. -/
def Obligations.HoldSuspendsGrant : Prop :=
  ∀ (tag : Nat) (s : State), Takes (.hold tag) s →
    ((∀ i g, s.grantAt i = some g → g.tag ≠ tag) →
      exec (.hold tag) s = .next (s.giveAnswer (refusal .unknownTag)))
    ∧ ∀ i g, HeldIn s tag i g →
      (g.state ≠ .fueling → exec (.hold tag) s = .next (s.giveAnswer (refusal .wrongState)))
      ∧ (g.state = .fueling →
        exec (.hold tag) s = .next
          (((closeOrders g.attached s).setSlot i
              (some
                { g with
                  state := .held
                  liftTimer := .stopped
                  idleEndTimer := .stopped
                  holdTimer := Timer.start s.cp.timers.hold })).giveAnswer
            (okWith [])))

/-- RESUME (R143): a HELD grant is FUELING again with its hold timer stopped; each attached LIFTED point whose conditions
hold and whose allowance is OPEN leaves LIFTED for PRIMING or an open valve, every other point stays as it was; with no
nozzle of it lifted, the idle-end timer starts if flowed is yes and the lift timer if not. -/
def Obligations.ResumeReadmitsLiftedPoints : Prop :=
  ∀ (tag : Nat) (s : State), Takes (.resume tag) s →
    ((∀ i g, s.grantAt i = some g → g.tag ≠ tag) →
      exec (.resume tag) s = .next (s.giveAnswer (refusal .unknownTag)))
    ∧ ∀ i g, HeldIn s tag i g →
      (g.state ≠ .held → exec (.resume tag) s = .next (s.giveAnswer (refusal .notHeld)))
      ∧ (g.state = .held → (∀ p ∈ g.attached, (s.point p).tag = some tag) →
        ∃ t g', exec (.resume tag) s = .next t ∧ t.cp = (s.giveAnswer (okWith [])).cp
          ∧ t.grantAt i = some g' ∧ g'.state = .fueling ∧ g'.holdTimer = .stopped
          ∧ g'.tag = g.tag ∧ g'.lane = g.lane ∧ g'.allowances = g.allowances ∧ g'.attached = g.attached
          ∧ g'.outcome = g.outcome ∧ g'.source = g.source ∧ g'.served = g.served ∧ g'.degraded = g.degraded
          ∧ (∀ j, j ≠ i → t.grantAt j = s.grantAt j)
          ∧ (∀ p,
              if p ∈ g.attached ∧ (s.point p).state = .lifted ∧ s.ss.site = .running
                  ∧ ((s.point p).config.any fun c => (s.line c.line).state == .available && g.openOn c.line) = true
              then (t.point p).state = .priming ∨ (t.point p).state = .flowing ∨ (t.point p).state = .slowing
              else t.point p = s.point p)
          ∧ ((∀ p ∈ g.attached, (s.point p).nozzle = false ∧ (s.point p).state ≠ .lifted) →
              g' =
                (if g.flowed then
                  { g with
                    state := .fueling, holdTimer := .stopped, idleEndTimer := Timer.start s.cp.timers.idleEnd }
                else
                  { g with state := .fueling, holdTimer := .stopped, liftTimer := Timer.start s.cp.timers.lift }))
          ∧ t.su = s.su ∧ t.tu = s.tu ∧ t.ss = s.ss ∧ t.ibi = s.ibi ∧ t.au = s.au ∧ t.pins = s.pins)

/-! ### The grant and point timers -/

/-- The expiries of the lift, idle-end, hold and no-flow timers (R22, R23, R24, R78, R144), and, for a timer that does
not run, nothing (notes/assumptions/6.md). -/
def Obligations.TimersEndGrants : Prop :=
  (∀ (tag k : Nat) (s : State) (i : Fin 24) (g : Grant), HeldIn s tag i g →
    (g.liftTimer = .running k → g.state = .armed →
      exec (.liftTimerExpiry tag) s = .next
        (settle i (s.setSlot i (some { g with outcome := some (g.outcome.getD .liftTimeout) }))))
    ∧ (g.liftTimer = .running k → g.state = .fueling →
      exec (.liftTimerExpiry tag) s = .next (enterClosing i .liftTimeout s))
    ∧ (g.idleEndTimer = .running k → g.state = .fueling →
      exec (.idleEndTimerExpiry tag) s = .next (enterClosing i .hangupIdle s))
    ∧ (g.holdTimer = .running k → g.state = .held →
      exec (.holdTimerExpiry tag) s = .next (enterClosing i .holdExpired s))
    ∧ ((∀ n, g.liftTimer ≠ .running n) → exec (.liftTimerExpiry tag) s = .next s)
    ∧ ((∀ n, g.idleEndTimer ≠ .running n) → exec (.idleEndTimerExpiry tag) s = .next s)
    ∧ ((∀ n, g.holdTimer ≠ .running n) → exec (.holdTimerExpiry tag) s = .next s))
  ∧ ∀ (p : Fin 32) (s : State),
    let stopped := s.setPoint p { s.point p with noFlow := .stopped }
    (∀ k tag i g, (s.point p).noFlow = .running k → (s.point p).tag = some tag → HeldIn s tag i g →
      g.state = .fueling → exec (.noFlowTimerExpiry p) s = .next (enterClosing i .noFlow stopped))
    ∧ (∀ k tag i g, (s.point p).noFlow = .running k → (s.point p).tag = some tag → HeldIn s tag i g →
      g.state ≠ .fueling → exec (.noFlowTimerExpiry p) s = .next stopped)
    ∧ ((∀ n, (s.point p).noFlow ≠ .running n) → exec (.noFlowTimerExpiry p) s = .next s)

/-- The decision timer's expiry for a PENDING card grant (R15, R53, R54, R56). Refused by the stand-in checks on
timeout, the grant settles with DECLINED_TIMEOUT, and TALLY_FULL is raised where that is the refusal. Approved, the
approval is booked (R57) and the grant takes the arming of the entry's current stand-in limits with source
STANDIN_TIMEOUT. With an OPEN allowance it is ARMED and a DECISION notice queued; with none it settles by R31 with
LINE_LOCKOUT when no allowance was kept, else with LIMIT, its total of 0 added to the booked entry. A timer that does not
run does not expire (notes/assumptions/6.md). -/
def Obligations.DecisionTimeoutUsesStandin : Prop :=
  (∀ (tag : Nat) (s : State) (i : Fin 24) (g : Grant), HeldIn s tag i g → (∀ k, g.decisionTimer ≠ .running k) →
    exec (.decisionTimerExpiry tag) s = .next s)
  ∧ ∀ (tag k : Nat) (s : State) (i : Fin 24) (g : Grant) (c : Card), HeldIn s tag i g → g.state = .pending →
    g.decisionTimer = .running k → g.card = some c →
    let waiting :=
      (s.setSlot i (some { g with decisionTimer := .stopped, outcome := some (g.outcome.getD .declinedTimeout) })).modGm
        fun m => { m with pendingTags := m.pendingTags.filter (· ≠ tag) }
    let count := ((s.su.entryOf c.pan).map (·.count)).getD 0
    ((∀ p ∈ s.su.programs, p.id ≠ c.program) →
      exec (.decisionTimerExpiry tag) s = .next (settle i waiting))
    ∧ ∀ p, s.su.programs.find? (·.id == c.program) = some p →
      ((p.mode ≠ .offlineAndTimeout ∨ p.countLimit ≤ count) →
        exec (.decisionTimerExpiry tag) s = .next (settle i waiting))
      ∧ (p.mode = .offlineAndTimeout → count < p.countLimit → s.su.positionOf c.pan = none →
        s.su.emptyPosition = none →
        exec (.decisionTimerExpiry tag) s = .next (settle i waiting.raiseTallyFull))
      ∧ (p.mode = .offlineAndTimeout → count < p.countLimit →
        (s.su.positionOf c.pan ≠ none ∨ s.su.emptyPosition ≠ none) →
        ∃ kept points t, exec (.decisionTimerExpiry tag) s = .next t
          ∧ ArmedAs s
              (fun l => some (.volume, ((s.line l).config.map fun x => classValue p.limits x.fuel).getD 0)) g
              { g with allowances := kept, attached := points }
          ∧ t.gm.pendingTags = s.gm.pendingTags.filter (· ≠ tag) ∧ t.gm.tagCounter = s.gm.tagCounter
          ∧ ((∃ a ∈ kept, a.isOpen = true) →
              t.grantAt i = some
                { g with
                  allowances := kept
                  attached := points
                  source := some .standinTimeout
                  state := .armed
                  decisionTimer := .stopped
                  liftTimer := Timer.start s.cp.timers.lift }
              ∧ (∀ q, t.point q = if q ∈ points then { s.point q with tag := some tag } else s.point q)
              ∧ t.su = s.su.book c.pan p.id ∧ Booked s.su t.su c.pan p.id
              ∧ t.gm.settledTags = s.gm.settledTags ∧ t.ss = s.ss ∧ t.au = s.au
              ∧ t.ibi =
                (queueNotice g.lane
                  (.approved tag (kept.map fun a => { line := a.line, cap := (a.armed.map (·.cap)).getD 0 })) s).ibi)
          ∧ ((∀ a ∈ kept, a.isOpen = false) →
              ∃ outcome, outcome = g.outcome.getD (if kept = [] then EndReason.lineLockout else EndReason.limit)
              ∧ t.grantAt i = some
                { g with
                  allowances := kept
                  attached := []
                  source := some .standinTimeout
                  outcome := some outcome
                  state := .settled
                  decisionTimer := .stopped
                  liftTimer := .stopped
                  idleEndTimer := .stopped
                  holdTimer := .stopped }
              ∧ (∀ q, t.point q = if q ∈ points then { s.point q with tag := none } else s.point q)
              ∧ ((∀ j e, s.su.entryAt j = some e → e.amount ≤ 99999999) → Booked s.su t.su c.pan p.id)
              ∧ t.gm.settledTags = s.gm.settledTags ++ [tag]
              ∧ (s.ss.site ≠ .halting → t.ss = s.ss ∧ t.au = s.au)
              ∧ t.ibi =
                (queueNotice g.lane
                  (.saleEnd tag (some outcome) g.degraded
                    (kept.map fun a => { line := a.line, volume := 0, amount := 0 })) s).ibi)
          ∧ (∀ j, j ≠ i → t.grantAt j = s.grantAt j) ∧ t.lines = s.lines ∧ t.tu = s.tu ∧ t.cp = s.cp
          ∧ t.pins = s.pins ∧ t.draws = s.draws ∧ t.pending = s.pending)

/-! ### Nozzles, pulser and valve -/

/-- LIFT of a point whose nozzle was down. A DISABLED point is not followed (R65), and an OUT_OF_SERVICE point only keeps
the level (R138). A SETTLING point stays so: its report, with the conditions not met, stops the lift and idle-end timers
of a FUELING grant (R80, R20). An IDLE point becomes LIFTED (R70): unattached, that is all (R68); attached to a grant that
is not ARMED or FUELING, or not admitted by an ARMED one, the same (R20). Admitted by an ARMED or FUELING grant, it enters
PRIMING and the grant is FUELING with its lift timer stopped (R71). Entry to PRIMING (R71, R72, R94): the pump request
starts a pump that is OFF, and pump ready waits for its start delay, or for the one running; with no delay to wait for the
valve opens in the same step. -/
def Obligations.LiftIsAdmitted : Prop :=
  (∀ (p : Fin 32) (s : State), (s.point p).nozzle = false →
    let raised :=
      { s.setPoint p { s.point p with nozzle := true } with
        pins := { s.pins with nozzle := s.pins.nozzle.set p.val true p.isLt } }
    ((s.point p).state = .disabled →
      exec (.lift p) s = .next { s with pins := { s.pins with nozzle := s.pins.nozzle.set p.val true p.isLt } })
    ∧ ((s.point p).state = .outOfService → exec (.lift p) s = .next raised)
    ∧ ((s.point p).state = .settling →
      ((s.point p).tag = none → exec (.lift p) s = .next raised)
      ∧ ∀ tag i g, (s.point p).tag = some tag → HeldIn s tag i g →
        (g.state = .fueling →
          exec (.lift p) s = .next
            (raised.setSlot i (some { g with liftTimer := .stopped, idleEndTimer := .stopped })))
        ∧ (g.state ≠ .fueling → exec (.lift p) s = .next raised))
    ∧ ((s.point p).state = .idle →
      let lifted :=
        { s.setPoint p { s.point p with state := .lifted, nozzle := true } with
          pins := { s.pins with nozzle := s.pins.nozzle.set p.val true p.isLt } }
      ((s.point p).tag = none → exec (.lift p) s = .next lifted)
      ∧ ∀ tag i g c, (s.point p).tag = some tag → HeldIn s tag i g → (s.point p).config = some c →
        ((g.state ≠ .armed ∧ g.state ≠ .fueling) → exec (.lift p) s = .next lifted)
        ∧ (g.state = .armed →
            (s.ss.site ≠ .running ∨ (s.line c.line).state ≠ .available ∨ g.openOn c.line = false) →
            exec (.lift p) s = .next lifted)
        ∧ (g.state = .fueling →
            (s.ss.site ≠ .running ∨ (s.line c.line).state ≠ .available ∨ g.openOn c.line = false) →
            exec (.lift p) s = .next
              (lifted.setSlot i (some { g with liftTimer := .stopped, idleEndTimer := .stopped })))
        ∧ ((g.state = .armed ∨ g.state = .fueling) →
            s.ss.site = .running → (s.line c.line).state = .available → g.openOn c.line = true →
            exec (.lift p) s = .next
              (enterPriming p
                (lifted.setSlot i
                  (some
                    { g with
                      state := .fueling
                      liftTimer := .stopped
                      idleEndTimer := if g.state = .fueling then .stopped else g.idleEndTimer }))))
        ∧ ∀ x : LineConfig, (g.state = .armed ∨ g.state = .fueling) →
            s.ss.site = .running → (s.line c.line).state = .available → g.openOn c.line = true →
            (s.line c.line).config = some x → (s.line c.line).pump = .off →
            hasPoint (s.line c.line).requesting p = false → 1 ≤ x.startDelay →
            exec (.lift p) s = .next
              (((lifted.setPoint p { s.point p with state := .priming, nozzle := true }).setSlot i
                  (some
                    { g with
                      state := .fueling
                      liftTimer := .stopped
                      idleEndTimer := if g.state = .fueling then .stopped else g.idleEndTimer })).setLine c.line
                { s.line c.line with
                  requesting := addPoint (s.line c.line).requesting p
                  pump := .on
                  delayMet := false
                  startTimer := .running x.startDelay })))
  ∧ ∀ (p : Fin 32) (s : State) (c : PointConfig) (x : LineConfig), (s.point p).config = some c →
    (s.line c.line).config = some x → s.ss.site = .running → (s.line c.line).state = .available →
    hasPoint (s.line c.line).requesting p = false →
    let y := s.line c.line
    let primed := s.setPoint p { s.point p with state := .priming }
    (y.pump = .off → 1 ≤ x.startDelay →
      enterPriming p s =
        primed.setLine c.line
          { y with
            requesting := addPoint y.requesting p
            pump := .on
            delayMet := false
            startTimer := .running x.startDelay })
    ∧ (y.pump = .on → y.delayMet = false →
      enterPriming p s = primed.setLine c.line { y with requesting := addPoint y.requesting p })
    ∧ ∀ tag i g a terms, (s.point p).tag = some tag → HeldIn s tag i g → g.allowanceOn c.line = some a →
      a.armed = some terms →
      let duty := if (x.slowMargin : Int) < terms.residual then x.fullDuty else x.slowDuty
      let opened :=
        (s.setPoint p
            { s.point p with
              state := if (x.slowMargin : Int) < terms.residual then .flowing else .slowing
              stageDuty := duty
              dutyInForce := if duty = 0 then 0 else (s.point p).dutyInForce
              noFlow := Timer.start s.cp.timers.noFlow
              creep := 0 }).setSlot i
          (some { g with flowed := true })
      (y.pump = .off → x.startDelay = 0 →
        enterPriming p s =
          opened.setLine c.line
            { y with
              requesting := addPoint y.requesting p, pump := .on, delayMet := true, startTimer := .stopped })
      ∧ (y.pump = .on → y.delayMet = true →
        enterPriming p s = opened.setLine c.line { y with requesting := addPoint y.requesting p })
      ∧ (y.pump = .runOn →
        enterPriming p s =
          opened.setLine c.line
            { y with
              requesting := addPoint y.requesting p, pump := .on, delayMet := true, runOnTimer := .stopped })

/-- LIFT admitted on a line whose pump is at pressure (R72, R77, R94): ON with its delay met, or in RUN_ON. The valve
opens in the same step: FLOWING at the full duty when the residual is above the slow margin, else SLOWING at the slow
duty, the duty waiting for the next PWM period; the no-flow timer starts, the creep count is 0, the grant has flowed. -/
def Obligations.LiftOpensValveAtPressure : Prop :=
  ∀ (p : Fin 32) (s : State) (tag : Nat) (i : Fin 24) (g : Grant) (c : PointConfig) (x : LineConfig) (a : Allowance)
      (terms : Armed),
    (s.point p).nozzle = false → (s.point p).state = .idle → (s.point p).tag = some tag → HeldIn s tag i g →
    (g.state = .armed ∨ g.state = .fueling) → (s.point p).config = some c → s.ss.site = .running →
    (s.line c.line).state = .available → (s.line c.line).config = some x → g.allowanceOn c.line = some a →
    a.armed = some terms → terms.exhausted = false → hasPoint (s.line c.line).requesting p = false →
    (((s.line c.line).pump = .on ∧ (s.line c.line).delayMet = true) ∨ (s.line c.line).pump = .runOn) →
    exec (.lift p) s = .next
      { (((s.setPoint p
              { s.point p with
                nozzle := true
                state := if (x.slowMargin : Int) < terms.residual then .flowing else .slowing
                stageDuty := if (x.slowMargin : Int) < terms.residual then x.fullDuty else x.slowDuty
                dutyInForce :=
                  if (if (x.slowMargin : Int) < terms.residual then x.fullDuty else x.slowDuty) = 0 then 0
                  else (s.point p).dutyInForce
                noFlow := Timer.start s.cp.timers.noFlow
                creep := 0 }).setSlot i
            (some
              { g with
                state := .fueling
                flowed := true
                liftTimer := .stopped
                idleEndTimer := if g.state = .fueling then .stopped else g.idleEndTimer })).setLine c.line
          { s.line c.line with
            requesting := addPoint (s.line c.line).requesting p
            pump := .on
            delayMet := true
            runOnTimer := if (s.line c.line).pump = .runOn then .stopped else (s.line c.line).runOnTimer }) with
        pins := { s.pins with nozzle := s.pins.nozzle.set p.val true p.isLt } }

/-- HANG_UP of a point whose nozzle was lifted. A LIFTED point becomes IDLE (R73). A PRIMING point becomes IDLE and gives
up its pump request (R73). An open valve closes at once and the point settles (R74). Unattached, that is all; attached
to a FUELING grant with no attached point left lifted, the idle-end timer starts if flowed is yes, else the lift timer
(R21). A point out of service only keeps the level (R138). -/
def Obligations.HangUpClosesValve : Prop :=
  ∀ (p : Fin 32) (s : State), (s.point p).nozzle = true →
    let down :=
      { s.setPoint p { s.point p with nozzle := false } with
        pins := { s.pins with nozzle := s.pins.nozzle.set p.val false p.isLt } }
    let closed : State :=
      match (s.point p).state with
      | .lifted => down.setPoint p { s.point p with nozzle := false, state := .idle }
      | .priming => withdrawOwn p (down.setPoint p { s.point p with nozzle := false, state := .idle })
      | .flowing | .slowing => closeOrders [p] down
      | .idle | .settling | .outOfService | .disabled => down
    ((s.point p).state ≠ .disabled → ((s.point p).tag = none ∨ (s.point p).state = .outOfService) →
      exec (.hangUp p) s = .next closed)
    ∧ ∀ tag i g, (s.point p).state ≠ .disabled → (s.point p).state ≠ .outOfService → (s.point p).state ≠ .idle →
        (s.point p).tag = some tag → HeldIn s tag i g → g.state = .fueling →
        ((∃ q ∈ g.attached, q ≠ p ∧ (s.point q).nozzle = true) → exec (.hangUp p) s = .next closed)
        ∧ ((∀ q ∈ g.attached, q ≠ p → (s.point q).nozzle = false) →
          exec (.hangUp p) s = .next
            (closed.setSlot i
              (some
                (if g.flowed then { g with idleEndTimer := Timer.start s.cp.timers.idleEnd }
                else { g with liftTimer := Timer.start s.cp.timers.lift }))))

/-- PULSER_STEP (R65, R100, R101): one place forward counts a forward step, one place back a reverse step, two places a
quadrature error, each counter staying at 4,095; the phase reached is the new reference; a DISABLED point counts
nothing, and a row with the phase present moves only the pins (the model's choice, notes/assumptions/6.md).
DUTY_IN_FORCE_CHANGE (R82): the stage duty takes force. -/
def Obligations.PulserAndDuty : Prop :=
  (∀ (p : Fin 32) (phase : Fin 4) (s : State),
    let x := s.point p
    let pins := { s.pins with phase := s.pins.phase.set p.val phase p.isLt }
    exec (.pulserStep p phase) s = .next
      (if x.state = .disabled then { s with pins := pins }
      else if phase.val = x.phase.val then { s with pins := pins }
      else if phase.val = (x.phase.val + 1) % 4 then
        { s.setPoint p { x with phase := phase, forward := if x.forward < 4095 then x.forward + 1 else 4095 } with
          pins := pins }
      else if phase.val = (x.phase.val + 3) % 4 then
        { s.setPoint p { x with phase := phase, reverse := if x.reverse < 4095 then x.reverse + 1 else 4095 } with
          pins := pins }
      else
        { s.setPoint p { x with phase := phase, errors := if x.errors < 4095 then x.errors + 1 else 4095 } with
          pins := pins }))
  ∧ ∀ (p : Fin 32) (s : State),
      exec (.dutyInForceChange p) s = .next
        (s.setPoint p { s.point p with dutyInForce := (s.point p).stageDuty })

/-! ### Period ends -/

/-- The arithmetic of a point record and of a line's factor (R106, R107, R109, R111, R112): P and C clamped to their
ranges, both cleared when P + N falls below 0, the volumes recomputed, the last increment never negative; F between
890,000 and 1,110,000; and a cap never costs more than its money limit (R116). -/
def Obligations.SaleArithmetic : Prop :=
  (∀ (r : PointRecord) (basis : Basis) (n f : Int),
    let p : Int := r.pulses + n
    let pulses := if p < 0 then 0 else if 4294967295 < p then 4294967295 else p.toNat
    let sum : Int := r.accumulator + n * f
    let total :=
      if p < 0 then 0 else if sum < 0 then 0 else if 18446744073709551615 < sum then 18446744073709551615 else sum.toNat
    let gross := pulses * 1000 / r.k
    let compensated := total / (r.k * 1000)
    r.accumulate basis n f =
      { point := r.point
        k := r.k
        pulses := pulses
        accumulator := total
        gross := gross
        compensated := compensated
        lastIncrement :=
          match basis with
          | .gross => gross - r.gross
          | .compensated => compensated - r.compensated })
  ∧ (∀ (alpha : Nat) (t : Int), alpha ≤ 2000 → -400 ≤ t → t ≤ 700 →
      890000 ≤ factorOf alpha t ∧ factorOf alpha t ≤ 1110000)
  ∧ (∀ (alpha : Nat) (t : Int), t < 150 → factorOf alpha t = 1000000 + (alpha * (150 - t)) / 10)
  ∧ (∀ (alpha : Nat) (t : Int), 150 ≤ t → factorOf alpha t = 1000000 - (alpha * (t - 150)) / 10)
  ∧ ∀ limit price ceiling : Nat, 1 ≤ price →
      amountOf (min (equivalentVolume .amount limit price) ceiling) price ≤ limit

/-- PERIOD_END of a delivering point whose evaluation leaves the allowance OPEN (R103, R104, R108, R117): the counters
latched and cleared, N accumulated into the record at the line's factor, the totals recomputed, the grant degraded where
the probe is in REFERENCE, and the no-flow timer restarted when N is above 0. With the residual above the slow margin the
points stay as they are; at the margin or below it, every FLOWING attached point of the allowance goes to SLOWING at its
line's slow duty (R75, R119). -/
def Obligations.PeriodEndMetersSale : Prop :=
  ∀ (p : Fin 32) (s : State) (c : PointConfig) (tag : Nat) (i : Fin 24) (g : Grant) (a : Allowance) (terms : Armed)
      (r : PointRecord),
    let x := s.point p
    let n : Int := (x.forward : Int) - x.reverse
    let after := terms.accumulate p n (factorOf (s.lineField c.line (·.alpha)) (s.probe c.line).temperature)
    let q :=
      ((after.records.filter fun r =>
          g.attached.contains r.point
            && ((s.point r.point).state == .flowing || (s.point r.point).state == .slowing)).map (·.lastIncrement)).sum
    let counted : Point :=
      { x with
        forward := 0
        reverse := 0
        errors := 0
        latchForward := x.forward
        latchReverse := x.reverse
        latchErrors := x.errors
        noFlow := if 0 < n then Timer.start s.cp.timers.noFlow else x.noFlow }
    let sold : Grant :=
      { g with
        allowances := g.allowances.map fun b =>
          if b.line = c.line then
            { b with
              armed := b.armed.map fun u =>
                u.accumulate p n (factorOf (s.lineField c.line (·.alpha)) (s.probe c.line).temperature) }
          else b
        degraded := g.degraded || decide (0 ≤ (r.pulses : Int) + n ∧ n ≠ 0 ∧ (s.probe c.line).state = .reference) }
    let slowed (y : Point) : Point :=
      match y.config with
      | none => y
      | some d =>
        { y with
          state := .slowing
          stageDuty := s.lineField d.line (·.slowDuty)
          dutyInForce := if s.lineField d.line (·.slowDuty) = 0 then 0 else y.dutyInForce }
    (x.state = .flowing ∨ x.state = .slowing) → x.config = some c → x.tag = some tag → HeldIn s tag i g →
    g.allowanceOn c.line = some a → a.armed = some terms → terms.exhausted = false →
    terms.records.find? (·.point == p) = some r →
    x.errors < c.threshold → x.forward ≠ 4095 → x.reverse ≠ 4095 → (r.pulses : Int) + n ≤ 4294967295 →
    0 < after.residual → ((q * s.lineField c.line (·.closeLead) : Nat) : Int) < after.residual →
    ((s.lineField c.line (·.slowMargin) : Int) < after.residual →
      exec (.periodEnd p) s = .next ((s.setPoint p counted).setSlot i (some sold)))
    ∧ (after.residual ≤ (s.lineField c.line (·.slowMargin) : Int) →
      ∃ t, exec (.periodEnd p) s = .next t
        ∧ (∀ u, t.point u =
            if u ∈ after.records.map (·.point) ∧ u ∈ g.attached ∧ (s.point u).state = .flowing then
              slowed (if u = p then counted else s.point u)
            else if u = p then counted
            else s.point u)
        ∧ t.gm = (s.setSlot i (some sold)).gm ∧ t.su = s.su ∧ t.lines = s.lines ∧ t.tu = s.tu ∧ t.ss = s.ss
        ∧ t.ibi = s.ibi ∧ t.cp = s.cp ∧ t.au = s.au ∧ t.pins = s.pins ∧ t.draws = s.draws ∧ t.pending = s.pending)

/-- PERIOD_END of a delivering point whose evaluation meets R118 (R ≤ 0 or R ≤ q × close lead) on the last OPEN
allowance of a FUELING grant: the allowance is EXHAUSTED, its attached points are closed, and the grant enters CLOSING
with LIMIT (R25). -/
def Obligations.PeriodEndExhaustsAllowance : Prop :=
  ∀ (p : Fin 32) (s : State) (c : PointConfig) (tag : Nat) (i : Fin 24) (g : Grant) (a : Allowance) (terms : Armed)
      (r : PointRecord),
    let x := s.point p
    let n : Int := (x.forward : Int) - x.reverse
    let after := terms.accumulate p n (factorOf (s.lineField c.line (·.alpha)) (s.probe c.line).temperature)
    let q :=
      ((after.records.filter fun r =>
          g.attached.contains r.point
            && ((s.point r.point).state == .flowing || (s.point r.point).state == .slowing)).map (·.lastIncrement)).sum
    (x.state = .flowing ∨ x.state = .slowing) → x.config = some c → x.tag = some tag → HeldIn s tag i g →
    g.state = .fueling → p ∈ g.attached →
    g.allowanceOn c.line = some a → a.armed = some terms → terms.exhausted = false →
    (∀ b ∈ g.allowances, b.line ≠ c.line → b.isOpen = false) →
    terms.records.find? (·.point == p) = some r →
    x.errors < c.threshold → x.forward ≠ 4095 → x.reverse ≠ 4095 → (r.pulses : Int) + n ≤ 4294967295 →
    (after.residual ≤ 0 ∨ after.residual ≤ ((q * s.lineField c.line (·.closeLead) : Nat) : Int)) →
    exec (.periodEnd p) s = .next
      (enterClosing i .limit
        (closeOrders ((after.records.map (·.point)).filter g.attached.contains)
          ((s.setPoint p
              { x with
                forward := 0
                reverse := 0
                errors := 0
                latchForward := x.forward
                latchReverse := x.reverse
                latchErrors := x.errors }).setSlot i
            (some
              { g with
                allowances := g.allowances.map fun b =>
                  if b.line = c.line then
                    { b with
                      armed := b.armed.map fun u =>
                        { u.accumulate p n
                            (factorOf (s.lineField c.line (·.alpha)) (s.probe c.line).temperature) with
                          exhausted := true } }
                  else b
                degraded :=
                  g.degraded || decide (0 ≤ (r.pulses : Int) + n ∧ n ≠ 0 ∧ (s.probe c.line).state = .reference) }))))

/-- PERIOD_END of a point at rest or out of service without a pulser fault: N joins the creep count, a sum below 0 being
0, while the allowance is kept (R147). An excess of an unattached IDLE or LIFTED point takes it OUT_OF_SERVICE with its
count at 0 and raises POINT_FAULT (R137, R148); of an attached IDLE, LIFTED or PRIMING point it first ends a grant that is
ARMED, FUELING or HELD with UNAUTH_FLOW (R148), and then the point leaves the grant (R26; `outOfService` as the next
statement gives it). An excess of an OUT_OF_SERVICE point asks for its line's lockout. -/
def Obligations.CreepIsWatched : Prop :=
  ∀ (p : Fin 32) (s : State) (c : PointConfig), (s.point p).config = some c →
    let x := s.point p
    let n : Int := (x.forward : Int) - x.reverse
    let sum : Nat := if (x.creep : Int) + n < 0 then 0 else ((x.creep : Int) + n).toNat
    let latched : Point :=
      { x with
        forward := 0
        reverse := 0
        errors := 0
        latchForward := x.forward
        latchReverse := x.reverse
        latchErrors := x.errors }
    ((x.state = .idle ∨ x.state = .lifted ∨ x.state = .priming) → x.errors < c.threshold → x.forward ≠ 4095 →
      x.reverse ≠ 4095 → sum ≤ c.creepAllowance →
      exec (.periodEnd p) s = .next (s.setPoint p { latched with creep := sum }))
    ∧ (x.state = .outOfService → sum ≤ c.creepAllowance →
      exec (.periodEnd p) s = .next (s.setPoint p { latched with creep := sum }))
    ∧ ((x.state = .idle ∨ x.state = .lifted) → x.tag = none →
      hasPoint (s.line c.line).requesting p = false → c.creepAllowance < sum →
      exec (.periodEnd p) s = .next
        ((s.setPoint p
            { latched with
              state := .outOfService
              stageDuty := 0
              dutyInForce := 0
              noFlow := .stopped
              settleLeft := 0
              creep := 0 }).raisePointFault p))
    ∧ (∀ tag i g, (x.state = .idle ∨ x.state = .lifted ∨ x.state = .priming) → x.tag = some tag → HeldIn s tag i g →
      c.creepAllowance < sum →
      let restarted := s.setPoint p { latched with creep := 0 }
      exec (.periodEnd p) s = .next
        (outOfService p
          (if g.state = .armed ∨ g.state = .fueling ∨ g.state = .held then enterClosing i .unauthFlow restarted
          else restarted)))
    ∧ (x.state = .outOfService → c.creepAllowance < sum →
      exec (.periodEnd p) s = .next (lockout c.line (s.setPoint p { latched with creep := 0 })))

/-- Entry to OUT_OF_SERVICE (R137, R26): the valve is released, the no-flow timer stopped, the window abandoned, the pump
request withdrawn, the creep count 0 and POINT_FAULT raised; an attached point leaves the attached set, upon which a
FUELING grant whose timers do not run starts one where no nozzle of it is left lifted (R21), and a CLOSING grant with no
other point busy settles (R30). PERIOD_END with a pulser fault (R103, R135, R140, R146): on a delivering point of a
FUELING grant whose evaluation leaves the allowance OPEN, the period's counts are applied and the grant is HELD: its open
points closed, its lift and idle-end timers stopped, its hold timer started, POINT_FAULT raised, the point in service. An
IDLE, LIFTED or PRIMING point, or one in its settle window, goes OUT_OF_SERVICE, unattached or attached; attached to a
HELD grant that grant first ends with COMPOUND. -/
def Obligations.PulserFaultEscalates : Prop :=
  (∀ (p : Fin 32) (s : State),
    let left :=
      (withdrawOwn p
        (s.setPoint p
          { s.point p with
            state := .outOfService
            stageDuty := 0
            dutyInForce := 0
            noFlow := .stopped
            settleLeft := 0
            creep := 0
            tag := none })).raisePointFault p
    ((s.point p).tag = none → outOfService p s = left)
    ∧ ∀ tag i g, (s.point p).tag = some tag → HeldIn s tag i g →
      let others := g.attached.filter (· ≠ p)
      let removed := left.setSlot i (some { g with attached := others })
      ((g.state = .pending ∨ g.state = .armed ∨ g.state = .held ∨ g.state = .settled) → outOfService p s = removed)
      ∧ (g.state = .fueling →
          (g.liftTimer ≠ .stopped ∨ g.idleEndTimer ≠ .stopped ∨ ∃ u ∈ others, (s.point u).nozzle = true) →
          outOfService p s = removed)
      ∧ (g.state = .fueling → g.liftTimer = .stopped → g.idleEndTimer = .stopped →
          (∀ u ∈ others, (s.point u).nozzle = false) →
          outOfService p s =
            left.setSlot i
              (some
                (if g.flowed then
                  { g with attached := others, idleEndTimer := Timer.start s.cp.timers.idleEnd }
                else { g with attached := others, liftTimer := Timer.start s.cp.timers.lift })))
      ∧ (g.state = .closing → (∃ u ∈ others, (s.point u).state.blocksSettlement = true) → outOfService p s = removed)
      ∧ (g.state = .closing → (∀ u ∈ others, (s.point u).state.blocksSettlement = false) →
          outOfService p s = settle i removed))
  ∧ ∀ (p : Fin 32) (s : State) (c : PointConfig), (s.point p).config = some c →
    let x := s.point p
    let n : Int := (x.forward : Int) - x.reverse
    let factor := factorOf (s.lineField c.line (·.alpha)) (s.probe c.line).temperature
    let sum : Nat := if (x.creep : Int) + n < 0 then 0 else ((x.creep : Int) + n).toNat
    let latched : Point :=
      { x with
        forward := 0
        reverse := 0
        errors := 0
        latchForward := x.forward
        latchReverse := x.reverse
        latchErrors := x.errors }
    let increments (g : Grant) (after : Armed) : Nat :=
      ((after.records.filter fun r =>
          g.attached.contains r.point
            && ((s.point r.point).state == .flowing || (s.point r.point).state == .slowing)).map
        (·.lastIncrement)).sum
    let metered (g : Grant) (r : PointRecord) : Grant :=
      { g with
        allowances := g.allowances.map fun b =>
          if b.line = c.line then { b with armed := b.armed.map fun u => u.accumulate p n factor } else b
        degraded := g.degraded || decide (0 ≤ (r.pulses : Int) + n ∧ n ≠ 0 ∧ (s.probe c.line).state = .reference) }
    (c.threshold ≤ x.errors ∨ x.forward = 4095 ∨ x.reverse = 4095) →
    (∀ tag i g a terms r, (x.state = .flowing ∨ x.state = .slowing) → x.tag = some tag → HeldIn s tag i g →
      g.state = .fueling → p ∈ g.attached → g.allowanceOn c.line = some a → a.armed = some terms →
      terms.exhausted = false → terms.records.find? (·.point == p) = some r →
      let after := terms.accumulate p n factor
      0 < after.residual → ((increments g after * s.lineField c.line (·.closeLead) : Nat) : Int) < after.residual →
      (s.lineField c.line (·.slowMargin) : Int) < after.residual →
      exec (.periodEnd p) s = .next
        (((closeOrders g.attached (s.setPoint p latched)).setSlot i
            (some
              { metered g r with
                state := .held
                liftTimer := .stopped
                idleEndTimer := .stopped
                holdTimer := Timer.start s.cp.timers.hold })).raisePointFault p))
    ∧ ((x.state = .idle ∨ x.state = .lifted) → x.tag = none → hasPoint (s.line c.line).requesting p = false →
      exec (.periodEnd p) s = .next
        ((s.setPoint p
            { latched with
              state := .outOfService
              stageDuty := 0
              dutyInForce := 0
              noFlow := .stopped
              settleLeft := 0
              creep := 0 }).raisePointFault p))
    ∧ ∀ tag i g, x.tag = some tag → HeldIn s tag i g →
      ((x.state = .idle ∨ x.state = .lifted ∨ x.state = .priming) → sum ≤ c.creepAllowance →
        let watched := s.setPoint p { latched with creep := sum }
        exec (.periodEnd p) s = .next
          (outOfService p (if g.state = .held then enterClosing i .compound watched else watched)))
      ∧ ∀ a terms r, x.state = .settling → 2 ≤ x.settleLeft → g.allowanceOn c.line = some a → a.armed = some terms →
        terms.records.find? (·.point == p) = some r →
        let after := terms.accumulate p n factor
        (terms.exhausted = true
          ∨ 0 < after.residual
            ∧ ((increments g after * s.lineField c.line (·.closeLead) : Nat) : Int) < after.residual
            ∧ (s.lineField c.line (·.slowMargin) : Int) < after.residual) →
        let counting := (s.setPoint p { latched with settleLeft := x.settleLeft - 1 }).setSlot i (some (metered g r))
        exec (.periodEnd p) s = .next
          (outOfService p (if g.state = .held then enterClosing i .compound counting else counting))

/-- A lockout request (R98, R149, R150): for a line already LOCKED_OUT it changes nothing. Otherwise the line is
LOCKED_OUT with its pump OFF, no requests and both timers stopped; no point on it is left in PRIMING, FLOWING or
SLOWING; each grant ARMED, FUELING, HELD or CLOSING with an OPEN allowance on it has that allowance EXHAUSTED, and one
that was ARMED, FUELING or HELD with no other OPEN allowance is ending with LINE_LOCKOUT, in whatever order the grants
are taken (notes/assumptions/5.md); every other grant is as it was; LINE_LOCKOUT is raised for the line. -/
def Obligations.LockoutExhaustsLine : Prop :=
  ∀ (l : Fin 4) (s : State),
    ((s.line l).state = .lockedOut → lockout l s = s)
    ∧ ((s.line l).state ≠ .lockedOut →
      let t := lockout l s
      t.line l =
        { s.line l with
          state := .lockedOut
          requesting := 0
          pump := .off
          delayMet := false
          startTimer := .stopped
          runOnTimer := .stopped }
      ∧ (∀ p c, (s.point p).config = some c → c.line = l → (t.point p).state.isOpenOrPriming = false)
      ∧ t.au.lineLockout = s.au.lineLockout ||| (1#4 <<< l.val)
      ∧ ∀ i g, s.grantAt i = some g →
          if (g.state = .armed ∨ g.state = .fueling ∨ g.state = .held ∨ g.state = .closing) ∧ g.openOn l = true then
            ∃ g', t.grantAt i = some g'
              ∧ g'.allowances = g.allowances.map (fun a =>
                  if a.line = l then { a with armed := a.armed.map fun u => { u with exhausted := true } } else a)
              ∧ (((∀ a ∈ g.allowances, a.line ≠ l → a.isOpen = false) ∧ g.state ≠ .closing) →
                  g'.outcome = some (g.outcome.getD .lineLockout) ∧ (g'.state = .closing ∨ g'.state = .settled))
              ∧ ((∃ a ∈ g.allowances, a.line ≠ l ∧ a.isOpen = true) →
                  g'.state = g.state ∧ g'.outcome = g.outcome)
          else t.grantAt i = some g)

/-- PERIOD_END of a SETTLING point without a pulser fault, whose allowance is EXHAUSTED or left OPEN by the evaluation
above its slow margin (R79, R81, R104, R122): the period's pulses are counted to the sale; before the last one the periods
left fall by one; the last one leaves the point IDLE or LIFTED by its nozzle with creep watch at 0. A CLOSING grant with
no other point busy then settles (R30). A HELD grant admits nothing. Under a FUELING grant a point left LIFTED is reported
as lifted again: the lift and idle-end timers stop, and on an AVAILABLE line of a RUNNING site with the allowance OPEN it
enters PRIMING (R20, R81; `enterPriming` as the statement of LIFT gives it). -/
def Obligations.SettleWindowEnds : Prop :=
  ∀ (p : Fin 32) (s : State) (c : PointConfig) (tag : Nat) (i : Fin 24) (g : Grant) (a : Allowance) (terms : Armed)
      (r : PointRecord),
    let x := s.point p
    let n : Int := (x.forward : Int) - x.reverse
    let factor := factorOf (s.lineField c.line (·.alpha)) (s.probe c.line).temperature
    let after := terms.accumulate p n factor
    let q :=
      ((after.records.filter fun r =>
          g.attached.contains r.point
            && ((s.point r.point).state == .flowing || (s.point r.point).state == .slowing)).map (·.lastIncrement)).sum
    let latched : Point :=
      { x with
        forward := 0
        reverse := 0
        errors := 0
        latchForward := x.forward
        latchReverse := x.reverse
        latchErrors := x.errors }
    let metered : Grant :=
      { g with
        allowances := g.allowances.map fun b =>
          if b.line = c.line then { b with armed := b.armed.map fun u => u.accumulate p n factor } else b
        degraded := g.degraded || decide (0 ≤ (r.pulses : Int) + n ∧ n ≠ 0 ∧ (s.probe c.line).state = .reference) }
    x.state = .settling → x.config = some c → x.tag = some tag → HeldIn s tag i g →
    g.allowanceOn c.line = some a → a.armed = some terms →
    (terms.exhausted = true
      ∨ 0 < after.residual ∧ ((q * s.lineField c.line (·.closeLead) : Nat) : Int) < after.residual
        ∧ (s.lineField c.line (·.slowMargin) : Int) < after.residual) →
    terms.records.find? (·.point == p) = some r →
    x.errors < c.threshold → x.forward ≠ 4095 → x.reverse ≠ 4095 → (r.pulses : Int) + n ≤ 4294967295 →
    (2 ≤ x.settleLeft →
      exec (.periodEnd p) s = .next
        ((s.setPoint p { latched with settleLeft := x.settleLeft - 1 }).setSlot i (some metered)))
    ∧ (x.settleLeft = 1 →
      let left :=
        (s.setPoint p
          { latched with state := if x.nozzle then .lifted else .idle, settleLeft := 0, creep := 0 }).setSlot i
          (some metered)
      let resumed := left.setSlot i (some { metered with liftTimer := .stopped, idleEndTimer := .stopped })
      (g.state = .closing → (∃ u ∈ g.attached, u ≠ p ∧ (s.point u).state.blocksSettlement = true) →
        exec (.periodEnd p) s = .next left)
      ∧ (g.state = .closing → p ∈ g.attached →
        (∀ u ∈ g.attached, u ≠ p → (s.point u).state.blocksSettlement = false) →
        exec (.periodEnd p) s = .next (settle i left))
      ∧ ((g.state = .fueling ∨ g.state = .held) → x.nozzle = false → exec (.periodEnd p) s = .next left)
      ∧ (g.state = .held → exec (.periodEnd p) s = .next left)
      ∧ (g.state = .fueling → x.nozzle = true →
        (s.ss.site ≠ .running ∨ (s.line c.line).state ≠ .available ∨ terms.exhausted = true) →
        exec (.periodEnd p) s = .next resumed)
      ∧ (g.state = .fueling → x.nozzle = true → s.ss.site = .running → (s.line c.line).state = .available →
        terms.exhausted = false → exec (.periodEnd p) s = .next (enterPriming p resumed)))

/-! ### Point, line and probe commands -/

/-- POINT_SET (R63, R64): its two checks; role NONE erases the configuration and disables the point; another role
replaces the five fields, a DISABLED point taking its switch level and becoming IDLE or LIFTED by it, an IDLE point
staying IDLE; counters and latches are cleared, the phase present is the reference, the creep count is 0 (R100, R102,
R147). That role NONE keeps the creep count and the nozzle level is the model's choice (notes/assumptions/15.md). -/
def Obligations.PointSetConfigures : Prop :=
  ∀ (point : Nat) (arg : PointArg) (s : State), Takes (.pointSet point arg) s →
    ((32 ≤ point ∨ arg = .unlisted ∨ ∃ role line k threshold creep,
        arg = .set role line k threshold creep ∧ ¬ GoodPoint line k threshold creep) →
      exec (.pointSet point arg) s = .next (s.giveAnswer (refusal .badParam)))
    ∧ ∀ p : Fin 32, point = p.val →
      let x := s.point p
      let cleared : Point :=
        { x with
          phase := s.pins.phase[p.val]
          forward := 0
          reverse := 0
          errors := 0
          latchForward := 0
          latchReverse := 0
          latchErrors := 0 }
      ((arg = .clear ∨ ∃ role line k threshold creep,
          arg = .set role line k threshold creep ∧ GoodPoint line k threshold creep) →
        ¬ (x.tag = none ∧ (x.state = .idle ∨ x.state = .disabled)) →
        exec (.pointSet point arg) s = .next (s.giveAnswer (refusal .pointBusy)))
      ∧ (arg = .clear → x.tag = none → (x.state = .idle ∨ x.state = .disabled) →
        exec (.pointSet point arg) s = .next
          ((s.setPoint p { cleared with config := none, state := .disabled }).giveAnswer (okWith [0#8])))
      ∧ ∀ role (line : Fin 4) k threshold creep, arg = .set role line.val k threshold creep →
        GoodPoint line.val k threshold creep → x.tag = none →
        let c : PointConfig := { role := role, line := line, k := k, threshold := threshold, creepAllowance := creep }
        (x.state = .idle →
          exec (.pointSet point arg) s = .next
            ((s.setPoint p { cleared with config := some c, creep := 0 }).giveAnswer (okWith [1#8])))
        ∧ (x.state = .disabled →
          exec (.pointSet point arg) s = .next
            ((s.setPoint p
                { cleared with
                  config := some c
                  creep := 0
                  nozzle := s.pins.nozzle[p.val]
                  state := if s.pins.nozzle[p.val] then .lifted else .idle }).giveAnswer
              (okWith [if s.pins.nozzle[p.val] then 2#8 else 1#8])))

/-- POINT_READ answers the 21 bytes of the point and changes nothing (R66); POINT_ENABLE makes its four checks in order
and puts an OUT_OF_SERVICE point in IDLE with its creep count at 0 (R139). -/
def Obligations.PointReadAndEnable : Prop :=
  (∀ (point : Nat) (s : State), Takes (.pointRead point) s →
    (32 ≤ point → exec (.pointRead point) s = .next (s.giveAnswer (refusal .badParam)))
    ∧ ∀ p : Fin 32, point = p.val →
      exec (.pointRead point) s = .next (s.giveAnswer (okWith (pointAnswer (s.point p))))
      ∧ (pointAnswer (s.point p)).length = 21
      ∧ pointAnswer (s.point p) =
          (match (s.point p).config with
            | none => [0#8, 0#8, 0#8, 0#8, 0#8, 0#8]
            | some c =>
              [byteOfRole c.role, byteOf c.line.val] ++ unsignedField 2 c.k ++ unsignedField 1 c.threshold
                ++ unsignedField 1 c.creepAllowance)
            ++ [byteOf (codeOfPointState (s.point p).state), if (s.point p).nozzle then 1#8 else 0#8]
            ++ unsignedField 1 (s.point p).dutyInForce ++ unsignedField 1 ((s.point p).tag.getD 0)
            ++ (match (s.point p).noFlow with
                | .stopped => [0xFF#8, 0xFF#8, 0xFF#8]
                | .unlimited => [0xFF#8, 0xFF#8, 0xFE#8]
                | .running k => unsignedField 3 k)
            ++ unsignedField 1 (if (s.point p).state = .settling then (s.point p).settleLeft else 0)
            ++ unsignedField 2 (s.point p).latchForward ++ unsignedField 2 (s.point p).latchReverse
            ++ unsignedField 2 (s.point p).latchErrors ++ unsignedField 1 (s.point p).creep)
  ∧ ∀ (point : Nat) (s : State), Takes (.pointEnable point) s →
    (32 ≤ point → exec (.pointEnable point) s = .next (s.giveAnswer (refusal .badParam)))
    ∧ ∀ p : Fin 32, point = p.val →
      exec (.pointEnable point) s = .next
        (if (s.point p).state ≠ .outOfService then s.giveAnswer (refusal .wrongState)
        else if (∃ l, (s.point p).config.map (·.line) = some l ∧ (s.line l).state = .lockedOut) then
          s.giveAnswer (refusal .lineLocked)
        else if (s.point p).nozzle = true then s.giveAnswer (refusal .pointBusy)
        else (s.setPoint p { s.point p with state := .idle, creep := 0 }).giveAnswer (okWith []))

/-- LINE_SET (R88, R89, R124): its three checks in order; class NONE erases the configuration, stops the pump and takes
the probe out of rotation; another class replaces the configuration and leaves the line AVAILABLE at its price, and a
probe that appears enters rotation in REFERENCE at 15.0 °C, where an idle converter starts it at once (R125); that it is
then the line served last is the model's choice (notes/assumptions/21.md). -/
def Obligations.LineSetConfigures : Prop :=
  ∀ (line : Nat) (arg : LineArg) (s : State), Takes (.lineSet line arg) s →
    ((4 ≤ line ∨ arg = .unlisted ∨ ∃ fuel f, arg = .set fuel f ∧ ∀ c, ¬ GoodLine fuel f c) →
      exec (.lineSet line arg) s = .next (s.giveAnswer (refusal .badParam)))
    ∧ ∀ l : Fin 4, line = l.val →
      (arg = .clear ∨ ∃ fuel f c, arg = .set fuel f ∧ GoodLine fuel f c) →
      ((s.line l).state = .lockedOut → exec (.lineSet line arg) s = .next (s.giveAnswer (refusal .lineLocked)))
      ∧ ((s.line l).state ≠ .lockedOut → (∃ i g a, s.grantAt i = some g ∧ a ∈ g.allowances ∧ a.line = l) →
        exec (.lineSet line arg) s = .next (s.giveAnswer (refusal .lineBusy)))
      ∧ ((s.line l).state ≠ .lockedOut → (∀ i g, s.grantAt i = some g → ∀ a ∈ g.allowances, a.line ≠ l) →
        (arg = .clear →
          ∃ t : State, exec (.lineSet line arg) s = .next (t.giveAnswer (okWith [0#8]))
            ∧ t.lines =
              (s.setLine l
                { s.line l with
                  config := none
                  state := .unconfigured
                  requesting := 0
                  pump := .off
                  delayMet := false
                  startTimer := .stopped
                  runOnTimer := .stopped }).lines
            ∧ ((s.line l).hasProbe = true →
                t.tu =
                  { (s.setProbe l
                      { s.probe l with
                        state := .absent
                        temperature := 150
                        hold := .stopped
                        reported := false
                        inRotation := false }).tu with
                    converting :=
                      s.tu.converting.map fun (k : Conversion) => if k.line = l then { k with discard := true } else k })
            ∧ ((s.line l).hasProbe = false → t.tu = s.tu)
            ∧ t.gm = s.gm ∧ t.su = s.su ∧ t.points = s.points ∧ t.ss = s.ss ∧ t.ibi = s.ibi ∧ t.cp = s.cp
            ∧ t.au = s.au ∧ t.pins = s.pins ∧ t.draws = s.draws ∧ t.pending = s.pending)
        ∧ ∀ fuel f c, arg = .set fuel f → GoodLine fuel f c →
          ∃ t : State, exec (.lineSet line arg) s = .next (t.giveAnswer (okWith [1#8]))
            ∧ t.lines = (s.setLine l { s.line l with config := some c, state := .available }).lines
            ∧ ((s.line l).hasProbe = c.probe → t.tu = s.tu)
            ∧ ((s.line l).hasProbe = true → c.probe = false →
                t.tu =
                  { (s.setProbe l
                      { s.probe l with
                        state := .absent
                        temperature := 150
                        hold := .stopped
                        reported := false
                        inRotation := false }).tu with
                    converting :=
                      s.tu.converting.map fun (k : Conversion) => if k.line = l then { k with discard := true } else k })
            ∧ ((s.line l).hasProbe = false → c.probe = true →
                t.probe l =
                  { s.probe l with
                    state := .reference
                    temperature := 150
                    hold := .stopped
                    reported := false
                    inRotation := true }
                ∧ (∀ k, k ≠ l → t.probe k = s.probe k)
                ∧ (s.tu.converting ≠ none → t.tu.converting = s.tu.converting)
                ∧ (s.tu.converting = none → (∀ k, k ≠ l → (s.probe k).inRotation = false) →
                    t.tu.converting = some { line := l, discard := false } ∧ t.tu.lastServed = l))
            ∧ t.gm = s.gm ∧ t.su = s.su ∧ t.points = s.points ∧ t.ss = s.ss ∧ t.ibi = s.ibi ∧ t.cp = s.cp
            ∧ t.au = s.au ∧ t.pins = s.pins ∧ t.draws = s.draws ∧ t.pending = s.pending)

/-- PRICE_SET writes a price of at most 99,999 in every line state and answers the old and the new one (R90); LINE_READ
answers the 35 bytes of the line and changes nothing (R92); LINE_RESTORE returns a LOCKED_OUT line to AVAILABLE, or to
UNCONFIGURED without a class, and is WRONG_STATE for another line (R151). That LINE_READ takes F at α 0 for a line without
a configuration is the model's choice (notes/assumptions/19.md). -/
def Obligations.LineCommands : Prop :=
  (∀ (line price : Nat) (s : State), Takes (.priceSet line price) s →
    ((4 ≤ line ∨ 99999 < price) → exec (.priceSet line price) s = .next (s.giveAnswer (refusal .badParam)))
    ∧ ∀ l : Fin 4, line = l.val → price ≤ 99999 → (s.line l).price ≤ 99999 →
      exec (.priceSet line price) s = .next
        ((s.setLine l { s.line l with price := price }).giveAnswer
          (okWith (bytesOfNat 3 (s.line l).price ++ bytesOfNat 3 price))))
  ∧ (∀ (line : Nat) (s : State), Takes (.lineRead line) s →
    (4 ≤ line → exec (.lineRead line) s = .next (s.giveAnswer (refusal .badParam)))
    ∧ ∀ l : Fin 4, line = l.val →
      exec (.lineRead line) s = .next (s.giveAnswer (okWith (lineAnswer s l))) ∧ (lineAnswer s l).length = 35
      ∧ lineAnswer s l =
          (match (s.line l).config with
            | none => List.replicate 15 0#8
            | some c =>
              unsignedField 3 c.ceiling ++ unsignedField 2 c.slowMargin ++ unsignedField 1 c.closeLead
                ++ unsignedField 2 c.alpha ++ [match c.basis with | .gross => 1#8 | .compensated => 2#8]
                ++ unsignedField 1 c.fullDuty ++ unsignedField 1 c.slowDuty ++ unsignedField 1 c.startDelay
                ++ unsignedField 1 c.runOn ++ [if c.probe then 1#8 else 0#8, byteOfFuel c.fuel])
            ++ unsignedField 3 (s.line l).price
            ++ [match (s.line l).state with | .unconfigured => 0#8 | .available => 1#8 | .lockedOut => 2#8,
              match (s.line l).pump with | .off => 0#8 | .on => 1#8 | .runOn => 2#8,
              if (s.line l).delayMet then 1#8 else 0#8]
            ++ (match (s.line l).pump, (s.line l).delayMet, (s.line l).startTimer with
                | .on, false, .running n => unsignedField 1 n
                | _, _, _ => [0#8])
            ++ (match (s.line l).pump, (s.line l).runOnTimer with
                | .runOn, .running n => unsignedField 3 n
                | .runOn, .unlimited => [0xFF#8, 0xFF#8, 0xFF#8]
                | _, _ => [0#8, 0#8, 0#8])
            ++ bytesOfNat 4 (s.line l).requesting.toNat
            ++ [match (s.probe l).state with | .absent => 0#8 | .good => 1#8 | .holding => 2#8 | .reference => 3#8]
            ++ signedField 2 (s.probe l).temperature
            ++ unsignedField 3
              (factorOf (((s.line l).config.map (·.alpha)).getD 0) (s.probe l).temperature).toNat)
  ∧ ∀ (line : Nat) (s : State), Takes (.lineRestore line) s →
    (4 ≤ line → exec (.lineRestore line) s = .next (s.giveAnswer (refusal .badParam)))
    ∧ ∀ l : Fin 4, line = l.val →
      exec (.lineRestore line) s = .next
        (if (s.line l).state = .lockedOut then
          (s.setLine l
              { s.line l with state := if (s.line l).config = none then .unconfigured else .available }).giveAnswer
            (okWith [])
        else s.giveAnswer (refusal .wrongState))

/-- The line timers (R95, R96). RUN_ON_TIMER_EXPIRY: the pump goes OFF and the mark is no. START_TIMER_EXPIRY: the mark
is yes, and each PRIMING point of the line attached to a grant with an armed allowance there opens, FLOWING or SLOWING
by its residual (R72), and no other point changes. A timer that does not run does nothing (notes/assumptions/6.md). -/
def Obligations.LineTimersExpire : Prop :=
  (∀ (l : Fin 4) (s : State),
    (∀ k, (s.line l).runOnTimer = .running k →
      exec (.runOnTimerExpiry l) s = .next
        (s.setLine l { s.line l with pump := .off, delayMet := false, runOnTimer := .stopped }))
    ∧ ((∀ k, (s.line l).runOnTimer ≠ .running k) → exec (.runOnTimerExpiry l) s = .next s)
    ∧ ((∀ k, (s.line l).startTimer ≠ .running k) → exec (.startTimerExpiry l) s = .next s))
  ∧ ∀ (l : Fin 4) (s : State) (k : Nat), (s.line l).startTimer = .running k →
    ∃ t, exec (.startTimerExpiry l) s = .next t
      ∧ t.lines = (s.setLine l { s.line l with delayMet := true, startTimer := .stopped }).lines
      ∧ (∀ p, ¬ ((s.point p).state = .priming ∧ (s.point p).config.any (·.line == l) = true) →
          t.point p = s.point p)
      ∧ (∀ p c tag i g a terms, (s.point p).state = .priming → (s.point p).config = some c → c.line = l →
          (s.point p).tag = some tag → HeldIn s tag i g → g.allowanceOn l = some a → a.armed = some terms →
          t.point p =
            { s.point p with
              state :=
                if (s.lineField l (·.slowMargin) : Int) < terms.residual then .flowing else .slowing
              stageDuty :=
                if (s.lineField l (·.slowMargin) : Int) < terms.residual then s.lineField l (·.fullDuty)
                else s.lineField l (·.slowDuty)
              dutyInForce :=
                if (if (s.lineField l (·.slowMargin) : Int) < terms.residual then s.lineField l (·.fullDuty)
                    else s.lineField l (·.slowDuty)) = 0 then 0
                else (s.point p).dutyInForce
              noFlow := Timer.start s.cp.timers.noFlow
              creep := 0 }
          ∧ t.grantAt i = some { g with flowed := true })
      ∧ (∀ i, (t.grantAt i).map (fun g : Grant => { g with flowed := false }) =
          (s.grantAt i).map (fun g : Grant => { g with flowed := false }))
      ∧ t.gm.pendingTags = s.gm.pendingTags ∧ t.gm.settledTags = s.gm.settledTags
      ∧ t.gm.tagCounter = s.gm.tagCounter ∧ t.su = s.su ∧ t.tu = s.tu ∧ t.ss = s.ss ∧ t.ibi = s.ibi ∧ t.cp = s.cp
      ∧ t.au = s.au ∧ t.pins = s.pins ∧ t.draws = s.draws ∧ t.pending = s.pending

/-- The probe rows. PROBE_SET writes the calibration and nothing else (R128). CONVERSION_COMPLETION of a channel in
rotation (R127, R129, R131): a good code makes the probe GOOD at the converted, clamped temperature; a fault code takes
GOOD to HOLDING with the hold timer started and keeps HOLDING and REFERENCE; PROBE_FAULT is raised once an episode; a
completion of a channel that left rotation is discarded (R126); the converter then chooses the next channel in rotation
(R124, R125). PROBE_HOLD_TIMER_EXPIRY: REFERENCE at 15.0 °C, and no event (R130). That a completion with an idle converter
and the expiry of a hold timer that does not run change nothing (notes/assumptions/6.md), and that the line served last is
the one whose conversion starts (notes/assumptions/21.md), are the model's choices. -/
def Obligations.ProbeRows : Prop :=
  (∀ (line : Nat) (offset : Int) (span : Nat) (s : State), Takes (.probeSet line offset span) s →
    ((4 ≤ line ∨ offset < -1000 ∨ 1000 < offset ∨ span < 1 ∨ 3000 < span) →
      exec (.probeSet line offset span) s = .next (s.giveAnswer (refusal .badParam)))
    ∧ ∀ l : Fin 4, line = l.val → -1000 ≤ offset → offset ≤ 1000 → 1 ≤ span → span ≤ 3000 →
      exec (.probeSet line offset span) s = .next
        ((s.setProbe l { s.probe l with offset := offset, span := span }).giveAnswer
          (okWith
            (signedField 2 (s.probe l).offset ++ unsignedField 2 (s.probe l).span ++ signedField 2 offset
              ++ unsignedField 2 span))))
  ∧ (∀ (code : Nat) (s : State) (k : Conversion), s.tu.converting = some k →
    ∃ t, exec (.conversionCompletion code) s = .next t
      ∧ (∀ m, m ≠ k.line → t.probe m = s.probe m)
      ∧ ((k.discard = true ∨ (s.probe k.line).inRotation = false) → t.probe k.line = s.probe k.line ∧ t.au = s.au)
      ∧ (k.discard = false → (s.probe k.line).inRotation = true → 4 ≤ code → code ≤ 1019 →
          t.probe k.line =
            { s.probe k.line with
              state := .good
              temperature :=
                if (s.probe k.line).offset + ((code * (s.probe k.line).span / 1024 : Nat) : Int) < -400 then -400
                else if 700 < (s.probe k.line).offset + ((code * (s.probe k.line).span / 1024 : Nat) : Int) then 700
                else (s.probe k.line).offset + ((code * (s.probe k.line).span / 1024 : Nat) : Int)
              hold := .stopped
              reported := false }
          ∧ t.au = s.au)
      ∧ (k.discard = false → (s.probe k.line).inRotation = true → (s.probe k.line).state ≠ .absent →
          (code < 4 ∨ 1019 < code) →
          t.probe k.line =
            (if (s.probe k.line).state = .good then
              { s.probe k.line with state := .holding, hold := Timer.start s.cp.timers.probeHold, reported := true }
            else { s.probe k.line with reported := true })
          ∧ t.au =
            (if (s.probe k.line).reported then s.au
            else { s.au with probeFault := s.au.probeFault ||| (1#4 <<< k.line.val) }))
      ∧ ((∀ m, (t.probe m).inRotation = false) → t.tu.converting = none ∧ t.tu.lastServed = s.tu.lastServed)
      ∧ (∀ m d : Fin 4, m = s.tu.lastServed + 1 + d → (t.probe m).inRotation = true →
          (∀ e, e < d → (t.probe (s.tu.lastServed + 1 + e)).inRotation = false) →
          t.tu.converting = some { line := m, discard := false } ∧ t.tu.lastServed = m)
      ∧ t.gm = s.gm ∧ t.su = s.su ∧ t.points = s.points ∧ t.lines = s.lines ∧ t.ss = s.ss ∧ t.ibi = s.ibi
      ∧ t.cp = s.cp ∧ t.pins = s.pins ∧ t.draws = s.draws ∧ t.pending = s.pending)
  ∧ (∀ (code : Nat) (s : State), s.tu.converting = none → exec (.conversionCompletion code) s = .next s)
  ∧ ∀ (l : Fin 4) (s : State),
    (∀ k, (s.probe l).hold = .running k →
      exec (.probeHoldTimerExpiry l) s = .next
        (s.setProbe l { s.probe l with state := .reference, temperature := 150, hold := .stopped }))
    ∧ ((∀ k, (s.probe l).hold ≠ .running k) → exec (.probeHoldTimerExpiry l) s = .next s)

/-! ### The Screening Unit's tables -/

/-- PROGRAM_PUT, PROGRAM_DROP and PROGRAM_READ (R37 to R40): the checks in order; an entry of the same id is replaced;
the new entry stands where its prefix low puts it, and its index is answered; a drop removes the entry of the id; a
read answers the 32 bytes of the entry at the index, or EMPTY. -/
def Obligations.ProgramCommands : Prop :=
  (∀ (e : ProgramArg) (s : State), Takes (.programPut e) s →
    ((∀ p, ¬ GoodProgram e p) → exec (.programPut e) s = .next (s.giveAnswer (refusal .badParam)))
    ∧ ∀ p, GoodProgram e p →
      ((∃ q ∈ s.su.programs, q.id ≠ p.id ∧ p.low ≤ q.high ∧ q.low ≤ p.high) →
        exec (.programPut e) s = .next (s.giveAnswer (refusal .overlap)))
      ∧ ((∀ q ∈ s.su.programs, q.id ≠ p.id → ¬ (p.low ≤ q.high ∧ q.low ≤ p.high)) →
        ((∀ q ∈ s.su.programs, q.id ≠ p.id) → 32 ≤ s.su.programs.length →
          exec (.programPut e) s = .next (s.giveAnswer (refusal .tableFull)))
        ∧ (((∃ q ∈ s.su.programs, q.id = p.id) ∨ s.su.programs.length < 32) →
            s.su.programs.Pairwise (fun a b => a.low < b.low) → (∀ q ∈ s.su.programs, q.low ≤ q.high) →
          ∃ before after mark,
            s.su.programs.filter (·.id ≠ p.id) = before ++ after
            ∧ (∀ q ∈ before, q.low < p.low) ∧ (∀ q ∈ after, p.low < q.low)
            ∧ ((∃ q ∈ s.su.programs, q.id = p.id) → mark = 2#8) ∧ ((∀ q ∈ s.su.programs, q.id ≠ p.id) → mark = 1#8)
            ∧ exec (.programPut e) s = .next
              ({ s with su := { s.su with programs := before ++ p :: after } }.giveAnswer
                (okWith [mark, byteOf before.length])))))
  ∧ (∀ (id : Nat) (s : State), Takes (.programDrop id) s →
    exec (.programDrop id) s = .next
      (if 31 < id then s.giveAnswer (refusal .badParam)
      else if ∃ q ∈ s.su.programs, q.id = id then
        { s with su := { s.su with programs := s.su.programs.filter (·.id ≠ id) } }.giveAnswer (okWith [])
      else s.giveAnswer (refusal .notFound)))
  ∧ ∀ (index : Nat) (s : State), Takes (.programRead index) s →
    (31 < index → exec (.programRead index) s = .next (s.giveAnswer (refusal .badParam)))
    ∧ (index ≤ 31 → s.su.programs.length ≤ index →
      exec (.programRead index) s = .next (s.giveAnswer (refusal .empty)))
    ∧ ∀ p, index ≤ 31 → s.su.programs[index]? = some p →
      exec (.programRead index) s = .next (s.giveAnswer (okWith (bytesOfProgram p.toArg)))

/-- The deny set (R43, R44) and the stand-in tally (R60, R61): DENY_ADD, DENY_DROP, DENY_TEST, DENY_CLEAR, TALLY_READ,
TALLY_DROP and TALLY_CLEAR with their checks in order, their marks and counts. -/
def Obligations.DenyAndTallyCommands : Prop :=
  (∀ (pan : Pan) (s : State), Takes (.denyAdd pan) s →
    exec (.denyAdd pan) s = .next
      (if ¬ GoodPan pan then s.giveAnswer (refusal .badParam)
      else if pan ∈ s.su.denied then s.giveAnswer (okWith [2#8])
      else if 1024 ≤ s.su.denied.length then s.giveAnswer (refusal .tableFull)
      else { s with su := { s.su with denied := s.su.denied ++ [pan] } }.giveAnswer (okWith [1#8])))
  ∧ (∀ (pan : Pan) (s : State), Takes (.denyDrop pan) s →
    exec (.denyDrop pan) s = .next
      (if ¬ GoodPan pan then s.giveAnswer (refusal .badParam)
      else if pan ∈ s.su.denied then
        { s with su := { s.su with denied := s.su.denied.filter (· ≠ pan) } }.giveAnswer (okWith [])
      else s.giveAnswer (refusal .notFound)))
  ∧ (∀ (pan : Pan) (s : State), Takes (.denyTest pan) s →
    exec (.denyTest pan) s = .next
      (if ¬ GoodPan pan then s.giveAnswer (refusal .badParam)
      else s.giveAnswer (okWith [if pan ∈ s.su.denied then 1#8 else 0#8])))
  ∧ (∀ s : State, Takes .denyClear s → s.su.denied.length ≤ 1024 →
    exec .denyClear s = .next
      ({ s with su := { s.su with denied := [] } }.giveAnswer (okWith (bytesOfNat 2 s.su.denied.length))))
  ∧ (∀ (position : Nat) (s : State), Takes (.tallyRead position) s →
    (128 ≤ position → exec (.tallyRead position) s = .next (s.giveAnswer (refusal .badParam)))
    ∧ ∀ k : Fin 128, position = k.val →
      (s.su.entryAt k = none → exec (.tallyRead position) s = .next (s.giveAnswer (refusal .empty)))
      ∧ ∀ e, s.su.entryAt k = some e →
        exec (.tallyRead position) s = .next
          (s.giveAnswer
            (okWith
              (bytesOfPan e.pan ++ unsignedField 1 e.program ++ unsignedField 1 e.count ++ unsignedField 4 e.amount))))
  ∧ (∀ (pan : Pan) (s : State), Takes (.tallyDrop pan) s →
    (¬ GoodPan pan → exec (.tallyDrop pan) s = .next (s.giveAnswer (refusal .badParam)))
    ∧ (GoodPan pan → (∀ k e, s.su.entryAt k = some e → e.pan ≠ pan) →
      exec (.tallyDrop pan) s = .next (s.giveAnswer (refusal .notFound)))
    ∧ ∀ k e, GoodPan pan → s.su.entryAt k = some e → e.pan = pan →
      (∀ j f, s.su.entryAt j = some f → f.pan = pan → j = k) →
      exec (.tallyDrop pan) s = .next
        ((s.modSu fun u => u.setEntry k none).giveAnswer
          (okWith (unsignedField 1 e.count ++ unsignedField 4 e.amount))))
  ∧ ∀ s : State, Takes .tallyClear s →
    ∃ t : State, exec .tallyClear s = .next (t.giveAnswer (okWith [byteOf (s.su.tally.toList.countP (·.isSome))]))
      ∧ (∀ k, t.su.entryAt k = none) ∧ t = { s with su := { s.su with tally := t.su.tally } }

/-- LINK_SET (R45, R161): the state in force is left alone; a change places a SITE_NOTICE with both fields; a value that
names neither state is BAD_PARAM. DATE_SET (R46): UNSET, or a value whose month is 01 to 12, becomes the site date. -/
def Obligations.LinkAndDate : Prop :=
  (∀ (link : Option LinkState) (s : State), Takes (.linkSet link) s →
    (link = none → exec (.linkSet link) s = .next (s.giveAnswer (refusal .badParam)))
    ∧ (link = some s.su.link → exec (.linkSet link) s = .next (s.giveAnswer (okWith [])))
    ∧ ∀ l, link = some l → l ≠ s.su.link →
      exec (.linkSet link) s = .next
        ({ s with
            su := { s.su with link := l }
            ibi :=
              { s.ibi with
                general := some { halted := decide (s.ss.site ≠ SiteState.running), link := l }
                state :=
                  match s.ibi.state with
                  | .masterTx (.general _) => .masterTx (.general false)
                  | other => other } }.giveAnswer
          (okWith [])))
  ∧ ∀ (date : Option Yymm) (s : State), Takes (.dateSet date) s →
    ((∃ d, date = some d ∧ ¬ GoodMonth d) → exec (.dateSet date) s = .next (s.giveAnswer (refusal .badParam)))
    ∧ ((∀ d, date = some d → GoodMonth d) →
      exec (.dateSet date) s = .next
        ({ s with su := { s.su with date := date } }.giveAnswer (okWith [])))

/-! ### The site -/

/-- The entry to HALTING (R154, R155, R157, R161): every open or priming point settles, every pump is OFF, a PENDING or
ARMED grant settles with HALT, a FUELING or HELD one enters CLOSING and settles at once where no attached point is busy,
a CLOSING or SETTLED one stays; grants settle in ascending lane order; a SITE_NOTICE HALTED is placed; the site is
HALTED with HALT_COMPLETE when no grant is left CLOSING (that the test comes last is the model's reading,
notes/assumptions/7.md), else HALTING. -/
def Obligations.HaltStopsForecourt : Prop :=
  ∀ s : State,
    let t := enterHalting s
    (∀ p, { t.point p with tag := none } =
      (if (s.point p).state = .priming ∨ (s.point p).state = .flowing ∨ (s.point p).state = .slowing then
        { s.point p with
          tag := none
          state := .settling
          stageDuty := 0
          dutyInForce := 0
          noFlow := .stopped
          settleLeft := s.cp.timers.settle }
      else { s.point p with tag := none }))
    ∧ (∀ l, t.line l =
        { s.line l with
          requesting := 0, pump := .off, delayMet := false, startTimer := .stopped, runOnTimer := .stopped })
    ∧ (∀ i, s.grantAt i = none → t.grantAt i = none)
    ∧ (∀ i g, s.grantAt i = some g →
        let busy : Prop :=
          ∃ p ∈ g.attached,
            (s.point p).state = .priming ∨ (s.point p).state = .flowing ∨ (s.point p).state = .slowing
              ∨ (s.point p).state = .settling
        ((g.state = .pending ∨ g.state = .armed ∨ ((g.state = .fueling ∨ g.state = .held) ∧ ¬ busy)) →
          t.grantAt i = some
            { g with
              outcome := some (g.outcome.getD .halt)
              state := .settled
              attached := []
              decisionTimer := .stopped
              liftTimer := .stopped
              idleEndTimer := .stopped
              holdTimer := .stopped })
        ∧ (((g.state = .fueling ∨ g.state = .held) ∧ busy) →
          t.grantAt i = some
            { g with
              outcome := some (g.outcome.getD .halt)
              state := .closing
              liftTimer := .stopped
              idleEndTimer := .stopped
              holdTimer := .stopped })
        ∧ ((g.state = .closing ∨ g.state = .settled) → t.grantAt i = some g))
    ∧ t.gm.settledTags = s.gm.settledTags ++
        (allLanes.flatMap fun n =>
          (allSlots.filter fun i =>
              (s.grantAt i).any (fun g => g.lane == n && g.state != .settled)
                && (t.grantAt i).any (fun g => g.state == .settled)).filterMap fun i =>
            (s.grantAt i).map (·.tag))
    ∧ t.ibi.general = some { halted := true, link := s.su.link }
    ∧ ((∃ i g, t.grantAt i = some g ∧ g.state = .closing) → t.ss = { s.ss with site := .halting } ∧ t.au = s.au)
    ∧ ((∀ i g, t.grantAt i = some g → g.state ≠ .closing) →
        t.ss = { s.ss with site := .halted } ∧ t.au = { s.au with haltComplete := true })
    ∧ t.su.programs = s.su.programs ∧ t.su.denied = s.su.denied ∧ t.su.link = s.su.link ∧ t.su.date = s.su.date
    ∧ t.tu = s.tu ∧ t.cp = s.cp ∧ t.pins = s.pins ∧ t.draws = s.draws ∧ t.pending = s.pending

/-- SITE_HALT, SITE_RESUME and the filtered E-STOP edges by the site state (R153, R158, R159, R160, R161). -/
def Obligations.SiteCommands : Prop :=
  (∀ s : State, Takes .siteHalt s →
    (s.ss.site = .running →
      exec .siteHalt s = .next
        ((enterHalting s).giveAnswer (okWith [if (enterHalting s).ss.site = .halted then 2#8 else 1#8])))
    ∧ (s.ss.site = .halting → exec .siteHalt s = .next (s.giveAnswer (okWith [1#8])))
    ∧ (s.ss.site = .halted → exec .siteHalt s = .next (s.giveAnswer (okWith [2#8]))))
  ∧ (∀ s : State, Takes .siteResume s →
    (s.ss.site = .running → exec .siteResume s = .next (s.giveAnswer (okWith [])))
    ∧ (s.ss.site = .halting → exec .siteResume s = .next (s.giveAnswer (refusal .wrongState)))
    ∧ (s.ss.site = .halted → s.ss.estop = true →
        exec .siteResume s = .next (s.giveAnswer (refusal .stillAsserted)))
    ∧ (s.ss.site = .halted → s.ss.estop = false →
        exec .siteResume s = .next
          ({ s with
              ss := { s.ss with site := .running }
              ibi :=
                { s.ibi with
                  general := some { halted := false, link := s.su.link }
                  state :=
                    match s.ibi.state with
                    | .masterTx (.general _) => .masterTx (.general false)
                    | other => other } }.giveAnswer
            (okWith []))))
  ∧ ∀ s : State,
    let asserted := { s with ss := { s.ss with estop := true }, pins := { s.pins with estop := true } }
    (s.ss.site = .running → exec .estopAssertion s = .next (enterHalting asserted))
    ∧ (s.ss.site ≠ .running → exec .estopAssertion s = .next asserted)
    ∧ exec .estopRelease s = .next
        { s with ss := { s.ss with estop := false }, pins := { s.pins with estop := false } }

/-! ### The island bus -/

/-- The bus monitor (R164 to R168). A START sets bus busy, starts the stuck timer where it did not run and awaits an
address, from STUCK nothing; a STOP frees the bus from any state; an address byte 0x50 + 2n is a write to lane n, one
more is its read, every other address leaves the part a listener; the stuck timer's expiry abandons the transfer, enters
STUCK and raises BUS_FAULT. A START, a STOP or the expiry in MASTER_TX breaks the part's own transfer off (R167, R181),
after a free number of whole bytes, `Config.wholeBytes` (notes/assumptions/16.md). That an address byte not awaited and the expiry of a stuck timer that does not run change
nothing (notes/assumptions/6.md), that a START or STOP in SLAVE_RX ends a write without bytes (notes/assumptions/17.md)
and the output log `sent` (notes/assumptions/16.md) are the model's choices. -/
def Obligations.BusMonitorFollowsLines : Prop :=
  (∀ s : State,
    let broken :=
      match s.ibi.state with
      | .masterTx _ =>
        { s with
          ibi := { s.ibi with sent := s.ibi.outgoing.take (Config.wholeBytes s.draws), outgoing := [] }
          draws := s.draws + 1 }
      | _ => s
    (s.ibi.state = .stuck → exec .startCondition s = .next s)
    ∧ (s.ibi.state ≠ .stuck →
        exec .startCondition s = .next
          { broken with
            ibi :=
              { broken.ibi with
                state := .busyOther true
                stuckTimer := s.ibi.stuckTimer || !s.ibi.busy
                busy := true
                stretch := none } })
    ∧ exec .stopCondition s = .next
        { broken with ibi := { broken.ibi with state := .free, busy := false, stuckTimer := false, stretch := none } }
    ∧ (s.ibi.stuckTimer = true →
        exec .busStuckTimerExpiry s = .next
          { broken with
            ibi := { broken.ibi with state := .stuck, stuckTimer := false, stretch := none, received := [] }
            au := { s.au with busFault := true } })
    ∧ (s.ibi.stuckTimer = false → exec .busStuckTimerExpiry s = .next s))
  ∧ ∀ (b : Byte) (s : State),
    (s.ibi.state ≠ .busyOther true → exec (.addressByte b) s = .next s)
    ∧ (s.ibi.state = .busyOther true →
      (∀ n : Fin 8, b.toNat = 0x50 + 2 * n.val →
        exec (.addressByte b) s = .next { s with ibi := { s.ibi with state := .slaveRx n, received := [] } })
      ∧ (∀ n : Fin 8, b.toNat = 0x51 + 2 * n.val →
        exec (.addressByte b) s = .next { s with ibi := { s.ibi with state := .slaveTx n, stretch := none } })
      ∧ ((b.toNat < 0x50 ∨ 0x5F < b.toNat) →
        exec (.addressByte b) s = .next { s with ibi := { s.ibi with state := .busyOther false } }))

/-- WRITE_PHASE_END (R169 to R172, R175). Without a byte nothing but the bus changes. Else the first 64 bytes are one
message of the lane: the lane is flushed, and then an AUTH_REQUEST or a good CANCEL joins the messages in processing,
behind those of every lane taken before it, and a bad check byte, an unknown kind or a CANCEL of the wrong shape is
answered FORMAT, at once or behind those messages. Then the condition that ended the write moves the bus. The list of
messages in processing (notes/assumptions/4.md) and that a write end outside SLAVE_RX changes nothing
(notes/assumptions/6.md) are the model's choices. -/
def Obligations.WritePhaseSortsMessage : Prop :=
  ∀ (bytes : List Byte) (ending : WriteEnd) (s : State),
    ((∀ lane, s.ibi.state ≠ .slaveRx lane) → exec (.writePhaseEnd bytes ending) s = .next s)
    ∧ ∀ lane : Fin 8, s.ibi.state = .slaveRx lane →
      let m := bytes.take 64
      let ended : IslandBus :=
        match ending with
        | .stop =>
          { s.ibi with received := [], state := .free, busy := false, stuckTimer := false, stretch := none }
        | .repeatedStart =>
          { s.ibi with
            received := []
            state := .busyOther true
            stuckTimer := s.ibi.stuckTimer || !s.ibi.busy
            busy := true
            stretch := none }
      let old : List InProcess :=
        s.ibi.inProcess.map fun (x : InProcess) => if x.lane = lane then { x with discarded := true } else x
      let flushed : Lane := { reply := none, notices := [], attempts := 0, retryWait := false }
      let queued (x : LaneMessage) : State :=
        { s with
          ibi := { ended with inProcess := old ++ [({ lane := lane, message := x, discarded := false } : InProcess)] } }.setLane
          lane flushed
      let format : State :=
        if s.ibi.inProcess = [] then
          { s with ibi := ended }.setLane lane
            { flushed with reply := some { result := .format, tag := 0, caps := [] } }
        else queued .malformed
      let good : Prop := checkByte m.dropLast = m.getLastD 0#8
      (bytes = [] → exec (.writePhaseEnd bytes ending) s = .next { s with ibi := ended })
      ∧ (bytes ≠ [] → ¬ good → exec (.writePhaseEnd bytes ending) s = .next format)
      ∧ (bytes ≠ [] → good → m.head? = some 1#8 →
          exec (.writePhaseEnd bytes ending) s = .next (queued (.auth (authOfMessage m))))
      ∧ (∀ tag check : Byte, good → m = [2#8, 1#8, tag, check] → tag ≠ 0#8 →
          exec (.writePhaseEnd bytes ending) s = .next (queued (.cancel tag.toNat)))
      ∧ (bytes ≠ [] → good → m.head? ≠ some 1#8 →
          (∀ tag check : Byte, m = [2#8, 1#8, tag, check] → tag = 0#8) →
          exec (.writePhaseEnd bytes ending) s = .next format)

/-- AUTH_REQUEST, the first nine checks of R47 in their order (R48 to R51): the first that refuses gives the answer, and
nothing else changes. A message whose declared length disagrees is refused FORMAT (R204). How the row
meets the messages in processing is the model's choice (notes/assumptions/4.md for `TakenFrom`). -/
def Obligations.ScreeningRefusesInOrder : Prop :=
  ∀ (lane : Fin 8) (s s₁ : State),
    (TakenFrom s lane (.auth none) s₁ →
      exec (.authRequest lane none) s = .next (placeReply lane { result := .format, tag := 0, caps := [] } s₁))
    ∧ ∀ (r : AuthRequest) (before after : List (Prop × ReplyResult)) (refuses : Prop) (result : ReplyResult),
      TakenFrom s lane (.auth (some r)) s₁ → refusals s lane r = before ++ (refuses, result) :: after →
      (∀ c ∈ before, ¬ c.1) → refuses →
      exec (.authRequest lane (some r)) s = .next (placeReply lane { result := result, tag := 0, caps := [] } s₁)

/-- AUTH_REQUEST that passes the nine checks while ONLINE (R2, R3, R5, R7, R52): a PENDING grant in the lowest free slot
with the next tag and an allowance for each line of the product set, its tag at the tail of the pending queue, its
decision timer started, and the reply ACCEPTED with the tag (notes/assumptions/4.md for `TakenFrom`). -/
def Obligations.ScreeningAcceptsOnline : Prop :=
  ∀ (lane : Fin 8) (r : AuthRequest) (s s₁ : State) (p : Program) (i : Fin 24),
    TakenFrom s lane (.auth (some r)) s₁ → (∀ c ∈ refusals s lane r, ¬ c.1) → s.programFor r.pan = some p →
    s.grantAt i = none → (∀ j, j < i → s.grantAt j ≠ none) → s.su.link = .online →
    ∃ products : List (Fin 4),
      products.Pairwise (· < ·) ∧ (∀ l, l ∈ products ↔ InProducts s lane p r.lines l)
      ∧ exec (.authRequest lane (some r)) s = .next
        (placeReply lane { result := .accepted, tag := s.nextTag, caps := [] }
          ((s₁.setSlot i
              (some
                { tag := s.nextTag
                  lane := lane
                  card := some { pan := r.pan, expiry := r.expiry, program := p.id }
                  prompts := r.prompts
                  requested := r.lines
                  dualSide := p.dualSide
                  source := none
                  state := .pending
                  served := false
                  allowances := products.map fun l =>
                    { line := l
                      ceiling :=
                        match (s.line l).config with
                        | some x => min x.ceiling (classValue p.ceilings x.fuel)
                        | none => 0
                      limit := none
                      armed := none }
                  attached := []
                  flowed := false
                  outcome := none
                  degraded := false
                  decisionTimer := Timer.start s.cp.timers.decision
                  liftTimer := .stopped
                  idleEndTimer := .stopped
                  holdTimer := .stopped })).modGm
            fun m => { m with tagCounter := s.nextTag, pendingTags := m.pendingTags ++ [s.nextTag] }))

/-- AUTH_REQUEST that passes the nine checks while OFFLINE (R8, R53, R54, R55). A mode of NEVER or a count at the limit is
refused STANDIN_REFUSED; a card without an entry in a full tally is refused TALLY_FULL, which is raised. Otherwise the
approval is booked, the grant is created and armed by R17 to R19 at the program's stand-in limits, and the reply
APPROVED carries its tag and caps; ARMED, no DECISION notice is queued (notes/assumptions/4.md for `TakenFrom`). -/
def Obligations.StandinAnswersOffline : Prop :=
  ∀ (lane : Fin 8) (r : AuthRequest) (s s₁ : State) (p : Program),
    TakenFrom s lane (.auth (some r)) s₁ → (∀ c ∈ refusals s lane r, ¬ c.1) → s.programFor r.pan = some p →
    s.su.link = .offline →
    let count := ((s.su.entryOf r.pan).map (·.count)).getD 0
    ((p.mode = .never ∨ p.countLimit ≤ count) →
      exec (.authRequest lane (some r)) s = .next
        (placeReply lane { result := .standinRefused, tag := 0, caps := [] } s₁))
    ∧ (p.mode ≠ .never → count < p.countLimit → s.su.positionOf r.pan = none → s.su.emptyPosition = none →
      exec (.authRequest lane (some r)) s = .next
        (placeReply lane { result := .tallyFull, tag := 0, caps := [] }
          { s₁ with au := { s₁.au with tallyFull := true } }))
    ∧ ∀ i : Fin 24, p.mode ≠ .never → count < p.countLimit →
      (s.su.positionOf r.pan ≠ none ∨ s.su.emptyPosition ≠ none) →
      s.grantAt i = none → (∀ j, j < i → s.grantAt j ≠ none) →
      ∃ (made : Grant) (kept : List Allowance) (points : List (Fin 32)) (t : State) (g' : Grant),
        made.tag = s.nextTag ∧ made.lane = lane ∧ made.dualSide = p.dualSide
        ∧ (made.allowances.map (·.line)).Pairwise (· < ·)
        ∧ (∀ l, l ∈ made.allowances.map (·.line) ↔ InProducts s lane p r.lines l)
        ∧ (∀ a ∈ made.allowances, ∀ x, (s.line a.line).config = some x →
            a.ceiling = min x.ceiling (classValue p.ceilings x.fuel))
        ∧ ArmedAs s
            (fun l => some (.volume, ((s.line l).config.map fun x => classValue p.limits x.fuel).getD 0)) made
            { made with allowances := kept, attached := points }
        ∧ exec (.authRequest lane (some r)) s = .next
          (placeReply lane
            { result := .approved
              tag := s.nextTag
              caps := kept.map fun a => { line := a.line, cap := (a.armed.map (·.cap)).getD 0 } } t)
        ∧ t.grantAt i = some g' ∧ g'.tag = s.nextTag ∧ g'.lane = lane ∧ g'.source = some .standinOffline
        ∧ g'.card = some { pan := r.pan, expiry := r.expiry, program := p.id } ∧ g'.prompts = r.prompts
        ∧ g'.requested = r.lines ∧ g'.dualSide = p.dualSide ∧ g'.allowances = kept
        ∧ g'.served = false ∧ g'.flowed = false ∧ g'.degraded = false
        ∧ (∀ j, j ≠ i → t.grantAt j = s.grantAt j)
        ∧ t.gm.tagCounter = s.nextTag ∧ t.lines = s.lines ∧ t.tu = s.tu ∧ t.ss = s.ss ∧ t.cp = s.cp ∧ t.au = s.au
        ∧ t.pins = s.pins ∧ t.pending = s.pending
        ∧ ((∃ a ∈ kept, a.isOpen = true) →
            g'.state = .armed ∧ g'.attached = points ∧ g'.outcome = none
            ∧ g'.liftTimer = Timer.start s.cp.timers.lift
            ∧ (∀ q, t.point q = if q ∈ points then { s.point q with tag := some s.nextTag } else s.point q)
            ∧ t.su = s.su.book r.pan p.id ∧ Booked s.su t.su r.pan p.id ∧ t.gm.pendingTags = s.gm.pendingTags
            ∧ t.gm.settledTags = s.gm.settledTags ∧ t.ibi = s₁.ibi)
        ∧ ((∀ a ∈ kept, a.isOpen = false) →
            g'.state = .settled ∧ g'.attached = []
            ∧ g'.outcome = some (if kept = [] then EndReason.lineLockout else EndReason.limit)
            ∧ ((∀ j e, s.su.entryAt j = some e → e.amount ≤ 99999999) → Booked s.su t.su r.pan p.id)
            ∧ t.gm.settledTags = s.gm.settledTags ++ [s.nextTag])

/-- REPLY_READ, the placing of a reply, and the order of the answers (R172 to R175). A read of a lane whose request is in
processing waits under clock stretch; else the lane's REPLY, or NO_REPLY, is sent and then 0xFF, and a REPLY clocked to
its check byte leaves the slot. A reply placed while its lane's read waits is read by it; else it stays in the slot. A
message is taken only as the oldest in processing of all lanes; the malformed ones behind it are then answered FORMAT;
the answer of a flushed message is discarded and its effect stands. That a read in another bus state
(notes/assumptions/6.md) or a row for another message (4.md) changes nothing, that a stretched read is sent whole in the
placing step (18.md), and the output log `sent` (16.md) are the model's choices. -/
def Obligations.RepliesAreRead : Prop :=
  let read (lane : Fin 8) (n : Nat) (s : State) : State :=
    match (s.lane lane).reply with
    | some r =>
      let sent :=
        { s with
          ibi :=
            { s.ibi with sent := (replyMessage r ++ List.replicate n 0xFF#8).take n, stretch := none } }
      if (replyMessage r).length ≤ n then sent.setLane lane { s.lane lane with reply := none } else sent
    | none =>
      { s with
        ibi :=
          { s.ibi with
            sent :=
              (replyMessage { result := .noReply, tag := 0, caps := [] } ++ List.replicate n 0xFF#8).take n
            stretch := none } }
  (∀ (n : Nat) (s : State),
    ((∀ lane, s.ibi.state ≠ .slaveTx lane) → exec (.replyRead n) s = .next s)
    ∧ ∀ lane, s.ibi.state = .slaveTx lane →
      ((∃ x ∈ s.ibi.inProcess, x.lane = lane ∧ x.discarded = false) →
        exec (.replyRead n) s = .next { s with ibi := { s.ibi with stretch := some n, sent := [] } })
      ∧ ((∀ x ∈ s.ibi.inProcess, x.lane = lane → x.discarded = true) →
        exec (.replyRead n) s = .next (read lane n s)))
  ∧ (∀ (lane : Fin 8) (r : Reply) (s : State),
    let placed := s.setLane lane { s.lane lane with reply := some r }
    (∀ n, s.ibi.state = .slaveTx lane → s.ibi.stretch = some n → placeReply lane r s = read lane n placed)
    ∧ ((s.ibi.state ≠ .slaveTx lane ∨ s.ibi.stretch = none) → placeReply lane r s = placed))
  ∧ (∀ (before after : List InProcess) (s : State),
    (∀ x ∈ before, x.message = .malformed) → (∀ x, after.head? = some x → x.message ≠ .malformed) →
    goOnWith (before ++ after) s =
      { before.foldl
          (fun t x =>
            if x.discarded then t else placeReply x.lane { result := .format, tag := 0, caps := [] } t) s with
        ibi :=
          { (before.foldl
              (fun t x =>
                if x.discarded then t else placeReply x.lane { result := .format, tag := 0, caps := [] } t) s).ibi with
            inProcess := after } })
  ∧ (∀ (lane : Fin 8) (m : LaneMessage) (x : InProcess) (rest : List InProcess) (s : State),
    s.ibi.inProcess = x :: rest → (x.lane ≠ lane ∨ x.message ≠ m) →
    (∀ tag, m = .cancel tag → exec (.cancel lane tag) s = .next s)
    ∧ ∀ request, m = .auth request → exec (.authRequest lane request) s = .next s)
  ∧ ∀ (lane : Fin 8) (rest : List InProcess) (s : State),
    (∀ tag, s.ibi.inProcess = { lane := lane, message := .cancel tag, discarded := true } :: rest →
      ∃ (t : State) (answer : Reply),
        exec (.cancel lane tag) s = .next t
        ∧ exec (.cancel lane tag)
            { s with ibi := { s.ibi with inProcess := { lane := lane, message := .cancel tag, discarded := false } :: rest } }
          = .next (placeReply lane answer t))
    ∧ ∀ request, s.ibi.inProcess = { lane := lane, message := .auth request, discarded := true } :: rest →
      ∃ (t : State) (answer : Reply),
        exec (.authRequest lane request) s = .next t
        ∧ exec (.authRequest lane request)
            { s with
              ibi := { s.ibi with inProcess := { lane := lane, message := .auth request, discarded := false } :: rest } }
          = .next (placeReply lane answer t)

/-- The notices and their transfers (R176 to R182). A notice joins its queue, a full one losing its oldest with the
count and the wait. On a FREE bus the general-call notice goes first, else the head notice of the first lane, in cyclic
order after the lane served last, that has one and is not waiting. A lane transfer ends at the first NAK or after its
last byte, a general call after its last byte. At the STOP a delivered head leaves, a NAK counts and starts the wait, the
third NAK removes the head and raises TERMINAL_SILENT; a notice no longer in its place changes nothing there. A lost
arbitration keeps the notice and sends nothing more of it. That a transfer end or a loss in another bus state changes
nothing (notes/assumptions/6.md) and the output log `sent` (notes/assumptions/16.md) are the model's choices. -/
def Obligations.NoticesAreSentInTurn : Prop :=
  (∀ (n : Fin 8) (x : Notice) (s : State),
    ((s.lane n).notices.length < 2 →
      queueNotice n x s = s.setLane n { s.lane n with notices := (s.lane n).notices ++ [x] })
    ∧ (2 ≤ (s.lane n).notices.length →
      (∀ c, s.ibi.state ≠ .masterTx (.lane n c)) →
      queueNotice n x s =
        s.setLane n { s.lane n with notices := (s.lane n).notices.tail ++ [x], attempts := 0, retryWait := false })
    ∧ ∀ c, 2 ≤ (s.lane n).notices.length → s.ibi.state = .masterTx (.lane n c) →
      queueNotice n x s =
        { s with ibi := { s.ibi with state := .masterTx (.lane n false) } }.setLane n
          { s.lane n with notices := (s.lane n).notices.tail ++ [x], attempts := 0, retryWait := false })
  ∧ (∀ s : State,
    let start (transfer : Transfer) (bytes : List Byte) : State :=
      { s with
        ibi :=
          { s.ibi with
            state := .masterTx transfer
            stuckTimer := s.ibi.stuckTimer || !s.ibi.busy
            busy := true
            outgoing := bytes
            sent := [] } }
    let lost (complete : Nat) : IslandBus := { s.ibi with sent := s.ibi.outgoing.take complete, outgoing := [] }
    (s.ibi.state ≠ .free → exec .noticeTransferStart s = .next s)
    ∧ (∀ x, s.ibi.state = .free → s.ibi.general = some x →
        exec .noticeTransferStart s = .next (start (.general true) (0#8 :: siteNoticeMessage x)))
    ∧ (∀ (d : Fin 8) x rest, s.ibi.state = .free → s.ibi.general = none →
        (s.lane (s.ibi.lastServed + 1 + d)).retryWait = false →
        (s.lane (s.ibi.lastServed + 1 + d)).notices = x :: rest →
        (∀ e, e < d →
          (s.lane (s.ibi.lastServed + 1 + e)).notices = [] ∨ (s.lane (s.ibi.lastServed + 1 + e)).retryWait = true) →
        exec .noticeTransferStart s = .next
          (start (.lane (s.ibi.lastServed + 1 + d) true)
            (BitVec.ofNat 8 (0x60 + 2 * (s.ibi.lastServed + 1 + d).val) :: noticeMessage x)))
    ∧ (s.ibi.general = none → (∀ n, (s.lane n).notices = [] ∨ (s.lane n).retryWait = true) →
        exec .noticeTransferStart s = .next s)
    ∧ (∀ loss, (∀ x, s.ibi.state ≠ .masterTx x) → exec (.arbitrationLoss loss) s = .next s)
    ∧ (∀ x complete, s.ibi.state = .masterTx x →
        exec (.arbitrationLoss (.data complete)) s = .next
          { s with ibi := { lost (complete + 1) with state := .busyOther false } })
    ∧ (∀ (x : Transfer) (b : Byte), s.ibi.state = .masterTx x →
        exec (.arbitrationLoss (.address b)) s
          = exec (.addressByte b) { s with ibi := { lost 0 with state := .busyOther true } })
    ∧ ((∀ c, s.ibi.state ≠ .masterTx (.general c)) → exec .generalCallTransferEnd s = .next s)
    ∧ (∀ c, s.ibi.state = .masterTx (.general c) →
        exec .generalCallTransferEnd s = .next
          { s with
            ibi :=
              { s.ibi with
                state := .free
                busy := false
                stuckTimer := false
                stretch := none
                general := if c then none else s.ibi.general
                outgoing := []
                sent := s.ibi.outgoing } }))
  ∧ (∀ (n : Fin 8) (s : State),
    exec (.retryWaitEnd n) s = .next (s.setLane n { s.lane n with retryWait := false }))
  ∧ ∀ (nak : Option Nat) (s : State),
    ((∀ n c, s.ibi.state ≠ .masterTx (.lane n c)) → exec (.laneNoticeTransferEnd nak) s = .next s)
    ∧ ∀ n c, s.ibi.state = .masterTx (.lane n c) →
      let free :=
        { s with
          ibi :=
            { s.ibi with
              state := .free
              busy := false
              stuckTimer := false
              stretch := none
              lastServed := n
              outgoing := []
              sent :=
                match nak with
                | none => s.ibi.outgoing
                | some k => s.ibi.outgoing.take (k + 1) } }
      (c = false → exec (.laneNoticeTransferEnd nak) s = .next free)
      ∧ (c = true → nak = none →
        exec (.laneNoticeTransferEnd nak) s = .next
          (free.setLane n
            { s.lane n with notices := (s.lane n).notices.tail, attempts := 0, retryWait := false }))
      ∧ (c = true → nak ≠ none → (s.lane n).attempts < 2 →
        exec (.laneNoticeTransferEnd nak) s = .next
          (free.setLane n { s.lane n with attempts := (s.lane n).attempts + 1, retryWait := true }))
      ∧ (c = true → nak ≠ none → 2 ≤ (s.lane n).attempts →
        exec (.laneNoticeTransferEnd nak) s = .next
          ({ free with au := { s.au with terminalSilent := s.au.terminalSilent ||| (1#8 <<< n.val) } }.setLane n
            { s.lane n with notices := (s.lane n).notices.tail, attempts := 0, retryWait := true }))

/-! ### Reset -/

/-- RESET from any state (R35, R36, R42, R45, R46, R58, R85, R99, R123, R134, R152, R163, R186, R198, R201, R210): what
each block holds after it, the site HALTED where ESTOP is then asserted; and in the state right after power-on every law
holds. A selection in which SCS is still low is ignored to its end (R201). That the nozzle, phase and ESTOP pins outlast
a reset, and their levels and the point fields the manual gives no reset value at power-on, are the model's choice
(notes/assumptions/2.md). -/
def Obligations.ResetRestores : Prop :=
  (∀ s : State, ∃ t, exec .reset s = .next t
    ∧ (∀ i, t.grantAt i = none) ∧ t.gm.pendingTags = [] ∧ t.gm.settledTags = [] ∧ t.gm.tagCounter = 0
    ∧ t.su.programs = [] ∧ t.su.denied = [] ∧ (∀ k, t.su.entryAt k = none) ∧ t.su.link = .online ∧ t.su.date = none
    ∧ (∀ p,
        (t.point p).config = none ∧ (t.point p).state = .disabled ∧ (t.point p).stageDuty = 0
        ∧ (t.point p).dutyInForce = 0 ∧ (t.point p).tag = none ∧ (t.point p).noFlow = .stopped
        ∧ (t.point p).settleLeft = 0 ∧ (t.point p).creep = 0 ∧ (t.point p).forward = 0 ∧ (t.point p).reverse = 0
        ∧ (t.point p).errors = 0 ∧ (t.point p).latchForward = 0 ∧ (t.point p).latchReverse = 0
        ∧ (t.point p).latchErrors = 0)
    ∧ (∀ l, t.line l =
        { config := none, price := 0, state := .unconfigured, pump := .off, delayMet := false,
          startTimer := .stopped, runOnTimer := .stopped, requesting := 0 })
    ∧ (∀ l, t.probe l =
        { state := .absent, temperature := 150, offset := -500, span := 1500, hold := .stopped, reported := false,
          inRotation := false })
    ∧ t.tu.converting = none ∧ t.tu.lastServed = 3
    ∧ t.ss = { site := if s.pins.estop then .halted else .running, estop := s.pins.estop }
    ∧ t.ibi.state = .free ∧ t.ibi.busy = false ∧ t.ibi.stuckTimer = false ∧ t.ibi.received = []
    ∧ t.ibi.stretch = none ∧ t.ibi.general = none ∧ t.ibi.lastServed = 7
    ∧ (∀ n, t.lane n = { reply := none, notices := [], attempts := 0, retryWait := false })
    ∧ t.ibi.inProcess = [] ∧ t.ibi.outgoing = []
    ∧ t.cp.selection = (if s.cp.selection = .released then .released else .ignored)
    ∧ t.cp.state = .ready ∧ t.cp.received = [] ∧ t.cp.held = none ∧ t.cp.answer = none ∧ t.cp.response = none
    ∧ t.cp.collision = false
    ∧ t.cp.timers =
      { decision := 110, lift := 192, noFlow := 150, idleEnd := 120, hold := 210, probeHold := 30, settle := 10 }
    ∧ t.au =
      { pointFault := 0, probeFault := 0, lineLockout := 0, haltComplete := false, busFault := false,
        terminalSilent := 0, tallyFull := false, mask := 0x1FF#9 }
    ∧ t.pins = s.pins ∧ t.draws = s.draws ∧ t.pending = s.pending)
  ∧ DeliveryLaw State.reset ∧ PumpLaw State.reset ∧ BoundLaw State.reset ∧ TableLaw State.reset
  ∧ MeterLaw State.reset

/-! ### What every step keeps -/

/-- Every step keeps the valve law: no duty outside FLOWING and SLOWING, and every point that primes or delivers has its
nozzle lifted, its line not LOCKED_OUT and the site RUNNING (R71, R82, R83, R98, R154). -/
def Obligations.StepKeepsValveLaw : Prop :=
  ∀ s t : State, ValveLaw s → step s = .next t → ValveLaw t

/-- Every step keeps the pump law: a relay is energized only on an AVAILABLE line of a RUNNING site, and each pump state
has its requesting set, mark and timer (R94 to R97). -/
def Obligations.StepKeepsPumpLaw : Prop :=
  ∀ s t : State, PumpLaw s → step s = .next t → PumpLaw t

/-- Every step keeps the bounds of the counters, windows, creep counts, notice queues and settings and the form of the
probes (R79, R101, R109, R124, R127, R147, R176, R199), and the law of the program table, the deny set and the stand-in
tally (R36, R42, R53, R58, R59). -/
def Obligations.StepKeepsBoundAndTableLaws : Prop :=
  (∀ s t : State, BoundLaw s → step s = .next t → BoundLaw t)
  ∧ ∀ s t : State, TableLaw s → step s = .next t → TableLaw t

/-- Every step keeps the law of the grant table: distinct tags in 1 to 255, one live grant a lane, the pending queue
exactly the unserved PENDING grants, the settled queue exactly the SETTLED ones (R2 to R6). -/
def Obligations.StepKeepsGrantLaw : Prop :=
  ∀ s t : State, GrantLaw s → step s = .next t → GrantLaw t

/-- Every step keeps the law of attachment and delivery: a point delivers or primes only for a FUELING grant that has it
attached and whose allowance of its line is OPEN, and attachment is one thing seen from both sides (R18, R26, R30, R68,
R83, R84). -/
def Obligations.StepKeepsDeliveryLaw : Prop :=
  ∀ s t : State, DeliveryLaw s → step s = .next t → DeliveryLaw t

/-- Every step keeps the metering law: every record's volumes follow from its totals and every allowance's volume,
amount and residual from its records (R106, R107, R111, R113, R116). -/
def Obligations.StepKeepsMeterLaw : Prop :=
  ∀ s t : State, MeterLaw s → step s = .next t → MeterLaw t
end

