-- ==== Sys2Proof/Laws/State.lean ====
section
/-! SUPPORT. One lemma per field per update of State, and one per table read, so that no later proof unfolds a record
update: what an update does not touch reads as before, what it sets reads as set. -/

namespace Sys2Proof.Machine

/-! ### State.setPoint -/

@[simp] theorem setPoint_gm (s : State) (p : Fin 32) (x : Point) : (s.setPoint p x).gm = s.gm := rfl
@[simp] theorem setPoint_su (s : State) (p : Fin 32) (x : Point) : (s.setPoint p x).su = s.su := rfl
@[simp] theorem setPoint_lines (s : State) (p : Fin 32) (x : Point) : (s.setPoint p x).lines = s.lines := rfl
@[simp] theorem setPoint_tu (s : State) (p : Fin 32) (x : Point) : (s.setPoint p x).tu = s.tu := rfl
@[simp] theorem setPoint_ss (s : State) (p : Fin 32) (x : Point) : (s.setPoint p x).ss = s.ss := rfl
@[simp] theorem setPoint_ibi (s : State) (p : Fin 32) (x : Point) : (s.setPoint p x).ibi = s.ibi := rfl
@[simp] theorem setPoint_cp (s : State) (p : Fin 32) (x : Point) : (s.setPoint p x).cp = s.cp := rfl
@[simp] theorem setPoint_au (s : State) (p : Fin 32) (x : Point) : (s.setPoint p x).au = s.au := rfl
@[simp] theorem setPoint_pins (s : State) (p : Fin 32) (x : Point) : (s.setPoint p x).pins = s.pins := rfl
@[simp] theorem setPoint_draws (s : State) (p : Fin 32) (x : Point) : (s.setPoint p x).draws = s.draws := rfl
@[simp] theorem setPoint_pending (s : State) (p : Fin 32) (x : Point) : (s.setPoint p x).pending = s.pending := rfl
@[simp] theorem setPoint_line (s : State) (p : Fin 32) (x : Point) (l' : Fin 4) : (s.setPoint p x).line l' = s.line l' := rfl
@[simp] theorem setPoint_probe (s : State) (p : Fin 32) (x : Point) (l' : Fin 4) : (s.setPoint p x).probe l' = s.probe l' := rfl
@[simp] theorem setPoint_lane (s : State) (p : Fin 32) (x : Point) (n' : Fin 8) : (s.setPoint p x).lane n' = s.lane n' := rfl
@[simp] theorem setPoint_grantAt (s : State) (p : Fin 32) (x : Point) (i' : Fin 24) : (s.setPoint p x).grantAt i' = s.grantAt i' := rfl

/-! ### State.setLine -/

@[simp] theorem setLine_gm (s : State) (l : Fin 4) (x : Line) : (s.setLine l x).gm = s.gm := rfl
@[simp] theorem setLine_su (s : State) (l : Fin 4) (x : Line) : (s.setLine l x).su = s.su := rfl
@[simp] theorem setLine_points (s : State) (l : Fin 4) (x : Line) : (s.setLine l x).points = s.points := rfl
@[simp] theorem setLine_tu (s : State) (l : Fin 4) (x : Line) : (s.setLine l x).tu = s.tu := rfl
@[simp] theorem setLine_ss (s : State) (l : Fin 4) (x : Line) : (s.setLine l x).ss = s.ss := rfl
@[simp] theorem setLine_ibi (s : State) (l : Fin 4) (x : Line) : (s.setLine l x).ibi = s.ibi := rfl
@[simp] theorem setLine_cp (s : State) (l : Fin 4) (x : Line) : (s.setLine l x).cp = s.cp := rfl
@[simp] theorem setLine_au (s : State) (l : Fin 4) (x : Line) : (s.setLine l x).au = s.au := rfl
@[simp] theorem setLine_pins (s : State) (l : Fin 4) (x : Line) : (s.setLine l x).pins = s.pins := rfl
@[simp] theorem setLine_draws (s : State) (l : Fin 4) (x : Line) : (s.setLine l x).draws = s.draws := rfl
@[simp] theorem setLine_pending (s : State) (l : Fin 4) (x : Line) : (s.setLine l x).pending = s.pending := rfl
@[simp] theorem setLine_point (s : State) (l : Fin 4) (x : Line) (p' : Fin 32) : (s.setLine l x).point p' = s.point p' := rfl
@[simp] theorem setLine_probe (s : State) (l : Fin 4) (x : Line) (l' : Fin 4) : (s.setLine l x).probe l' = s.probe l' := rfl
@[simp] theorem setLine_lane (s : State) (l : Fin 4) (x : Line) (n' : Fin 8) : (s.setLine l x).lane n' = s.lane n' := rfl
@[simp] theorem setLine_grantAt (s : State) (l : Fin 4) (x : Line) (i' : Fin 24) : (s.setLine l x).grantAt i' = s.grantAt i' := rfl

/-! ### State.setProbe -/

@[simp] theorem setProbe_gm (s : State) (l : Fin 4) (x : Probe) : (s.setProbe l x).gm = s.gm := rfl
@[simp] theorem setProbe_su (s : State) (l : Fin 4) (x : Probe) : (s.setProbe l x).su = s.su := rfl
@[simp] theorem setProbe_points (s : State) (l : Fin 4) (x : Probe) : (s.setProbe l x).points = s.points := rfl
@[simp] theorem setProbe_lines (s : State) (l : Fin 4) (x : Probe) : (s.setProbe l x).lines = s.lines := rfl
@[simp] theorem setProbe_ss (s : State) (l : Fin 4) (x : Probe) : (s.setProbe l x).ss = s.ss := rfl
@[simp] theorem setProbe_ibi (s : State) (l : Fin 4) (x : Probe) : (s.setProbe l x).ibi = s.ibi := rfl
@[simp] theorem setProbe_cp (s : State) (l : Fin 4) (x : Probe) : (s.setProbe l x).cp = s.cp := rfl
@[simp] theorem setProbe_au (s : State) (l : Fin 4) (x : Probe) : (s.setProbe l x).au = s.au := rfl
@[simp] theorem setProbe_pins (s : State) (l : Fin 4) (x : Probe) : (s.setProbe l x).pins = s.pins := rfl
@[simp] theorem setProbe_draws (s : State) (l : Fin 4) (x : Probe) : (s.setProbe l x).draws = s.draws := rfl
@[simp] theorem setProbe_pending (s : State) (l : Fin 4) (x : Probe) : (s.setProbe l x).pending = s.pending := rfl
@[simp] theorem setProbe_point (s : State) (l : Fin 4) (x : Probe) (p' : Fin 32) : (s.setProbe l x).point p' = s.point p' := rfl
@[simp] theorem setProbe_line (s : State) (l : Fin 4) (x : Probe) (l' : Fin 4) : (s.setProbe l x).line l' = s.line l' := rfl
@[simp] theorem setProbe_lane (s : State) (l : Fin 4) (x : Probe) (n' : Fin 8) : (s.setProbe l x).lane n' = s.lane n' := rfl
@[simp] theorem setProbe_grantAt (s : State) (l : Fin 4) (x : Probe) (i' : Fin 24) : (s.setProbe l x).grantAt i' = s.grantAt i' := rfl

/-! ### State.setLane -/

@[simp] theorem setLane_gm (s : State) (n : Fin 8) (x : Lane) : (s.setLane n x).gm = s.gm := rfl
@[simp] theorem setLane_su (s : State) (n : Fin 8) (x : Lane) : (s.setLane n x).su = s.su := rfl
@[simp] theorem setLane_points (s : State) (n : Fin 8) (x : Lane) : (s.setLane n x).points = s.points := rfl
@[simp] theorem setLane_lines (s : State) (n : Fin 8) (x : Lane) : (s.setLane n x).lines = s.lines := rfl
@[simp] theorem setLane_tu (s : State) (n : Fin 8) (x : Lane) : (s.setLane n x).tu = s.tu := rfl
@[simp] theorem setLane_ss (s : State) (n : Fin 8) (x : Lane) : (s.setLane n x).ss = s.ss := rfl
@[simp] theorem setLane_cp (s : State) (n : Fin 8) (x : Lane) : (s.setLane n x).cp = s.cp := rfl
@[simp] theorem setLane_au (s : State) (n : Fin 8) (x : Lane) : (s.setLane n x).au = s.au := rfl
@[simp] theorem setLane_pins (s : State) (n : Fin 8) (x : Lane) : (s.setLane n x).pins = s.pins := rfl
@[simp] theorem setLane_draws (s : State) (n : Fin 8) (x : Lane) : (s.setLane n x).draws = s.draws := rfl
@[simp] theorem setLane_pending (s : State) (n : Fin 8) (x : Lane) : (s.setLane n x).pending = s.pending := rfl
@[simp] theorem setLane_point (s : State) (n : Fin 8) (x : Lane) (p' : Fin 32) : (s.setLane n x).point p' = s.point p' := rfl
@[simp] theorem setLane_line (s : State) (n : Fin 8) (x : Lane) (l' : Fin 4) : (s.setLane n x).line l' = s.line l' := rfl
@[simp] theorem setLane_probe (s : State) (n : Fin 8) (x : Lane) (l' : Fin 4) : (s.setLane n x).probe l' = s.probe l' := rfl
@[simp] theorem setLane_grantAt (s : State) (n : Fin 8) (x : Lane) (i' : Fin 24) : (s.setLane n x).grantAt i' = s.grantAt i' := rfl

/-! ### State.setSlot -/

@[simp] theorem setSlot_su (s : State) (i : Fin 24) (x : Option Grant) : (s.setSlot i x).su = s.su := rfl
@[simp] theorem setSlot_points (s : State) (i : Fin 24) (x : Option Grant) : (s.setSlot i x).points = s.points := rfl
@[simp] theorem setSlot_lines (s : State) (i : Fin 24) (x : Option Grant) : (s.setSlot i x).lines = s.lines := rfl
@[simp] theorem setSlot_tu (s : State) (i : Fin 24) (x : Option Grant) : (s.setSlot i x).tu = s.tu := rfl
@[simp] theorem setSlot_ss (s : State) (i : Fin 24) (x : Option Grant) : (s.setSlot i x).ss = s.ss := rfl
@[simp] theorem setSlot_ibi (s : State) (i : Fin 24) (x : Option Grant) : (s.setSlot i x).ibi = s.ibi := rfl
@[simp] theorem setSlot_cp (s : State) (i : Fin 24) (x : Option Grant) : (s.setSlot i x).cp = s.cp := rfl
@[simp] theorem setSlot_au (s : State) (i : Fin 24) (x : Option Grant) : (s.setSlot i x).au = s.au := rfl
@[simp] theorem setSlot_pins (s : State) (i : Fin 24) (x : Option Grant) : (s.setSlot i x).pins = s.pins := rfl
@[simp] theorem setSlot_draws (s : State) (i : Fin 24) (x : Option Grant) : (s.setSlot i x).draws = s.draws := rfl
@[simp] theorem setSlot_pending (s : State) (i : Fin 24) (x : Option Grant) : (s.setSlot i x).pending = s.pending := rfl
@[simp] theorem setSlot_point (s : State) (i : Fin 24) (x : Option Grant) (p' : Fin 32) : (s.setSlot i x).point p' = s.point p' := rfl
@[simp] theorem setSlot_line (s : State) (i : Fin 24) (x : Option Grant) (l' : Fin 4) : (s.setSlot i x).line l' = s.line l' := rfl
@[simp] theorem setSlot_probe (s : State) (i : Fin 24) (x : Option Grant) (l' : Fin 4) : (s.setSlot i x).probe l' = s.probe l' := rfl
@[simp] theorem setSlot_lane (s : State) (i : Fin 24) (x : Option Grant) (n' : Fin 8) : (s.setSlot i x).lane n' = s.lane n' := rfl

/-! ### State.modGrant -/

@[simp] theorem modGrant_su (s : State) (i : Fin 24) (f : Grant → Grant) : (s.modGrant i f).su = s.su := rfl
@[simp] theorem modGrant_points (s : State) (i : Fin 24) (f : Grant → Grant) : (s.modGrant i f).points = s.points := rfl
@[simp] theorem modGrant_lines (s : State) (i : Fin 24) (f : Grant → Grant) : (s.modGrant i f).lines = s.lines := rfl
@[simp] theorem modGrant_tu (s : State) (i : Fin 24) (f : Grant → Grant) : (s.modGrant i f).tu = s.tu := rfl
@[simp] theorem modGrant_ss (s : State) (i : Fin 24) (f : Grant → Grant) : (s.modGrant i f).ss = s.ss := rfl
@[simp] theorem modGrant_ibi (s : State) (i : Fin 24) (f : Grant → Grant) : (s.modGrant i f).ibi = s.ibi := rfl
@[simp] theorem modGrant_cp (s : State) (i : Fin 24) (f : Grant → Grant) : (s.modGrant i f).cp = s.cp := rfl
@[simp] theorem modGrant_au (s : State) (i : Fin 24) (f : Grant → Grant) : (s.modGrant i f).au = s.au := rfl
@[simp] theorem modGrant_pins (s : State) (i : Fin 24) (f : Grant → Grant) : (s.modGrant i f).pins = s.pins := rfl
@[simp] theorem modGrant_draws (s : State) (i : Fin 24) (f : Grant → Grant) : (s.modGrant i f).draws = s.draws := rfl
@[simp] theorem modGrant_pending (s : State) (i : Fin 24) (f : Grant → Grant) : (s.modGrant i f).pending = s.pending := rfl
@[simp] theorem modGrant_point (s : State) (i : Fin 24) (f : Grant → Grant) (p' : Fin 32) : (s.modGrant i f).point p' = s.point p' := rfl
@[simp] theorem modGrant_line (s : State) (i : Fin 24) (f : Grant → Grant) (l' : Fin 4) : (s.modGrant i f).line l' = s.line l' := rfl
@[simp] theorem modGrant_probe (s : State) (i : Fin 24) (f : Grant → Grant) (l' : Fin 4) : (s.modGrant i f).probe l' = s.probe l' := rfl
@[simp] theorem modGrant_lane (s : State) (i : Fin 24) (f : Grant → Grant) (n' : Fin 8) : (s.modGrant i f).lane n' = s.lane n' := rfl

/-! ### State.modGm -/

@[simp] theorem modGm_su (s : State) (f : GrantManager → GrantManager) : (s.modGm f).su = s.su := rfl
@[simp] theorem modGm_points (s : State) (f : GrantManager → GrantManager) : (s.modGm f).points = s.points := rfl
@[simp] theorem modGm_lines (s : State) (f : GrantManager → GrantManager) : (s.modGm f).lines = s.lines := rfl
@[simp] theorem modGm_tu (s : State) (f : GrantManager → GrantManager) : (s.modGm f).tu = s.tu := rfl
@[simp] theorem modGm_ss (s : State) (f : GrantManager → GrantManager) : (s.modGm f).ss = s.ss := rfl
@[simp] theorem modGm_ibi (s : State) (f : GrantManager → GrantManager) : (s.modGm f).ibi = s.ibi := rfl
@[simp] theorem modGm_cp (s : State) (f : GrantManager → GrantManager) : (s.modGm f).cp = s.cp := rfl
@[simp] theorem modGm_au (s : State) (f : GrantManager → GrantManager) : (s.modGm f).au = s.au := rfl
@[simp] theorem modGm_pins (s : State) (f : GrantManager → GrantManager) : (s.modGm f).pins = s.pins := rfl
@[simp] theorem modGm_draws (s : State) (f : GrantManager → GrantManager) : (s.modGm f).draws = s.draws := rfl
@[simp] theorem modGm_pending (s : State) (f : GrantManager → GrantManager) : (s.modGm f).pending = s.pending := rfl
@[simp] theorem modGm_point (s : State) (f : GrantManager → GrantManager) (p' : Fin 32) : (s.modGm f).point p' = s.point p' := rfl
@[simp] theorem modGm_line (s : State) (f : GrantManager → GrantManager) (l' : Fin 4) : (s.modGm f).line l' = s.line l' := rfl
@[simp] theorem modGm_probe (s : State) (f : GrantManager → GrantManager) (l' : Fin 4) : (s.modGm f).probe l' = s.probe l' := rfl
@[simp] theorem modGm_lane (s : State) (f : GrantManager → GrantManager) (n' : Fin 8) : (s.modGm f).lane n' = s.lane n' := rfl

/-! ### State.modSu -/

@[simp] theorem modSu_gm (s : State) (f : ScreeningUnit → ScreeningUnit) : (s.modSu f).gm = s.gm := rfl
@[simp] theorem modSu_points (s : State) (f : ScreeningUnit → ScreeningUnit) : (s.modSu f).points = s.points := rfl
@[simp] theorem modSu_lines (s : State) (f : ScreeningUnit → ScreeningUnit) : (s.modSu f).lines = s.lines := rfl
@[simp] theorem modSu_tu (s : State) (f : ScreeningUnit → ScreeningUnit) : (s.modSu f).tu = s.tu := rfl
@[simp] theorem modSu_ss (s : State) (f : ScreeningUnit → ScreeningUnit) : (s.modSu f).ss = s.ss := rfl
@[simp] theorem modSu_ibi (s : State) (f : ScreeningUnit → ScreeningUnit) : (s.modSu f).ibi = s.ibi := rfl
@[simp] theorem modSu_cp (s : State) (f : ScreeningUnit → ScreeningUnit) : (s.modSu f).cp = s.cp := rfl
@[simp] theorem modSu_au (s : State) (f : ScreeningUnit → ScreeningUnit) : (s.modSu f).au = s.au := rfl
@[simp] theorem modSu_pins (s : State) (f : ScreeningUnit → ScreeningUnit) : (s.modSu f).pins = s.pins := rfl
@[simp] theorem modSu_draws (s : State) (f : ScreeningUnit → ScreeningUnit) : (s.modSu f).draws = s.draws := rfl
@[simp] theorem modSu_pending (s : State) (f : ScreeningUnit → ScreeningUnit) : (s.modSu f).pending = s.pending := rfl
@[simp] theorem modSu_point (s : State) (f : ScreeningUnit → ScreeningUnit) (p' : Fin 32) : (s.modSu f).point p' = s.point p' := rfl
@[simp] theorem modSu_line (s : State) (f : ScreeningUnit → ScreeningUnit) (l' : Fin 4) : (s.modSu f).line l' = s.line l' := rfl
@[simp] theorem modSu_probe (s : State) (f : ScreeningUnit → ScreeningUnit) (l' : Fin 4) : (s.modSu f).probe l' = s.probe l' := rfl
@[simp] theorem modSu_lane (s : State) (f : ScreeningUnit → ScreeningUnit) (n' : Fin 8) : (s.modSu f).lane n' = s.lane n' := rfl
@[simp] theorem modSu_grantAt (s : State) (f : ScreeningUnit → ScreeningUnit) (i' : Fin 24) : (s.modSu f).grantAt i' = s.grantAt i' := rfl

/-! ### State.modIbi -/

@[simp] theorem modIbi_gm (s : State) (f : IslandBus → IslandBus) : (s.modIbi f).gm = s.gm := rfl
@[simp] theorem modIbi_su (s : State) (f : IslandBus → IslandBus) : (s.modIbi f).su = s.su := rfl
@[simp] theorem modIbi_points (s : State) (f : IslandBus → IslandBus) : (s.modIbi f).points = s.points := rfl
@[simp] theorem modIbi_lines (s : State) (f : IslandBus → IslandBus) : (s.modIbi f).lines = s.lines := rfl
@[simp] theorem modIbi_tu (s : State) (f : IslandBus → IslandBus) : (s.modIbi f).tu = s.tu := rfl
@[simp] theorem modIbi_ss (s : State) (f : IslandBus → IslandBus) : (s.modIbi f).ss = s.ss := rfl
@[simp] theorem modIbi_cp (s : State) (f : IslandBus → IslandBus) : (s.modIbi f).cp = s.cp := rfl
@[simp] theorem modIbi_au (s : State) (f : IslandBus → IslandBus) : (s.modIbi f).au = s.au := rfl
@[simp] theorem modIbi_pins (s : State) (f : IslandBus → IslandBus) : (s.modIbi f).pins = s.pins := rfl
@[simp] theorem modIbi_draws (s : State) (f : IslandBus → IslandBus) : (s.modIbi f).draws = s.draws := rfl
@[simp] theorem modIbi_pending (s : State) (f : IslandBus → IslandBus) : (s.modIbi f).pending = s.pending := rfl
@[simp] theorem modIbi_point (s : State) (f : IslandBus → IslandBus) (p' : Fin 32) : (s.modIbi f).point p' = s.point p' := rfl
@[simp] theorem modIbi_line (s : State) (f : IslandBus → IslandBus) (l' : Fin 4) : (s.modIbi f).line l' = s.line l' := rfl
@[simp] theorem modIbi_probe (s : State) (f : IslandBus → IslandBus) (l' : Fin 4) : (s.modIbi f).probe l' = s.probe l' := rfl
@[simp] theorem modIbi_grantAt (s : State) (f : IslandBus → IslandBus) (i' : Fin 24) : (s.modIbi f).grantAt i' = s.grantAt i' := rfl

/-! ### State.modTu -/

@[simp] theorem modTu_gm (s : State) (f : TemperatureUnit → TemperatureUnit) : (s.modTu f).gm = s.gm := rfl
@[simp] theorem modTu_su (s : State) (f : TemperatureUnit → TemperatureUnit) : (s.modTu f).su = s.su := rfl
@[simp] theorem modTu_points (s : State) (f : TemperatureUnit → TemperatureUnit) : (s.modTu f).points = s.points := rfl
@[simp] theorem modTu_lines (s : State) (f : TemperatureUnit → TemperatureUnit) : (s.modTu f).lines = s.lines := rfl
@[simp] theorem modTu_ss (s : State) (f : TemperatureUnit → TemperatureUnit) : (s.modTu f).ss = s.ss := rfl
@[simp] theorem modTu_ibi (s : State) (f : TemperatureUnit → TemperatureUnit) : (s.modTu f).ibi = s.ibi := rfl
@[simp] theorem modTu_cp (s : State) (f : TemperatureUnit → TemperatureUnit) : (s.modTu f).cp = s.cp := rfl
@[simp] theorem modTu_au (s : State) (f : TemperatureUnit → TemperatureUnit) : (s.modTu f).au = s.au := rfl
@[simp] theorem modTu_pins (s : State) (f : TemperatureUnit → TemperatureUnit) : (s.modTu f).pins = s.pins := rfl
@[simp] theorem modTu_draws (s : State) (f : TemperatureUnit → TemperatureUnit) : (s.modTu f).draws = s.draws := rfl
@[simp] theorem modTu_pending (s : State) (f : TemperatureUnit → TemperatureUnit) : (s.modTu f).pending = s.pending := rfl
@[simp] theorem modTu_point (s : State) (f : TemperatureUnit → TemperatureUnit) (p' : Fin 32) : (s.modTu f).point p' = s.point p' := rfl
@[simp] theorem modTu_line (s : State) (f : TemperatureUnit → TemperatureUnit) (l' : Fin 4) : (s.modTu f).line l' = s.line l' := rfl
@[simp] theorem modTu_lane (s : State) (f : TemperatureUnit → TemperatureUnit) (n' : Fin 8) : (s.modTu f).lane n' = s.lane n' := rfl
@[simp] theorem modTu_grantAt (s : State) (f : TemperatureUnit → TemperatureUnit) (i' : Fin 24) : (s.modTu f).grantAt i' = s.grantAt i' := rfl

/-! ### State.modCp -/

@[simp] theorem modCp_gm (s : State) (f : ControllerPort → ControllerPort) : (s.modCp f).gm = s.gm := rfl
@[simp] theorem modCp_su (s : State) (f : ControllerPort → ControllerPort) : (s.modCp f).su = s.su := rfl
@[simp] theorem modCp_points (s : State) (f : ControllerPort → ControllerPort) : (s.modCp f).points = s.points := rfl
@[simp] theorem modCp_lines (s : State) (f : ControllerPort → ControllerPort) : (s.modCp f).lines = s.lines := rfl
@[simp] theorem modCp_tu (s : State) (f : ControllerPort → ControllerPort) : (s.modCp f).tu = s.tu := rfl
@[simp] theorem modCp_ss (s : State) (f : ControllerPort → ControllerPort) : (s.modCp f).ss = s.ss := rfl
@[simp] theorem modCp_ibi (s : State) (f : ControllerPort → ControllerPort) : (s.modCp f).ibi = s.ibi := rfl
@[simp] theorem modCp_au (s : State) (f : ControllerPort → ControllerPort) : (s.modCp f).au = s.au := rfl
@[simp] theorem modCp_pins (s : State) (f : ControllerPort → ControllerPort) : (s.modCp f).pins = s.pins := rfl
@[simp] theorem modCp_draws (s : State) (f : ControllerPort → ControllerPort) : (s.modCp f).draws = s.draws := rfl
@[simp] theorem modCp_pending (s : State) (f : ControllerPort → ControllerPort) : (s.modCp f).pending = s.pending := rfl
@[simp] theorem modCp_point (s : State) (f : ControllerPort → ControllerPort) (p' : Fin 32) : (s.modCp f).point p' = s.point p' := rfl
@[simp] theorem modCp_line (s : State) (f : ControllerPort → ControllerPort) (l' : Fin 4) : (s.modCp f).line l' = s.line l' := rfl
@[simp] theorem modCp_probe (s : State) (f : ControllerPort → ControllerPort) (l' : Fin 4) : (s.modCp f).probe l' = s.probe l' := rfl
@[simp] theorem modCp_lane (s : State) (f : ControllerPort → ControllerPort) (n' : Fin 8) : (s.modCp f).lane n' = s.lane n' := rfl
@[simp] theorem modCp_grantAt (s : State) (f : ControllerPort → ControllerPort) (i' : Fin 24) : (s.modCp f).grantAt i' = s.grantAt i' := rfl

/-! ### State.giveAnswer -/

@[simp] theorem giveAnswer_gm (s : State) (r : Response) : (s.giveAnswer r).gm = s.gm := rfl
@[simp] theorem giveAnswer_su (s : State) (r : Response) : (s.giveAnswer r).su = s.su := rfl
@[simp] theorem giveAnswer_points (s : State) (r : Response) : (s.giveAnswer r).points = s.points := rfl
@[simp] theorem giveAnswer_lines (s : State) (r : Response) : (s.giveAnswer r).lines = s.lines := rfl
@[simp] theorem giveAnswer_tu (s : State) (r : Response) : (s.giveAnswer r).tu = s.tu := rfl
@[simp] theorem giveAnswer_ss (s : State) (r : Response) : (s.giveAnswer r).ss = s.ss := rfl
@[simp] theorem giveAnswer_ibi (s : State) (r : Response) : (s.giveAnswer r).ibi = s.ibi := rfl
@[simp] theorem giveAnswer_au (s : State) (r : Response) : (s.giveAnswer r).au = s.au := rfl
@[simp] theorem giveAnswer_pins (s : State) (r : Response) : (s.giveAnswer r).pins = s.pins := rfl
@[simp] theorem giveAnswer_draws (s : State) (r : Response) : (s.giveAnswer r).draws = s.draws := rfl
@[simp] theorem giveAnswer_pending (s : State) (r : Response) : (s.giveAnswer r).pending = s.pending := rfl
@[simp] theorem giveAnswer_point (s : State) (r : Response) (p' : Fin 32) : (s.giveAnswer r).point p' = s.point p' := rfl
@[simp] theorem giveAnswer_line (s : State) (r : Response) (l' : Fin 4) : (s.giveAnswer r).line l' = s.line l' := rfl
@[simp] theorem giveAnswer_probe (s : State) (r : Response) (l' : Fin 4) : (s.giveAnswer r).probe l' = s.probe l' := rfl
@[simp] theorem giveAnswer_lane (s : State) (r : Response) (n' : Fin 8) : (s.giveAnswer r).lane n' = s.lane n' := rfl
@[simp] theorem giveAnswer_grantAt (s : State) (r : Response) (i' : Fin 24) : (s.giveAnswer r).grantAt i' = s.grantAt i' := rfl

/-! ### State.raisePointFault -/

@[simp] theorem raisePointFault_gm (s : State) (p : Fin 32) : (s.raisePointFault p).gm = s.gm := rfl
@[simp] theorem raisePointFault_su (s : State) (p : Fin 32) : (s.raisePointFault p).su = s.su := rfl
@[simp] theorem raisePointFault_points (s : State) (p : Fin 32) : (s.raisePointFault p).points = s.points := rfl
@[simp] theorem raisePointFault_lines (s : State) (p : Fin 32) : (s.raisePointFault p).lines = s.lines := rfl
@[simp] theorem raisePointFault_tu (s : State) (p : Fin 32) : (s.raisePointFault p).tu = s.tu := rfl
@[simp] theorem raisePointFault_ss (s : State) (p : Fin 32) : (s.raisePointFault p).ss = s.ss := rfl
@[simp] theorem raisePointFault_ibi (s : State) (p : Fin 32) : (s.raisePointFault p).ibi = s.ibi := rfl
@[simp] theorem raisePointFault_cp (s : State) (p : Fin 32) : (s.raisePointFault p).cp = s.cp := rfl
@[simp] theorem raisePointFault_pins (s : State) (p : Fin 32) : (s.raisePointFault p).pins = s.pins := rfl
@[simp] theorem raisePointFault_draws (s : State) (p : Fin 32) : (s.raisePointFault p).draws = s.draws := rfl
@[simp] theorem raisePointFault_pending (s : State) (p : Fin 32) : (s.raisePointFault p).pending = s.pending := rfl
@[simp] theorem raisePointFault_point (s : State) (p : Fin 32) (p' : Fin 32) : (s.raisePointFault p).point p' = s.point p' := rfl
@[simp] theorem raisePointFault_line (s : State) (p : Fin 32) (l' : Fin 4) : (s.raisePointFault p).line l' = s.line l' := rfl
@[simp] theorem raisePointFault_probe (s : State) (p : Fin 32) (l' : Fin 4) : (s.raisePointFault p).probe l' = s.probe l' := rfl
@[simp] theorem raisePointFault_lane (s : State) (p : Fin 32) (n' : Fin 8) : (s.raisePointFault p).lane n' = s.lane n' := rfl
@[simp] theorem raisePointFault_grantAt (s : State) (p : Fin 32) (i' : Fin 24) : (s.raisePointFault p).grantAt i' = s.grantAt i' := rfl

/-! ### State.raiseProbeFault -/

@[simp] theorem raiseProbeFault_gm (s : State) (l : Fin 4) : (s.raiseProbeFault l).gm = s.gm := rfl
@[simp] theorem raiseProbeFault_su (s : State) (l : Fin 4) : (s.raiseProbeFault l).su = s.su := rfl
@[simp] theorem raiseProbeFault_points (s : State) (l : Fin 4) : (s.raiseProbeFault l).points = s.points := rfl
@[simp] theorem raiseProbeFault_lines (s : State) (l : Fin 4) : (s.raiseProbeFault l).lines = s.lines := rfl
@[simp] theorem raiseProbeFault_tu (s : State) (l : Fin 4) : (s.raiseProbeFault l).tu = s.tu := rfl
@[simp] theorem raiseProbeFault_ss (s : State) (l : Fin 4) : (s.raiseProbeFault l).ss = s.ss := rfl
@[simp] theorem raiseProbeFault_ibi (s : State) (l : Fin 4) : (s.raiseProbeFault l).ibi = s.ibi := rfl
@[simp] theorem raiseProbeFault_cp (s : State) (l : Fin 4) : (s.raiseProbeFault l).cp = s.cp := rfl
@[simp] theorem raiseProbeFault_pins (s : State) (l : Fin 4) : (s.raiseProbeFault l).pins = s.pins := rfl
@[simp] theorem raiseProbeFault_draws (s : State) (l : Fin 4) : (s.raiseProbeFault l).draws = s.draws := rfl
@[simp] theorem raiseProbeFault_pending (s : State) (l : Fin 4) : (s.raiseProbeFault l).pending = s.pending := rfl
@[simp] theorem raiseProbeFault_point (s : State) (l : Fin 4) (p' : Fin 32) : (s.raiseProbeFault l).point p' = s.point p' := rfl
@[simp] theorem raiseProbeFault_line (s : State) (l : Fin 4) (l' : Fin 4) : (s.raiseProbeFault l).line l' = s.line l' := rfl
@[simp] theorem raiseProbeFault_probe (s : State) (l : Fin 4) (l' : Fin 4) : (s.raiseProbeFault l).probe l' = s.probe l' := rfl
@[simp] theorem raiseProbeFault_lane (s : State) (l : Fin 4) (n' : Fin 8) : (s.raiseProbeFault l).lane n' = s.lane n' := rfl
@[simp] theorem raiseProbeFault_grantAt (s : State) (l : Fin 4) (i' : Fin 24) : (s.raiseProbeFault l).grantAt i' = s.grantAt i' := rfl

/-! ### State.raiseLineLockout -/

@[simp] theorem raiseLineLockout_gm (s : State) (l : Fin 4) : (s.raiseLineLockout l).gm = s.gm := rfl
@[simp] theorem raiseLineLockout_su (s : State) (l : Fin 4) : (s.raiseLineLockout l).su = s.su := rfl
@[simp] theorem raiseLineLockout_points (s : State) (l : Fin 4) : (s.raiseLineLockout l).points = s.points := rfl
@[simp] theorem raiseLineLockout_lines (s : State) (l : Fin 4) : (s.raiseLineLockout l).lines = s.lines := rfl
@[simp] theorem raiseLineLockout_tu (s : State) (l : Fin 4) : (s.raiseLineLockout l).tu = s.tu := rfl
@[simp] theorem raiseLineLockout_ss (s : State) (l : Fin 4) : (s.raiseLineLockout l).ss = s.ss := rfl
@[simp] theorem raiseLineLockout_ibi (s : State) (l : Fin 4) : (s.raiseLineLockout l).ibi = s.ibi := rfl
@[simp] theorem raiseLineLockout_cp (s : State) (l : Fin 4) : (s.raiseLineLockout l).cp = s.cp := rfl
@[simp] theorem raiseLineLockout_pins (s : State) (l : Fin 4) : (s.raiseLineLockout l).pins = s.pins := rfl
@[simp] theorem raiseLineLockout_draws (s : State) (l : Fin 4) : (s.raiseLineLockout l).draws = s.draws := rfl
@[simp] theorem raiseLineLockout_pending (s : State) (l : Fin 4) : (s.raiseLineLockout l).pending = s.pending := rfl
@[simp] theorem raiseLineLockout_point (s : State) (l : Fin 4) (p' : Fin 32) : (s.raiseLineLockout l).point p' = s.point p' := rfl
@[simp] theorem raiseLineLockout_line (s : State) (l : Fin 4) (l' : Fin 4) : (s.raiseLineLockout l).line l' = s.line l' := rfl
@[simp] theorem raiseLineLockout_probe (s : State) (l : Fin 4) (l' : Fin 4) : (s.raiseLineLockout l).probe l' = s.probe l' := rfl
@[simp] theorem raiseLineLockout_lane (s : State) (l : Fin 4) (n' : Fin 8) : (s.raiseLineLockout l).lane n' = s.lane n' := rfl
@[simp] theorem raiseLineLockout_grantAt (s : State) (l : Fin 4) (i' : Fin 24) : (s.raiseLineLockout l).grantAt i' = s.grantAt i' := rfl

/-! ### State.raiseHaltComplete -/

@[simp] theorem raiseHaltComplete_gm (s : State) : (s.raiseHaltComplete).gm = s.gm := rfl
@[simp] theorem raiseHaltComplete_su (s : State) : (s.raiseHaltComplete).su = s.su := rfl
@[simp] theorem raiseHaltComplete_points (s : State) : (s.raiseHaltComplete).points = s.points := rfl
@[simp] theorem raiseHaltComplete_lines (s : State) : (s.raiseHaltComplete).lines = s.lines := rfl
@[simp] theorem raiseHaltComplete_tu (s : State) : (s.raiseHaltComplete).tu = s.tu := rfl
@[simp] theorem raiseHaltComplete_ss (s : State) : (s.raiseHaltComplete).ss = s.ss := rfl
@[simp] theorem raiseHaltComplete_ibi (s : State) : (s.raiseHaltComplete).ibi = s.ibi := rfl
@[simp] theorem raiseHaltComplete_cp (s : State) : (s.raiseHaltComplete).cp = s.cp := rfl
@[simp] theorem raiseHaltComplete_pins (s : State) : (s.raiseHaltComplete).pins = s.pins := rfl
@[simp] theorem raiseHaltComplete_draws (s : State) : (s.raiseHaltComplete).draws = s.draws := rfl
@[simp] theorem raiseHaltComplete_pending (s : State) : (s.raiseHaltComplete).pending = s.pending := rfl
@[simp] theorem raiseHaltComplete_point (s : State) (p' : Fin 32) : (s.raiseHaltComplete).point p' = s.point p' := rfl
@[simp] theorem raiseHaltComplete_line (s : State) (l' : Fin 4) : (s.raiseHaltComplete).line l' = s.line l' := rfl
@[simp] theorem raiseHaltComplete_probe (s : State) (l' : Fin 4) : (s.raiseHaltComplete).probe l' = s.probe l' := rfl
@[simp] theorem raiseHaltComplete_lane (s : State) (n' : Fin 8) : (s.raiseHaltComplete).lane n' = s.lane n' := rfl
@[simp] theorem raiseHaltComplete_grantAt (s : State) (i' : Fin 24) : (s.raiseHaltComplete).grantAt i' = s.grantAt i' := rfl

/-! ### State.raiseBusFault -/

@[simp] theorem raiseBusFault_gm (s : State) : (s.raiseBusFault).gm = s.gm := rfl
@[simp] theorem raiseBusFault_su (s : State) : (s.raiseBusFault).su = s.su := rfl
@[simp] theorem raiseBusFault_points (s : State) : (s.raiseBusFault).points = s.points := rfl
@[simp] theorem raiseBusFault_lines (s : State) : (s.raiseBusFault).lines = s.lines := rfl
@[simp] theorem raiseBusFault_tu (s : State) : (s.raiseBusFault).tu = s.tu := rfl
@[simp] theorem raiseBusFault_ss (s : State) : (s.raiseBusFault).ss = s.ss := rfl
@[simp] theorem raiseBusFault_ibi (s : State) : (s.raiseBusFault).ibi = s.ibi := rfl
@[simp] theorem raiseBusFault_cp (s : State) : (s.raiseBusFault).cp = s.cp := rfl
@[simp] theorem raiseBusFault_pins (s : State) : (s.raiseBusFault).pins = s.pins := rfl
@[simp] theorem raiseBusFault_draws (s : State) : (s.raiseBusFault).draws = s.draws := rfl
@[simp] theorem raiseBusFault_pending (s : State) : (s.raiseBusFault).pending = s.pending := rfl
@[simp] theorem raiseBusFault_point (s : State) (p' : Fin 32) : (s.raiseBusFault).point p' = s.point p' := rfl
@[simp] theorem raiseBusFault_line (s : State) (l' : Fin 4) : (s.raiseBusFault).line l' = s.line l' := rfl
@[simp] theorem raiseBusFault_probe (s : State) (l' : Fin 4) : (s.raiseBusFault).probe l' = s.probe l' := rfl
@[simp] theorem raiseBusFault_lane (s : State) (n' : Fin 8) : (s.raiseBusFault).lane n' = s.lane n' := rfl
@[simp] theorem raiseBusFault_grantAt (s : State) (i' : Fin 24) : (s.raiseBusFault).grantAt i' = s.grantAt i' := rfl

/-! ### State.raiseTerminalSilent -/

@[simp] theorem raiseTerminalSilent_gm (s : State) (n : Fin 8) : (s.raiseTerminalSilent n).gm = s.gm := rfl
@[simp] theorem raiseTerminalSilent_su (s : State) (n : Fin 8) : (s.raiseTerminalSilent n).su = s.su := rfl
@[simp] theorem raiseTerminalSilent_points (s : State) (n : Fin 8) : (s.raiseTerminalSilent n).points = s.points := rfl
@[simp] theorem raiseTerminalSilent_lines (s : State) (n : Fin 8) : (s.raiseTerminalSilent n).lines = s.lines := rfl
@[simp] theorem raiseTerminalSilent_tu (s : State) (n : Fin 8) : (s.raiseTerminalSilent n).tu = s.tu := rfl
@[simp] theorem raiseTerminalSilent_ss (s : State) (n : Fin 8) : (s.raiseTerminalSilent n).ss = s.ss := rfl
@[simp] theorem raiseTerminalSilent_ibi (s : State) (n : Fin 8) : (s.raiseTerminalSilent n).ibi = s.ibi := rfl
@[simp] theorem raiseTerminalSilent_cp (s : State) (n : Fin 8) : (s.raiseTerminalSilent n).cp = s.cp := rfl
@[simp] theorem raiseTerminalSilent_pins (s : State) (n : Fin 8) : (s.raiseTerminalSilent n).pins = s.pins := rfl
@[simp] theorem raiseTerminalSilent_draws (s : State) (n : Fin 8) : (s.raiseTerminalSilent n).draws = s.draws := rfl
@[simp] theorem raiseTerminalSilent_pending (s : State) (n : Fin 8) : (s.raiseTerminalSilent n).pending = s.pending := rfl
@[simp] theorem raiseTerminalSilent_point (s : State) (n : Fin 8) (p' : Fin 32) : (s.raiseTerminalSilent n).point p' = s.point p' := rfl
@[simp] theorem raiseTerminalSilent_line (s : State) (n : Fin 8) (l' : Fin 4) : (s.raiseTerminalSilent n).line l' = s.line l' := rfl
@[simp] theorem raiseTerminalSilent_probe (s : State) (n : Fin 8) (l' : Fin 4) : (s.raiseTerminalSilent n).probe l' = s.probe l' := rfl
@[simp] theorem raiseTerminalSilent_lane (s : State) (n : Fin 8) (n' : Fin 8) : (s.raiseTerminalSilent n).lane n' = s.lane n' := rfl
@[simp] theorem raiseTerminalSilent_grantAt (s : State) (n : Fin 8) (i' : Fin 24) : (s.raiseTerminalSilent n).grantAt i' = s.grantAt i' := rfl

/-! ### State.raiseTallyFull -/

@[simp] theorem raiseTallyFull_gm (s : State) : (s.raiseTallyFull).gm = s.gm := rfl
@[simp] theorem raiseTallyFull_su (s : State) : (s.raiseTallyFull).su = s.su := rfl
@[simp] theorem raiseTallyFull_points (s : State) : (s.raiseTallyFull).points = s.points := rfl
@[simp] theorem raiseTallyFull_lines (s : State) : (s.raiseTallyFull).lines = s.lines := rfl
@[simp] theorem raiseTallyFull_tu (s : State) : (s.raiseTallyFull).tu = s.tu := rfl
@[simp] theorem raiseTallyFull_ss (s : State) : (s.raiseTallyFull).ss = s.ss := rfl
@[simp] theorem raiseTallyFull_ibi (s : State) : (s.raiseTallyFull).ibi = s.ibi := rfl
@[simp] theorem raiseTallyFull_cp (s : State) : (s.raiseTallyFull).cp = s.cp := rfl
@[simp] theorem raiseTallyFull_pins (s : State) : (s.raiseTallyFull).pins = s.pins := rfl
@[simp] theorem raiseTallyFull_draws (s : State) : (s.raiseTallyFull).draws = s.draws := rfl
@[simp] theorem raiseTallyFull_pending (s : State) : (s.raiseTallyFull).pending = s.pending := rfl
@[simp] theorem raiseTallyFull_point (s : State) (p' : Fin 32) : (s.raiseTallyFull).point p' = s.point p' := rfl
@[simp] theorem raiseTallyFull_line (s : State) (l' : Fin 4) : (s.raiseTallyFull).line l' = s.line l' := rfl
@[simp] theorem raiseTallyFull_probe (s : State) (l' : Fin 4) : (s.raiseTallyFull).probe l' = s.probe l' := rfl
@[simp] theorem raiseTallyFull_lane (s : State) (n' : Fin 8) : (s.raiseTallyFull).lane n' = s.lane n' := rfl
@[simp] theorem raiseTallyFull_grantAt (s : State) (i' : Fin 24) : (s.raiseTallyFull).grantAt i' = s.grantAt i' := rfl

/-! ### What a table reads after one of its entries is replaced -/

@[simp] theorem setPoint_point (s : State) (p q : Fin 32) (x : Point) :
    (s.setPoint p x).point q = if q = p then x else s.point q := by
  unfold State.setPoint State.point
  by_cases h : q = p
  · subst h; simp
  · have : p.val ≠ q.val := fun e => h (Fin.ext e.symm)
    simp [this, h]

@[simp] theorem setLine_line (s : State) (l k : Fin 4) (x : Line) :
    (s.setLine l x).line k = if k = l then x else s.line k := by
  unfold State.setLine State.line
  by_cases h : k = l
  · subst h; simp
  · have : l.val ≠ k.val := fun e => h (Fin.ext e.symm)
    simp [this, h]

@[simp] theorem setProbe_probe (s : State) (l k : Fin 4) (x : Probe) :
    (s.setProbe l x).probe k = if k = l then x else s.probe k := by
  unfold State.setProbe State.probe
  by_cases h : k = l
  · subst h; simp
  · have : l.val ≠ k.val := fun e => h (Fin.ext e.symm)
    simp [this, h]

@[simp] theorem setLane_lane (s : State) (n m : Fin 8) (x : Lane) :
    (s.setLane n x).lane m = if m = n then x else s.lane m := by
  unfold State.setLane State.lane
  by_cases h : m = n
  · subst h; simp
  · have : n.val ≠ m.val := fun e => h (Fin.ext e.symm)
    simp [this, h]

@[simp] theorem setSlot_grantAt (s : State) (i j : Fin 24) (x : Option Grant) :
    (s.setSlot i x).grantAt j = if j = i then x else s.grantAt j := by
  unfold State.setSlot State.grantAt
  by_cases h : j = i
  · subst h; simp
  · have : i.val ≠ j.val := fun e => h (Fin.ext e.symm)
    simp [this, h]

@[simp] theorem modGrant_grantAt (s : State) (i j : Fin 24) (f : Grant → Grant) :
    (s.modGrant i f).grantAt j = if j = i then (s.grantAt j).map f else s.grantAt j := by
  unfold State.modGrant
  rw [setSlot_grantAt]
  split <;> simp_all

@[simp] theorem setEntry_entryAt (u : ScreeningUnit) (j k : Fin 128) (x : Option TallyEntry) :
    (u.setEntry j x).entryAt k = if k = j then x else u.entryAt k := by
  unfold ScreeningUnit.setEntry ScreeningUnit.entryAt
  by_cases h : k = j
  · subst h; simp
  · have : j.val ≠ k.val := fun e => h (Fin.ext e.symm)
    simp [this, h]

/-! ### What an update of a whole block leaves of its tables, and the fields it sets -/

@[simp] theorem modGm_gm (s : State) (f : GrantManager → GrantManager) : (s.modGm f).gm = f s.gm := rfl
@[simp] theorem modSu_su (s : State) (f : ScreeningUnit → ScreeningUnit) : (s.modSu f).su = f s.su := rfl
@[simp] theorem modIbi_ibi (s : State) (f : IslandBus → IslandBus) : (s.modIbi f).ibi = f s.ibi := rfl
@[simp] theorem modTu_tu (s : State) (f : TemperatureUnit → TemperatureUnit) : (s.modTu f).tu = f s.tu := rfl
@[simp] theorem modCp_cp (s : State) (f : ControllerPort → ControllerPort) : (s.modCp f).cp = f s.cp := rfl

theorem modGm_grantAt (s : State) (f : GrantManager → GrantManager) (h : (f s.gm).slots = s.gm.slots) (i : Fin 24) :
    (s.modGm f).grantAt i = s.grantAt i := by
  simp [State.grantAt, h]

theorem modIbi_lane (s : State) (f : IslandBus → IslandBus) (h : (f s.ibi).lanes = s.ibi.lanes) (n : Fin 8) :
    (s.modIbi f).lane n = s.lane n := by
  simp [State.lane, h]

theorem modTu_probe (s : State) (f : TemperatureUnit → TemperatureUnit) (h : (f s.tu).probes = s.tu.probes)
    (l : Fin 4) : (s.modTu f).probe l = s.probe l := by
  simp [State.probe, h]

@[simp] theorem setSlot_pendingTags (s : State) (i : Fin 24) (x : Option Grant) :
    (s.setSlot i x).gm.pendingTags = s.gm.pendingTags := rfl
@[simp] theorem setSlot_settledTags (s : State) (i : Fin 24) (x : Option Grant) :
    (s.setSlot i x).gm.settledTags = s.gm.settledTags := rfl
@[simp] theorem setSlot_tagCounter (s : State) (i : Fin 24) (x : Option Grant) :
    (s.setSlot i x).gm.tagCounter = s.gm.tagCounter := rfl
@[simp] theorem modGrant_pendingTags (s : State) (i : Fin 24) (f : Grant → Grant) :
    (s.modGrant i f).gm.pendingTags = s.gm.pendingTags := rfl
@[simp] theorem modGrant_settledTags (s : State) (i : Fin 24) (f : Grant → Grant) :
    (s.modGrant i f).gm.settledTags = s.gm.settledTags := rfl
@[simp] theorem modGrant_tagCounter (s : State) (i : Fin 24) (f : Grant → Grant) :
    (s.modGrant i f).gm.tagCounter = s.gm.tagCounter := rfl
@[simp] theorem setProbe_converting (s : State) (l : Fin 4) (x : Probe) :
    (s.setProbe l x).tu.converting = s.tu.converting := rfl
@[simp] theorem setProbe_lastServed (s : State) (l : Fin 4) (x : Probe) :
    (s.setProbe l x).tu.lastServed = s.tu.lastServed := rfl
@[simp] theorem giveAnswer_answer (s : State) (r : Response) : (s.giveAnswer r).cp.answer = some r := rfl
@[simp] theorem giveAnswer_held (s : State) (r : Response) : (s.giveAnswer r).cp.held = none := rfl
@[simp] theorem giveAnswer_state (s : State) (r : Response) : (s.giveAnswer r).cp.state = .processing := rfl
@[simp] theorem giveAnswer_response (s : State) (r : Response) : (s.giveAnswer r).cp.response = s.cp.response := rfl
@[simp] theorem giveAnswer_collision (s : State) (r : Response) : (s.giveAnswer r).cp.collision = s.cp.collision := rfl
@[simp] theorem giveAnswer_timers (s : State) (r : Response) : (s.giveAnswer r).cp.timers = s.cp.timers := rfl

/-! ### Two states are equal when their tables read alike and the rest is equal -/

/-- Vectors that read alike are equal, for the point table. -/
theorem points_ext {s t : State} (h : ∀ p, s.point p = t.point p) : s.points = t.points := by
  apply Vector.ext
  intro k hk
  exact h ⟨k, hk⟩

/-- For the line table. -/
theorem lines_ext {s t : State} (h : ∀ l, s.line l = t.line l) : s.lines = t.lines := by
  apply Vector.ext
  intro k hk
  exact h ⟨k, hk⟩

/-- For the slots of the grant table. -/
theorem slots_ext {s t : State} (h : ∀ i, s.grantAt i = t.grantAt i) : s.gm.slots = t.gm.slots := by
  apply Vector.ext
  intro k hk
  exact h ⟨k, hk⟩

/-- For the lanes of the island bus. -/
theorem lanes_ext {s t : State} (h : ∀ n, s.lane n = t.lane n) : s.ibi.lanes = t.ibi.lanes := by
  apply Vector.ext
  intro k hk
  exact h ⟨k, hk⟩

/-- For the probes. -/
theorem probes_ext {s t : State} (h : ∀ l, s.probe l = t.probe l) : s.tu.probes = t.tu.probes := by
  apply Vector.ext
  intro k hk
  exact h ⟨k, hk⟩

end Sys2Proof.Machine
end

