-- ==== Sys2Proof/Laws/Ops.lean ====
section
/-! SUPPORT. What the operations of Machine/Ops.lean do: the taking of a host command, the search for a tag, the sets
of points, the timers, the free order, and the orders that fold over a list. -/

namespace Sys2Proof.Machine

/-! ### Host commands -/

/-- An owner that may take the command takes it: its effect, then its answer. -/
theorem takeCommand_taken {i : Instr} {s : State} (h : Takes i s) (act : State → State × Response) :
    takeCommand i act s = (act s).1.giveAnswer (act s).2 := by
  have held : s.cp.held.all (· = i) = true := by
    rcases h with h | h <;> simp [h]
  simp [takeCommand, held]

/-- A command that is not the one the port holds for its owner cannot be taken, and nothing changes. -/
theorem takeCommand_blocked {i j : Instr} {s : State} (h : s.cp.held = some j) (ne : j ≠ i)
    (act : State → State × Response) : takeCommand i act s = s := by
  simp [takeCommand, h, ne]

/-- Whatever its owner does, a command either changes nothing or ends in its owner's answer. -/
theorem takeCommand_cases (i : Instr) (act : State → State × Response) (s : State) :
    takeCommand i act s = s ∨ takeCommand i act s = (act s).1.giveAnswer (act s).2 := by
  unfold takeCommand
  split <;> simp

/-! ### Slots and tags -/

/-- A tag is found in a slot that holds it, and no earlier slot does. -/
theorem findTag_eq_some {s : State} {tag : Nat} {i : Fin 24} (h : s.findTag tag = some i) :
    ∃ g, s.grantAt i = some g ∧ g.tag = tag := by
  have := List.find?_some h
  cases hg : s.grantAt i with
  | none => simp [hg] at this
  | some g => exact ⟨g, rfl, by simpa [hg] using this⟩

/-- A tag is not found exactly when no grant carries it. -/
theorem findTag_eq_none {s : State} {tag : Nat} :
    s.findTag tag = none ↔ ∀ i g, s.grantAt i = some g → g.tag ≠ tag := by
  unfold State.findTag allSlots
  rw [List.find?_eq_none]
  constructor
  · intro h i g hg
    simpa [hg] using h i (List.mem_finRange i)
  · intro h i _
    cases hg : s.grantAt i with
    | none => simp
    | some g => simpa using h i g hg

/-- Where tags are distinct, the slot of a held grant is found by its tag. -/
theorem findTag_of_distinct {s : State} {i : Fin 24} {g : Grant} (hg : s.grantAt i = some g)
    (distinct : ∀ j h, s.grantAt j = some h → h.tag = g.tag → j = i) : s.findTag g.tag = some i := by
  cases hf : s.findTag g.tag with
  | none => exact absurd rfl (findTag_eq_none.mp hf i g hg)
  | some j =>
    obtain ⟨h, hh, ht⟩ := findTag_eq_some hf
    rw [distinct j h hh ht]

/-- The search for a tag reads the slots alone. -/
theorem findTag_congr {s t : State} (h : ∀ i, (t.grantAt i).map Grant.tag = (s.grantAt i).map Grant.tag) (tag : Nat) :
    t.findTag tag = s.findTag tag := by
  unfold State.findTag
  congr 1
  funext i
  have := h i
  cases hs : s.grantAt i <;> cases ht : t.grantAt i <;> simp_all

/-- The lowest free slot is free, and every slot below it is held (R2). -/
theorem freeSlot_eq_some {s : State} {i : Fin 24} (h : s.freeSlot = some i) : s.grantAt i = none := by
  have := List.find?_some h
  simpa using this

/-- There is no free slot exactly when every slot is held. -/
theorem freeSlot_eq_none {s : State} : s.freeSlot = none ↔ ∀ i, s.grantAt i ≠ none := by
  simp [State.freeSlot, allSlots, List.find?_eq_none]

/-- A grant is in the list of the grants held exactly when a slot holds it. -/
theorem mem_grants {s : State} {g : Grant} : g ∈ s.grants ↔ ∃ i, s.grantAt i = some g := by
  simp [State.grants, allSlots]

/-! ### Sets of points -/

@[simp] theorem hasPoint_zero (p : Fin 32) : hasPoint 0#32 p = false := by simp [hasPoint]

@[simp] theorem hasPoint_addPoint (set : BitVec 32) (p q : Fin 32) :
    hasPoint (addPoint set p) q = (hasPoint set q || p == q) := by
  revert p q
  unfold hasPoint addPoint
  intro p q
  by_cases h : p = q
  · subst h; simp [p.isLt]
  · have : p.val ≠ q.val := fun e => h (Fin.ext e)
    simp only [BitVec.getLsbD_or, BitVec.getLsbD_shiftLeft, BitVec.getLsbD_one, beq_eq_false_iff_ne.mpr h]
    by_cases lt : q.val < p.val
    · simp [lt]
    · have : q.val - p.val ≠ 0 := by omega
      simp [this]

@[simp] theorem hasPoint_dropPoint (set : BitVec 32) (p q : Fin 32) :
    hasPoint (dropPoint set p) q = (hasPoint set q && !(p == q)) := by
  unfold hasPoint dropPoint
  by_cases h : p = q
  · subst h; simp [p.isLt]
  · have ne : p.val ≠ q.val := fun e => h (Fin.ext e)
    simp only [BitVec.getLsbD_and, BitVec.getLsbD_not, BitVec.getLsbD_shiftLeft, BitVec.getLsbD_one,
      beq_eq_false_iff_ne.mpr h]
    by_cases lt : q.val < p.val
    · simp [lt]
    · have : q.val - p.val ≠ 0 := by omega
      simp [this]

/-- Two sets of points with the same members are equal. -/
theorem points_eq_of_hasPoint {a b : BitVec 32} (h : ∀ p, hasPoint a p = hasPoint b p) : a = b :=
  BitVec.eq_of_getLsbD_eq fun i hi => h ⟨i, hi⟩

/-- A set with a point added is not empty. -/
theorem addPoint_ne_zero (set : BitVec 32) (p : Fin 32) : addPoint set p ≠ 0 := by
  intro h
  have : hasPoint (addPoint set p) p = false := by rw [h]; exact hasPoint_zero p
  simp at this

/-! ### Timers -/

/-- A started timer is not stopped. -/
theorem start_ne_stopped (code : Nat) : Timer.start code ≠ .stopped := by
  unfold Timer.start
  split <;> simp

/-- A counted timer is stopped exactly when it was. -/
@[simp] theorem tick_eq_stopped (t : Timer) : t.tick = .stopped ↔ t = .stopped := by
  cases t <;> simp [Timer.tick]

/-- A timer may expire exactly while it runs with an interval. -/
@[simp] theorem mayExpire_iff (t : Timer) : t.mayExpire = true ↔ ∃ n, t = .running n := by
  cases t <;> simp [Timer.mayExpire]

/-! ### The free order -/

/-- Putting an item in its place adds it to the list. -/
theorem insertByTurn_perm {α : Type} (draw : Nat) (x : Nat × α) (items : List (Nat × α)) :
    (insertByTurn draw x items).Perm (x :: items) := by
  induction items with
  | nil => exact .refl _
  | cons y rest ih =>
    unfold insertByTurn
    split
    · exact .refl _
    · exact (ih.cons y).trans (.swap x y rest)

/-- The free order is an order of the same items. -/
theorem arrange_perm {α : Type} (draw : Nat) (items : List α) : (arrange draw items).Perm items := by
  have folded : ∀ xs : List (Nat × α), (xs.foldr (insertByTurn draw) []).Perm xs := by
    intro xs
    induction xs with
    | nil => exact .refl _
    | cons x rest ih => exact (insertByTurn_perm draw x _).trans (ih.cons x)
  have numbered : ((items.zipIdx.map fun p => (p.2, p.1)).map (·.2)) = items := by
    simp [List.map_map, Function.comp_def]
  exact ((folded _).map _).trans (.of_eq numbered)

@[simp] theorem mem_arrange {α : Type} (draw : Nat) (items : List α) (x : α) : x ∈ arrange draw items ↔ x ∈ items :=
  (arrange_perm draw items).mem_iff

/-! ### Folds -/

/-- What every step of a fold keeps, the fold keeps. -/
theorem foldl_keeps {α : Type} {P : State → Prop} {f : State → α → State} (keeps : ∀ s x, P s → P (f s x))
    (xs : List α) (s : State) (h : P s) : P (xs.foldl f s) := by
  induction xs generalizing s with
  | nil => exact h
  | cons x rest ih => exact ih _ (keeps s x h)

/-- What no step of a fold changes, the fold does not change. -/
theorem foldl_unchanged {α β : Type} (view : State → β) {f : State → α → State} (same : ∀ s x, view (f s x) = view s)
    (xs : List α) (s : State) : view (xs.foldl f s) = view s :=
  foldl_keeps (P := fun t => view t = view s) (fun t x h => (same t x).trans h) xs s rfl

end Sys2Proof.Machine
end

