-- ==== Sys2Proof/Laws/Frames.lean ====
section
/-! SUPPORT. The frames of the shared operations: the parts of the state that an order, a notice, a settlement, a
closing or an arming leaves as they are. What each does to the parts it changes stands in Laws/Points.lean and
Laws/Grants.lean. -/

namespace Sys2Proof.Machine

/-! ### withdrawPump -/

@[simp] theorem withdrawPump_gm (p : Fin 32) (l : Fin 4) (s : State) : (withdrawPump p l s).gm = s.gm := by unfold withdrawPump; split <;> rfl
@[simp] theorem withdrawPump_su (p : Fin 32) (l : Fin 4) (s : State) : (withdrawPump p l s).su = s.su := by unfold withdrawPump; split <;> rfl
@[simp] theorem withdrawPump_points (p : Fin 32) (l : Fin 4) (s : State) : (withdrawPump p l s).points = s.points := by unfold withdrawPump; split <;> rfl
@[simp] theorem withdrawPump_tu (p : Fin 32) (l : Fin 4) (s : State) : (withdrawPump p l s).tu = s.tu := by unfold withdrawPump; split <;> rfl
@[simp] theorem withdrawPump_ss (p : Fin 32) (l : Fin 4) (s : State) : (withdrawPump p l s).ss = s.ss := by unfold withdrawPump; split <;> rfl
@[simp] theorem withdrawPump_ibi (p : Fin 32) (l : Fin 4) (s : State) : (withdrawPump p l s).ibi = s.ibi := by unfold withdrawPump; split <;> rfl
@[simp] theorem withdrawPump_cp (p : Fin 32) (l : Fin 4) (s : State) : (withdrawPump p l s).cp = s.cp := by unfold withdrawPump; split <;> rfl
@[simp] theorem withdrawPump_au (p : Fin 32) (l : Fin 4) (s : State) : (withdrawPump p l s).au = s.au := by unfold withdrawPump; split <;> rfl
@[simp] theorem withdrawPump_pins (p : Fin 32) (l : Fin 4) (s : State) : (withdrawPump p l s).pins = s.pins := by unfold withdrawPump; split <;> rfl
@[simp] theorem withdrawPump_draws (p : Fin 32) (l : Fin 4) (s : State) : (withdrawPump p l s).draws = s.draws := by unfold withdrawPump; split <;> rfl
@[simp] theorem withdrawPump_pending (p : Fin 32) (l : Fin 4) (s : State) : (withdrawPump p l s).pending = s.pending := by unfold withdrawPump; split <;> rfl

/-! ### withdrawOwn -/

@[simp] theorem withdrawOwn_gm (p : Fin 32) (s : State) : (withdrawOwn p s).gm = s.gm := by unfold withdrawOwn; split <;> simp
@[simp] theorem withdrawOwn_su (p : Fin 32) (s : State) : (withdrawOwn p s).su = s.su := by unfold withdrawOwn; split <;> simp
@[simp] theorem withdrawOwn_points (p : Fin 32) (s : State) : (withdrawOwn p s).points = s.points := by unfold withdrawOwn; split <;> simp
@[simp] theorem withdrawOwn_tu (p : Fin 32) (s : State) : (withdrawOwn p s).tu = s.tu := by unfold withdrawOwn; split <;> simp
@[simp] theorem withdrawOwn_ss (p : Fin 32) (s : State) : (withdrawOwn p s).ss = s.ss := by unfold withdrawOwn; split <;> simp
@[simp] theorem withdrawOwn_ibi (p : Fin 32) (s : State) : (withdrawOwn p s).ibi = s.ibi := by unfold withdrawOwn; split <;> simp
@[simp] theorem withdrawOwn_cp (p : Fin 32) (s : State) : (withdrawOwn p s).cp = s.cp := by unfold withdrawOwn; split <;> simp
@[simp] theorem withdrawOwn_au (p : Fin 32) (s : State) : (withdrawOwn p s).au = s.au := by unfold withdrawOwn; split <;> simp
@[simp] theorem withdrawOwn_pins (p : Fin 32) (s : State) : (withdrawOwn p s).pins = s.pins := by unfold withdrawOwn; split <;> simp
@[simp] theorem withdrawOwn_draws (p : Fin 32) (s : State) : (withdrawOwn p s).draws = s.draws := by unfold withdrawOwn; split <;> simp
@[simp] theorem withdrawOwn_pending (p : Fin 32) (s : State) : (withdrawOwn p s).pending = s.pending := by unfold withdrawOwn; split <;> simp

/-! ### closeValve -/

@[simp] theorem closeValve_gm (p : Fin 32) (s : State) : (closeValve p s).gm = s.gm := by unfold closeValve; simp
@[simp] theorem closeValve_su (p : Fin 32) (s : State) : (closeValve p s).su = s.su := by unfold closeValve; simp
@[simp] theorem closeValve_tu (p : Fin 32) (s : State) : (closeValve p s).tu = s.tu := by unfold closeValve; simp
@[simp] theorem closeValve_ss (p : Fin 32) (s : State) : (closeValve p s).ss = s.ss := by unfold closeValve; simp
@[simp] theorem closeValve_ibi (p : Fin 32) (s : State) : (closeValve p s).ibi = s.ibi := by unfold closeValve; simp
@[simp] theorem closeValve_cp (p : Fin 32) (s : State) : (closeValve p s).cp = s.cp := by unfold closeValve; simp
@[simp] theorem closeValve_au (p : Fin 32) (s : State) : (closeValve p s).au = s.au := by unfold closeValve; simp
@[simp] theorem closeValve_pins (p : Fin 32) (s : State) : (closeValve p s).pins = s.pins := by unfold closeValve; simp
@[simp] theorem closeValve_draws (p : Fin 32) (s : State) : (closeValve p s).draws = s.draws := by unfold closeValve; simp
@[simp] theorem closeValve_pending (p : Fin 32) (s : State) : (closeValve p s).pending = s.pending := by unfold closeValve; simp

/-! ### closeOrder -/

@[simp] theorem closeOrder_gm (p : Fin 32) (s : State) : (closeOrder p s).gm = s.gm := by unfold closeOrder; split <;> simp
@[simp] theorem closeOrder_su (p : Fin 32) (s : State) : (closeOrder p s).su = s.su := by unfold closeOrder; split <;> simp
@[simp] theorem closeOrder_tu (p : Fin 32) (s : State) : (closeOrder p s).tu = s.tu := by unfold closeOrder; split <;> simp
@[simp] theorem closeOrder_ss (p : Fin 32) (s : State) : (closeOrder p s).ss = s.ss := by unfold closeOrder; split <;> simp
@[simp] theorem closeOrder_ibi (p : Fin 32) (s : State) : (closeOrder p s).ibi = s.ibi := by unfold closeOrder; split <;> simp
@[simp] theorem closeOrder_cp (p : Fin 32) (s : State) : (closeOrder p s).cp = s.cp := by unfold closeOrder; split <;> simp
@[simp] theorem closeOrder_au (p : Fin 32) (s : State) : (closeOrder p s).au = s.au := by unfold closeOrder; split <;> simp
@[simp] theorem closeOrder_pins (p : Fin 32) (s : State) : (closeOrder p s).pins = s.pins := by unfold closeOrder; split <;> simp
@[simp] theorem closeOrder_draws (p : Fin 32) (s : State) : (closeOrder p s).draws = s.draws := by unfold closeOrder; split <;> simp
@[simp] theorem closeOrder_pending (p : Fin 32) (s : State) : (closeOrder p s).pending = s.pending := by unfold closeOrder; split <;> simp

/-! ### closeOrders -/

@[simp] theorem closeOrders_gm (ps : List (Fin 32)) (s : State) : (closeOrders ps s).gm = s.gm :=
  foldl_unchanged (fun s => s.gm) (fun s p => closeOrder_gm p s) ps s
@[simp] theorem closeOrders_su (ps : List (Fin 32)) (s : State) : (closeOrders ps s).su = s.su :=
  foldl_unchanged (fun s => s.su) (fun s p => closeOrder_su p s) ps s
@[simp] theorem closeOrders_tu (ps : List (Fin 32)) (s : State) : (closeOrders ps s).tu = s.tu :=
  foldl_unchanged (fun s => s.tu) (fun s p => closeOrder_tu p s) ps s
@[simp] theorem closeOrders_ss (ps : List (Fin 32)) (s : State) : (closeOrders ps s).ss = s.ss :=
  foldl_unchanged (fun s => s.ss) (fun s p => closeOrder_ss p s) ps s
@[simp] theorem closeOrders_ibi (ps : List (Fin 32)) (s : State) : (closeOrders ps s).ibi = s.ibi :=
  foldl_unchanged (fun s => s.ibi) (fun s p => closeOrder_ibi p s) ps s
@[simp] theorem closeOrders_cp (ps : List (Fin 32)) (s : State) : (closeOrders ps s).cp = s.cp :=
  foldl_unchanged (fun s => s.cp) (fun s p => closeOrder_cp p s) ps s
@[simp] theorem closeOrders_au (ps : List (Fin 32)) (s : State) : (closeOrders ps s).au = s.au :=
  foldl_unchanged (fun s => s.au) (fun s p => closeOrder_au p s) ps s
@[simp] theorem closeOrders_pins (ps : List (Fin 32)) (s : State) : (closeOrders ps s).pins = s.pins :=
  foldl_unchanged (fun s => s.pins) (fun s p => closeOrder_pins p s) ps s
@[simp] theorem closeOrders_draws (ps : List (Fin 32)) (s : State) : (closeOrders ps s).draws = s.draws :=
  foldl_unchanged (fun s => s.draws) (fun s p => closeOrder_draws p s) ps s
@[simp] theorem closeOrders_pending (ps : List (Fin 32)) (s : State) : (closeOrders ps s).pending = s.pending :=
  foldl_unchanged (fun s => s.pending) (fun s p => closeOrder_pending p s) ps s

/-! ### slowOrder -/

@[simp] theorem slowOrder_gm (p : Fin 32) (s : State) : (slowOrder p s).gm = s.gm := by unfold slowOrder; split <;> simp
@[simp] theorem slowOrder_su (p : Fin 32) (s : State) : (slowOrder p s).su = s.su := by unfold slowOrder; split <;> simp
@[simp] theorem slowOrder_lines (p : Fin 32) (s : State) : (slowOrder p s).lines = s.lines := by unfold slowOrder; split <;> simp
@[simp] theorem slowOrder_tu (p : Fin 32) (s : State) : (slowOrder p s).tu = s.tu := by unfold slowOrder; split <;> simp
@[simp] theorem slowOrder_ss (p : Fin 32) (s : State) : (slowOrder p s).ss = s.ss := by unfold slowOrder; split <;> simp
@[simp] theorem slowOrder_ibi (p : Fin 32) (s : State) : (slowOrder p s).ibi = s.ibi := by unfold slowOrder; split <;> simp
@[simp] theorem slowOrder_cp (p : Fin 32) (s : State) : (slowOrder p s).cp = s.cp := by unfold slowOrder; split <;> simp
@[simp] theorem slowOrder_au (p : Fin 32) (s : State) : (slowOrder p s).au = s.au := by unfold slowOrder; split <;> simp
@[simp] theorem slowOrder_pins (p : Fin 32) (s : State) : (slowOrder p s).pins = s.pins := by unfold slowOrder; split <;> simp
@[simp] theorem slowOrder_draws (p : Fin 32) (s : State) : (slowOrder p s).draws = s.draws := by unfold slowOrder; split <;> simp
@[simp] theorem slowOrder_pending (p : Fin 32) (s : State) : (slowOrder p s).pending = s.pending := by unfold slowOrder; split <;> simp

/-! ### slowOrders -/

@[simp] theorem slowOrders_gm (ps : List (Fin 32)) (s : State) : (slowOrders ps s).gm = s.gm :=
  foldl_unchanged (fun s => s.gm) (fun s p => slowOrder_gm p s) ps s
@[simp] theorem slowOrders_su (ps : List (Fin 32)) (s : State) : (slowOrders ps s).su = s.su :=
  foldl_unchanged (fun s => s.su) (fun s p => slowOrder_su p s) ps s
@[simp] theorem slowOrders_lines (ps : List (Fin 32)) (s : State) : (slowOrders ps s).lines = s.lines :=
  foldl_unchanged (fun s => s.lines) (fun s p => slowOrder_lines p s) ps s
@[simp] theorem slowOrders_tu (ps : List (Fin 32)) (s : State) : (slowOrders ps s).tu = s.tu :=
  foldl_unchanged (fun s => s.tu) (fun s p => slowOrder_tu p s) ps s
@[simp] theorem slowOrders_ss (ps : List (Fin 32)) (s : State) : (slowOrders ps s).ss = s.ss :=
  foldl_unchanged (fun s => s.ss) (fun s p => slowOrder_ss p s) ps s
@[simp] theorem slowOrders_ibi (ps : List (Fin 32)) (s : State) : (slowOrders ps s).ibi = s.ibi :=
  foldl_unchanged (fun s => s.ibi) (fun s p => slowOrder_ibi p s) ps s
@[simp] theorem slowOrders_cp (ps : List (Fin 32)) (s : State) : (slowOrders ps s).cp = s.cp :=
  foldl_unchanged (fun s => s.cp) (fun s p => slowOrder_cp p s) ps s
@[simp] theorem slowOrders_au (ps : List (Fin 32)) (s : State) : (slowOrders ps s).au = s.au :=
  foldl_unchanged (fun s => s.au) (fun s p => slowOrder_au p s) ps s
@[simp] theorem slowOrders_pins (ps : List (Fin 32)) (s : State) : (slowOrders ps s).pins = s.pins :=
  foldl_unchanged (fun s => s.pins) (fun s p => slowOrder_pins p s) ps s
@[simp] theorem slowOrders_draws (ps : List (Fin 32)) (s : State) : (slowOrders ps s).draws = s.draws :=
  foldl_unchanged (fun s => s.draws) (fun s p => slowOrder_draws p s) ps s
@[simp] theorem slowOrders_pending (ps : List (Fin 32)) (s : State) : (slowOrders ps s).pending = s.pending :=
  foldl_unchanged (fun s => s.pending) (fun s p => slowOrder_pending p s) ps s

/-! ### pumpReady -/

@[simp] theorem pumpReady_su (p : Fin 32) (s : State) : (pumpReady p s).su = s.su := by unfold pumpReady; split <;> simp
@[simp] theorem pumpReady_lines (p : Fin 32) (s : State) : (pumpReady p s).lines = s.lines := by unfold pumpReady; split <;> simp
@[simp] theorem pumpReady_tu (p : Fin 32) (s : State) : (pumpReady p s).tu = s.tu := by unfold pumpReady; split <;> simp
@[simp] theorem pumpReady_ss (p : Fin 32) (s : State) : (pumpReady p s).ss = s.ss := by unfold pumpReady; split <;> simp
@[simp] theorem pumpReady_ibi (p : Fin 32) (s : State) : (pumpReady p s).ibi = s.ibi := by unfold pumpReady; split <;> simp
@[simp] theorem pumpReady_cp (p : Fin 32) (s : State) : (pumpReady p s).cp = s.cp := by unfold pumpReady; split <;> simp
@[simp] theorem pumpReady_au (p : Fin 32) (s : State) : (pumpReady p s).au = s.au := by unfold pumpReady; split <;> simp
@[simp] theorem pumpReady_pins (p : Fin 32) (s : State) : (pumpReady p s).pins = s.pins := by unfold pumpReady; split <;> simp
@[simp] theorem pumpReady_draws (p : Fin 32) (s : State) : (pumpReady p s).draws = s.draws := by unfold pumpReady; split <;> simp
@[simp] theorem pumpReady_pending (p : Fin 32) (s : State) : (pumpReady p s).pending = s.pending := by unfold pumpReady; split <;> simp

/-! ### requestPump -/

@[simp] theorem requestPump_gm (p : Fin 32) (l : Fin 4) (s : State) : ((requestPump p l s).1).gm = s.gm := by unfold requestPump; split <;> rfl
@[simp] theorem requestPump_su (p : Fin 32) (l : Fin 4) (s : State) : ((requestPump p l s).1).su = s.su := by unfold requestPump; split <;> rfl
@[simp] theorem requestPump_points (p : Fin 32) (l : Fin 4) (s : State) : ((requestPump p l s).1).points = s.points := by unfold requestPump; split <;> rfl
@[simp] theorem requestPump_tu (p : Fin 32) (l : Fin 4) (s : State) : ((requestPump p l s).1).tu = s.tu := by unfold requestPump; split <;> rfl
@[simp] theorem requestPump_ss (p : Fin 32) (l : Fin 4) (s : State) : ((requestPump p l s).1).ss = s.ss := by unfold requestPump; split <;> rfl
@[simp] theorem requestPump_ibi (p : Fin 32) (l : Fin 4) (s : State) : ((requestPump p l s).1).ibi = s.ibi := by unfold requestPump; split <;> rfl
@[simp] theorem requestPump_cp (p : Fin 32) (l : Fin 4) (s : State) : ((requestPump p l s).1).cp = s.cp := by unfold requestPump; split <;> rfl
@[simp] theorem requestPump_au (p : Fin 32) (l : Fin 4) (s : State) : ((requestPump p l s).1).au = s.au := by unfold requestPump; split <;> rfl
@[simp] theorem requestPump_pins (p : Fin 32) (l : Fin 4) (s : State) : ((requestPump p l s).1).pins = s.pins := by unfold requestPump; split <;> rfl
@[simp] theorem requestPump_draws (p : Fin 32) (l : Fin 4) (s : State) : ((requestPump p l s).1).draws = s.draws := by unfold requestPump; split <;> rfl
@[simp] theorem requestPump_pending (p : Fin 32) (l : Fin 4) (s : State) : ((requestPump p l s).1).pending = s.pending := by unfold requestPump; split <;> rfl

/-! ### enterPriming -/

@[simp] theorem enterPriming_su (p : Fin 32) (s : State) : (enterPriming p s).su = s.su := by unfold enterPriming; split <;> [split; skip] <;> simp
@[simp] theorem enterPriming_tu (p : Fin 32) (s : State) : (enterPriming p s).tu = s.tu := by unfold enterPriming; split <;> [split; skip] <;> simp
@[simp] theorem enterPriming_ss (p : Fin 32) (s : State) : (enterPriming p s).ss = s.ss := by unfold enterPriming; split <;> [split; skip] <;> simp
@[simp] theorem enterPriming_ibi (p : Fin 32) (s : State) : (enterPriming p s).ibi = s.ibi := by unfold enterPriming; split <;> [split; skip] <;> simp
@[simp] theorem enterPriming_cp (p : Fin 32) (s : State) : (enterPriming p s).cp = s.cp := by unfold enterPriming; split <;> [split; skip] <;> simp
@[simp] theorem enterPriming_au (p : Fin 32) (s : State) : (enterPriming p s).au = s.au := by unfold enterPriming; split <;> [split; skip] <;> simp
@[simp] theorem enterPriming_pins (p : Fin 32) (s : State) : (enterPriming p s).pins = s.pins := by unfold enterPriming; split <;> [split; skip] <;> simp
@[simp] theorem enterPriming_draws (p : Fin 32) (s : State) : (enterPriming p s).draws = s.draws := by unfold enterPriming; split <;> [split; skip] <;> simp
@[simp] theorem enterPriming_pending (p : Fin 32) (s : State) : (enterPriming p s).pending = s.pending := by unfold enterPriming; split <;> [split; skip] <;> simp

/-! ### detach -/

@[simp] theorem detach_gm (p : Fin 32) (s : State) : (detach p s).gm = s.gm := rfl
@[simp] theorem detach_su (p : Fin 32) (s : State) : (detach p s).su = s.su := rfl
@[simp] theorem detach_lines (p : Fin 32) (s : State) : (detach p s).lines = s.lines := rfl
@[simp] theorem detach_tu (p : Fin 32) (s : State) : (detach p s).tu = s.tu := rfl
@[simp] theorem detach_ss (p : Fin 32) (s : State) : (detach p s).ss = s.ss := rfl
@[simp] theorem detach_ibi (p : Fin 32) (s : State) : (detach p s).ibi = s.ibi := rfl
@[simp] theorem detach_cp (p : Fin 32) (s : State) : (detach p s).cp = s.cp := rfl
@[simp] theorem detach_au (p : Fin 32) (s : State) : (detach p s).au = s.au := rfl
@[simp] theorem detach_pins (p : Fin 32) (s : State) : (detach p s).pins = s.pins := rfl
@[simp] theorem detach_draws (p : Fin 32) (s : State) : (detach p s).draws = s.draws := rfl
@[simp] theorem detach_pending (p : Fin 32) (s : State) : (detach p s).pending = s.pending := rfl

/-! ### detachAll -/

@[simp] theorem detachAll_gm (ps : List (Fin 32)) (s : State) : (detachAll ps s).gm = s.gm :=
  foldl_unchanged (fun s => s.gm) (fun s p => detach_gm p s) ps s
@[simp] theorem detachAll_su (ps : List (Fin 32)) (s : State) : (detachAll ps s).su = s.su :=
  foldl_unchanged (fun s => s.su) (fun s p => detach_su p s) ps s
@[simp] theorem detachAll_lines (ps : List (Fin 32)) (s : State) : (detachAll ps s).lines = s.lines :=
  foldl_unchanged (fun s => s.lines) (fun s p => detach_lines p s) ps s
@[simp] theorem detachAll_tu (ps : List (Fin 32)) (s : State) : (detachAll ps s).tu = s.tu :=
  foldl_unchanged (fun s => s.tu) (fun s p => detach_tu p s) ps s
@[simp] theorem detachAll_ss (ps : List (Fin 32)) (s : State) : (detachAll ps s).ss = s.ss :=
  foldl_unchanged (fun s => s.ss) (fun s p => detach_ss p s) ps s
@[simp] theorem detachAll_ibi (ps : List (Fin 32)) (s : State) : (detachAll ps s).ibi = s.ibi :=
  foldl_unchanged (fun s => s.ibi) (fun s p => detach_ibi p s) ps s
@[simp] theorem detachAll_cp (ps : List (Fin 32)) (s : State) : (detachAll ps s).cp = s.cp :=
  foldl_unchanged (fun s => s.cp) (fun s p => detach_cp p s) ps s
@[simp] theorem detachAll_au (ps : List (Fin 32)) (s : State) : (detachAll ps s).au = s.au :=
  foldl_unchanged (fun s => s.au) (fun s p => detach_au p s) ps s
@[simp] theorem detachAll_pins (ps : List (Fin 32)) (s : State) : (detachAll ps s).pins = s.pins :=
  foldl_unchanged (fun s => s.pins) (fun s p => detach_pins p s) ps s
@[simp] theorem detachAll_draws (ps : List (Fin 32)) (s : State) : (detachAll ps s).draws = s.draws :=
  foldl_unchanged (fun s => s.draws) (fun s p => detach_draws p s) ps s
@[simp] theorem detachAll_pending (ps : List (Fin 32)) (s : State) : (detachAll ps s).pending = s.pending :=
  foldl_unchanged (fun s => s.pending) (fun s p => detach_pending p s) ps s

/-! ### attachAll -/

@[simp] theorem attachAll_gm (tag : Nat) (ps : List (Fin 32)) (s : State) : (attachAll tag ps s).gm = s.gm :=
  foldl_unchanged (fun s => s.gm) (f := fun s p => s.setPoint p { s.point p with tag := some tag }) (fun _ _ => rfl) ps s
@[simp] theorem attachAll_su (tag : Nat) (ps : List (Fin 32)) (s : State) : (attachAll tag ps s).su = s.su :=
  foldl_unchanged (fun s => s.su) (f := fun s p => s.setPoint p { s.point p with tag := some tag }) (fun _ _ => rfl) ps s
@[simp] theorem attachAll_lines (tag : Nat) (ps : List (Fin 32)) (s : State) : (attachAll tag ps s).lines = s.lines :=
  foldl_unchanged (fun s => s.lines) (f := fun s p => s.setPoint p { s.point p with tag := some tag }) (fun _ _ => rfl) ps s
@[simp] theorem attachAll_tu (tag : Nat) (ps : List (Fin 32)) (s : State) : (attachAll tag ps s).tu = s.tu :=
  foldl_unchanged (fun s => s.tu) (f := fun s p => s.setPoint p { s.point p with tag := some tag }) (fun _ _ => rfl) ps s
@[simp] theorem attachAll_ss (tag : Nat) (ps : List (Fin 32)) (s : State) : (attachAll tag ps s).ss = s.ss :=
  foldl_unchanged (fun s => s.ss) (f := fun s p => s.setPoint p { s.point p with tag := some tag }) (fun _ _ => rfl) ps s
@[simp] theorem attachAll_ibi (tag : Nat) (ps : List (Fin 32)) (s : State) : (attachAll tag ps s).ibi = s.ibi :=
  foldl_unchanged (fun s => s.ibi) (f := fun s p => s.setPoint p { s.point p with tag := some tag }) (fun _ _ => rfl) ps s
@[simp] theorem attachAll_cp (tag : Nat) (ps : List (Fin 32)) (s : State) : (attachAll tag ps s).cp = s.cp :=
  foldl_unchanged (fun s => s.cp) (f := fun s p => s.setPoint p { s.point p with tag := some tag }) (fun _ _ => rfl) ps s
@[simp] theorem attachAll_au (tag : Nat) (ps : List (Fin 32)) (s : State) : (attachAll tag ps s).au = s.au :=
  foldl_unchanged (fun s => s.au) (f := fun s p => s.setPoint p { s.point p with tag := some tag }) (fun _ _ => rfl) ps s
@[simp] theorem attachAll_pins (tag : Nat) (ps : List (Fin 32)) (s : State) : (attachAll tag ps s).pins = s.pins :=
  foldl_unchanged (fun s => s.pins) (f := fun s p => s.setPoint p { s.point p with tag := some tag }) (fun _ _ => rfl) ps s
@[simp] theorem attachAll_draws (tag : Nat) (ps : List (Fin 32)) (s : State) : (attachAll tag ps s).draws = s.draws :=
  foldl_unchanged (fun s => s.draws) (f := fun s p => s.setPoint p { s.point p with tag := some tag }) (fun _ _ => rfl) ps s
@[simp] theorem attachAll_pending (tag : Nat) (ps : List (Fin 32)) (s : State) : (attachAll tag ps s).pending = s.pending :=
  foldl_unchanged (fun s => s.pending) (f := fun s p => s.setPoint p { s.point p with tag := some tag }) (fun _ _ => rfl) ps s

/-! ### handAmount -/

@[simp] theorem handAmount_gm (g : Grant) (s : State) : (handAmount g s).gm = s.gm := by unfold handAmount; split <;> rfl
@[simp] theorem handAmount_points (g : Grant) (s : State) : (handAmount g s).points = s.points := by unfold handAmount; split <;> rfl
@[simp] theorem handAmount_lines (g : Grant) (s : State) : (handAmount g s).lines = s.lines := by unfold handAmount; split <;> rfl
@[simp] theorem handAmount_tu (g : Grant) (s : State) : (handAmount g s).tu = s.tu := by unfold handAmount; split <;> rfl
@[simp] theorem handAmount_ss (g : Grant) (s : State) : (handAmount g s).ss = s.ss := by unfold handAmount; split <;> rfl
@[simp] theorem handAmount_ibi (g : Grant) (s : State) : (handAmount g s).ibi = s.ibi := by unfold handAmount; split <;> rfl
@[simp] theorem handAmount_cp (g : Grant) (s : State) : (handAmount g s).cp = s.cp := by unfold handAmount; split <;> rfl
@[simp] theorem handAmount_au (g : Grant) (s : State) : (handAmount g s).au = s.au := by unfold handAmount; split <;> rfl
@[simp] theorem handAmount_pins (g : Grant) (s : State) : (handAmount g s).pins = s.pins := by unfold handAmount; split <;> rfl
@[simp] theorem handAmount_draws (g : Grant) (s : State) : (handAmount g s).draws = s.draws := by unfold handAmount; split <;> rfl
@[simp] theorem handAmount_pending (g : Grant) (s : State) : (handAmount g s).pending = s.pending := by unfold handAmount; split <;> rfl

/-! ### queueNotice -/

@[simp] theorem queueNotice_gm (n : Fin 8) (x : Notice) (s : State) : (queueNotice n x s).gm = s.gm := by unfold queueNotice; split <;> rfl
@[simp] theorem queueNotice_su (n : Fin 8) (x : Notice) (s : State) : (queueNotice n x s).su = s.su := by unfold queueNotice; split <;> rfl
@[simp] theorem queueNotice_points (n : Fin 8) (x : Notice) (s : State) : (queueNotice n x s).points = s.points := by unfold queueNotice; split <;> rfl
@[simp] theorem queueNotice_lines (n : Fin 8) (x : Notice) (s : State) : (queueNotice n x s).lines = s.lines := by unfold queueNotice; split <;> rfl
@[simp] theorem queueNotice_tu (n : Fin 8) (x : Notice) (s : State) : (queueNotice n x s).tu = s.tu := by unfold queueNotice; split <;> rfl
@[simp] theorem queueNotice_ss (n : Fin 8) (x : Notice) (s : State) : (queueNotice n x s).ss = s.ss := by unfold queueNotice; split <;> rfl
@[simp] theorem queueNotice_cp (n : Fin 8) (x : Notice) (s : State) : (queueNotice n x s).cp = s.cp := by unfold queueNotice; split <;> rfl
@[simp] theorem queueNotice_au (n : Fin 8) (x : Notice) (s : State) : (queueNotice n x s).au = s.au := by unfold queueNotice; split <;> rfl
@[simp] theorem queueNotice_pins (n : Fin 8) (x : Notice) (s : State) : (queueNotice n x s).pins = s.pins := by unfold queueNotice; split <;> rfl
@[simp] theorem queueNotice_draws (n : Fin 8) (x : Notice) (s : State) : (queueNotice n x s).draws = s.draws := by unfold queueNotice; split <;> rfl
@[simp] theorem queueNotice_pending (n : Fin 8) (x : Notice) (s : State) : (queueNotice n x s).pending = s.pending := by unfold queueNotice; split <;> rfl

/-! ### placeSiteNotice -/

@[simp] theorem placeSiteNotice_gm (s : State) : (placeSiteNotice s).gm = s.gm := rfl
@[simp] theorem placeSiteNotice_su (s : State) : (placeSiteNotice s).su = s.su := rfl
@[simp] theorem placeSiteNotice_points (s : State) : (placeSiteNotice s).points = s.points := rfl
@[simp] theorem placeSiteNotice_lines (s : State) : (placeSiteNotice s).lines = s.lines := rfl
@[simp] theorem placeSiteNotice_tu (s : State) : (placeSiteNotice s).tu = s.tu := rfl
@[simp] theorem placeSiteNotice_ss (s : State) : (placeSiteNotice s).ss = s.ss := rfl
@[simp] theorem placeSiteNotice_cp (s : State) : (placeSiteNotice s).cp = s.cp := rfl
@[simp] theorem placeSiteNotice_au (s : State) : (placeSiteNotice s).au = s.au := rfl
@[simp] theorem placeSiteNotice_pins (s : State) : (placeSiteNotice s).pins = s.pins := rfl
@[simp] theorem placeSiteNotice_draws (s : State) : (placeSiteNotice s).draws = s.draws := rfl
@[simp] theorem placeSiteNotice_pending (s : State) : (placeSiteNotice s).pending = s.pending := rfl

/-! ### sendReply -/

@[simp] theorem sendReply_gm (n : Fin 8) (k : Nat) (s : State) : (sendReply n k s).gm = s.gm := by unfold sendReply; split <;> [split; skip] <;> rfl
@[simp] theorem sendReply_su (n : Fin 8) (k : Nat) (s : State) : (sendReply n k s).su = s.su := by unfold sendReply; split <;> [split; skip] <;> rfl
@[simp] theorem sendReply_points (n : Fin 8) (k : Nat) (s : State) : (sendReply n k s).points = s.points := by unfold sendReply; split <;> [split; skip] <;> rfl
@[simp] theorem sendReply_lines (n : Fin 8) (k : Nat) (s : State) : (sendReply n k s).lines = s.lines := by unfold sendReply; split <;> [split; skip] <;> rfl
@[simp] theorem sendReply_tu (n : Fin 8) (k : Nat) (s : State) : (sendReply n k s).tu = s.tu := by unfold sendReply; split <;> [split; skip] <;> rfl
@[simp] theorem sendReply_ss (n : Fin 8) (k : Nat) (s : State) : (sendReply n k s).ss = s.ss := by unfold sendReply; split <;> [split; skip] <;> rfl
@[simp] theorem sendReply_cp (n : Fin 8) (k : Nat) (s : State) : (sendReply n k s).cp = s.cp := by unfold sendReply; split <;> [split; skip] <;> rfl
@[simp] theorem sendReply_au (n : Fin 8) (k : Nat) (s : State) : (sendReply n k s).au = s.au := by unfold sendReply; split <;> [split; skip] <;> rfl
@[simp] theorem sendReply_pins (n : Fin 8) (k : Nat) (s : State) : (sendReply n k s).pins = s.pins := by unfold sendReply; split <;> [split; skip] <;> rfl
@[simp] theorem sendReply_draws (n : Fin 8) (k : Nat) (s : State) : (sendReply n k s).draws = s.draws := by unfold sendReply; split <;> [split; skip] <;> rfl
@[simp] theorem sendReply_pending (n : Fin 8) (k : Nat) (s : State) : (sendReply n k s).pending = s.pending := by unfold sendReply; split <;> [split; skip] <;> rfl

/-! ### placeReply -/

@[simp] theorem placeReply_gm (n : Fin 8) (r : Reply) (s : State) : (placeReply n r s).gm = s.gm := by unfold placeReply; split <;> [split; skip] <;> simp
@[simp] theorem placeReply_su (n : Fin 8) (r : Reply) (s : State) : (placeReply n r s).su = s.su := by unfold placeReply; split <;> [split; skip] <;> simp
@[simp] theorem placeReply_points (n : Fin 8) (r : Reply) (s : State) : (placeReply n r s).points = s.points := by unfold placeReply; split <;> [split; skip] <;> simp
@[simp] theorem placeReply_lines (n : Fin 8) (r : Reply) (s : State) : (placeReply n r s).lines = s.lines := by unfold placeReply; split <;> [split; skip] <;> simp
@[simp] theorem placeReply_tu (n : Fin 8) (r : Reply) (s : State) : (placeReply n r s).tu = s.tu := by unfold placeReply; split <;> [split; skip] <;> simp
@[simp] theorem placeReply_ss (n : Fin 8) (r : Reply) (s : State) : (placeReply n r s).ss = s.ss := by unfold placeReply; split <;> [split; skip] <;> simp
@[simp] theorem placeReply_cp (n : Fin 8) (r : Reply) (s : State) : (placeReply n r s).cp = s.cp := by unfold placeReply; split <;> [split; skip] <;> simp
@[simp] theorem placeReply_au (n : Fin 8) (r : Reply) (s : State) : (placeReply n r s).au = s.au := by unfold placeReply; split <;> [split; skip] <;> simp
@[simp] theorem placeReply_pins (n : Fin 8) (r : Reply) (s : State) : (placeReply n r s).pins = s.pins := by unfold placeReply; split <;> [split; skip] <;> simp
@[simp] theorem placeReply_draws (n : Fin 8) (r : Reply) (s : State) : (placeReply n r s).draws = s.draws := by unfold placeReply; split <;> [split; skip] <;> simp
@[simp] theorem placeReply_pending (n : Fin 8) (r : Reply) (s : State) : (placeReply n r s).pending = s.pending := by unfold placeReply; split <;> [split; skip] <;> simp

/-! ### flushLane -/

@[simp] theorem flushLane_gm (n : Fin 8) (s : State) : (flushLane n s).gm = s.gm := rfl
@[simp] theorem flushLane_su (n : Fin 8) (s : State) : (flushLane n s).su = s.su := rfl
@[simp] theorem flushLane_points (n : Fin 8) (s : State) : (flushLane n s).points = s.points := rfl
@[simp] theorem flushLane_lines (n : Fin 8) (s : State) : (flushLane n s).lines = s.lines := rfl
@[simp] theorem flushLane_tu (n : Fin 8) (s : State) : (flushLane n s).tu = s.tu := rfl
@[simp] theorem flushLane_ss (n : Fin 8) (s : State) : (flushLane n s).ss = s.ss := rfl
@[simp] theorem flushLane_cp (n : Fin 8) (s : State) : (flushLane n s).cp = s.cp := rfl
@[simp] theorem flushLane_au (n : Fin 8) (s : State) : (flushLane n s).au = s.au := rfl
@[simp] theorem flushLane_pins (n : Fin 8) (s : State) : (flushLane n s).pins = s.pins := rfl
@[simp] theorem flushLane_draws (n : Fin 8) (s : State) : (flushLane n s).draws = s.draws := rfl
@[simp] theorem flushLane_pending (n : Fin 8) (s : State) : (flushLane n s).pending = s.pending := rfl

/-! ### haltTest -/

@[simp] theorem haltTest_gm (s : State) : (haltTest s).gm = s.gm := by unfold haltTest; split <;> rfl
@[simp] theorem haltTest_su (s : State) : (haltTest s).su = s.su := by unfold haltTest; split <;> rfl
@[simp] theorem haltTest_points (s : State) : (haltTest s).points = s.points := by unfold haltTest; split <;> rfl
@[simp] theorem haltTest_lines (s : State) : (haltTest s).lines = s.lines := by unfold haltTest; split <;> rfl
@[simp] theorem haltTest_tu (s : State) : (haltTest s).tu = s.tu := by unfold haltTest; split <;> rfl
@[simp] theorem haltTest_ibi (s : State) : (haltTest s).ibi = s.ibi := by unfold haltTest; split <;> rfl
@[simp] theorem haltTest_cp (s : State) : (haltTest s).cp = s.cp := by unfold haltTest; split <;> rfl
@[simp] theorem haltTest_pins (s : State) : (haltTest s).pins = s.pins := by unfold haltTest; split <;> rfl
@[simp] theorem haltTest_draws (s : State) : (haltTest s).draws = s.draws := by unfold haltTest; split <;> rfl
@[simp] theorem haltTest_pending (s : State) : (haltTest s).pending = s.pending := by unfold haltTest; split <;> rfl

/-! ### settleCore -/

@[simp] theorem settleCore_lines (i : Fin 24) (s : State) : (settleCore i s).lines = s.lines := by unfold settleCore; split <;> [split; skip] <;> simp
@[simp] theorem settleCore_tu (i : Fin 24) (s : State) : (settleCore i s).tu = s.tu := by unfold settleCore; split <;> [split; skip] <;> simp
@[simp] theorem settleCore_ss (i : Fin 24) (s : State) : (settleCore i s).ss = s.ss := by unfold settleCore; split <;> [split; skip] <;> simp
@[simp] theorem settleCore_cp (i : Fin 24) (s : State) : (settleCore i s).cp = s.cp := by unfold settleCore; split <;> [split; skip] <;> simp
@[simp] theorem settleCore_au (i : Fin 24) (s : State) : (settleCore i s).au = s.au := by unfold settleCore; split <;> [split; skip] <;> simp
@[simp] theorem settleCore_pins (i : Fin 24) (s : State) : (settleCore i s).pins = s.pins := by unfold settleCore; split <;> [split; skip] <;> simp
@[simp] theorem settleCore_draws (i : Fin 24) (s : State) : (settleCore i s).draws = s.draws := by unfold settleCore; split <;> [split; skip] <;> simp
@[simp] theorem settleCore_pending (i : Fin 24) (s : State) : (settleCore i s).pending = s.pending := by unfold settleCore; split <;> [split; skip] <;> simp

/-! ### settle -/

@[simp] theorem settle_lines (i : Fin 24) (s : State) : (settle i s).lines = s.lines := by unfold settle; simp
@[simp] theorem settle_tu (i : Fin 24) (s : State) : (settle i s).tu = s.tu := by unfold settle; simp
@[simp] theorem settle_cp (i : Fin 24) (s : State) : (settle i s).cp = s.cp := by unfold settle; simp
@[simp] theorem settle_pins (i : Fin 24) (s : State) : (settle i s).pins = s.pins := by unfold settle; simp
@[simp] theorem settle_draws (i : Fin 24) (s : State) : (settle i s).draws = s.draws := by unfold settle; simp
@[simp] theorem settle_pending (i : Fin 24) (s : State) : (settle i s).pending = s.pending := by unfold settle; simp

/-! ### completionTest -/

@[simp] theorem completionTest_lines (i : Fin 24) (s : State) : (completionTest i s).lines = s.lines := by unfold completionTest; split <;> simp
@[simp] theorem completionTest_tu (i : Fin 24) (s : State) : (completionTest i s).tu = s.tu := by unfold completionTest; split <;> simp
@[simp] theorem completionTest_cp (i : Fin 24) (s : State) : (completionTest i s).cp = s.cp := by unfold completionTest; split <;> simp
@[simp] theorem completionTest_pins (i : Fin 24) (s : State) : (completionTest i s).pins = s.pins := by unfold completionTest; split <;> simp
@[simp] theorem completionTest_draws (i : Fin 24) (s : State) : (completionTest i s).draws = s.draws := by unfold completionTest; split <;> simp
@[simp] theorem completionTest_pending (i : Fin 24) (s : State) : (completionTest i s).pending = s.pending := by unfold completionTest; split <;> simp

/-! ### enterClosingCore -/

@[simp] theorem enterClosingCore_su (i : Fin 24) (r : EndReason) (s : State) : (enterClosingCore i r s).su = s.su := by unfold enterClosingCore; split <;> simp
@[simp] theorem enterClosingCore_tu (i : Fin 24) (r : EndReason) (s : State) : (enterClosingCore i r s).tu = s.tu := by unfold enterClosingCore; split <;> simp
@[simp] theorem enterClosingCore_ss (i : Fin 24) (r : EndReason) (s : State) : (enterClosingCore i r s).ss = s.ss := by unfold enterClosingCore; split <;> simp
@[simp] theorem enterClosingCore_ibi (i : Fin 24) (r : EndReason) (s : State) : (enterClosingCore i r s).ibi = s.ibi := by unfold enterClosingCore; split <;> simp
@[simp] theorem enterClosingCore_cp (i : Fin 24) (r : EndReason) (s : State) : (enterClosingCore i r s).cp = s.cp := by unfold enterClosingCore; split <;> simp
@[simp] theorem enterClosingCore_au (i : Fin 24) (r : EndReason) (s : State) : (enterClosingCore i r s).au = s.au := by unfold enterClosingCore; split <;> simp
@[simp] theorem enterClosingCore_pins (i : Fin 24) (r : EndReason) (s : State) : (enterClosingCore i r s).pins = s.pins := by unfold enterClosingCore; split <;> simp
@[simp] theorem enterClosingCore_draws (i : Fin 24) (r : EndReason) (s : State) : (enterClosingCore i r s).draws = s.draws := by unfold enterClosingCore; split <;> simp
@[simp] theorem enterClosingCore_pending (i : Fin 24) (r : EndReason) (s : State) : (enterClosingCore i r s).pending = s.pending := by unfold enterClosingCore; split <;> simp

/-! ### enterClosing -/

@[simp] theorem enterClosing_tu (i : Fin 24) (r : EndReason) (s : State) : (enterClosing i r s).tu = s.tu := by unfold enterClosing; simp
@[simp] theorem enterClosing_cp (i : Fin 24) (r : EndReason) (s : State) : (enterClosing i r s).cp = s.cp := by unfold enterClosing; simp
@[simp] theorem enterClosing_pins (i : Fin 24) (r : EndReason) (s : State) : (enterClosing i r s).pins = s.pins := by unfold enterClosing; simp
@[simp] theorem enterClosing_draws (i : Fin 24) (r : EndReason) (s : State) : (enterClosing i r s).draws = s.draws := by unfold enterClosing; simp
@[simp] theorem enterClosing_pending (i : Fin 24) (r : EndReason) (s : State) : (enterClosing i r s).pending = s.pending := by unfold enterClosing; simp

/-! ### endNow -/

@[simp] theorem endNow_lines (i : Fin 24) (r : EndReason) (s : State) : (endNow i r s).lines = s.lines := by unfold endNow; simp
@[simp] theorem endNow_tu (i : Fin 24) (r : EndReason) (s : State) : (endNow i r s).tu = s.tu := by unfold endNow; simp
@[simp] theorem endNow_cp (i : Fin 24) (r : EndReason) (s : State) : (endNow i r s).cp = s.cp := by unfold endNow; simp
@[simp] theorem endNow_pins (i : Fin 24) (r : EndReason) (s : State) : (endNow i r s).pins = s.pins := by unfold endNow; simp
@[simp] theorem endNow_draws (i : Fin 24) (r : EndReason) (s : State) : (endNow i r s).draws = s.draws := by unfold endNow; simp
@[simp] theorem endNow_pending (i : Fin 24) (r : EndReason) (s : State) : (endNow i r s).pending = s.pending := by unfold endNow; simp

/-! ### enterHeld -/

@[simp] theorem enterHeld_su (i : Fin 24) (s : State) : (enterHeld i s).su = s.su := by unfold enterHeld; split <;> simp
@[simp] theorem enterHeld_tu (i : Fin 24) (s : State) : (enterHeld i s).tu = s.tu := by unfold enterHeld; split <;> simp
@[simp] theorem enterHeld_ss (i : Fin 24) (s : State) : (enterHeld i s).ss = s.ss := by unfold enterHeld; split <;> simp
@[simp] theorem enterHeld_ibi (i : Fin 24) (s : State) : (enterHeld i s).ibi = s.ibi := by unfold enterHeld; split <;> simp
@[simp] theorem enterHeld_cp (i : Fin 24) (s : State) : (enterHeld i s).cp = s.cp := by unfold enterHeld; split <;> simp
@[simp] theorem enterHeld_au (i : Fin 24) (s : State) : (enterHeld i s).au = s.au := by unfold enterHeld; split <;> simp
@[simp] theorem enterHeld_pins (i : Fin 24) (s : State) : (enterHeld i s).pins = s.pins := by unfold enterHeld; split <;> simp
@[simp] theorem enterHeld_draws (i : Fin 24) (s : State) : (enterHeld i s).draws = s.draws := by unfold enterHeld; split <;> simp
@[simp] theorem enterHeld_pending (i : Fin 24) (s : State) : (enterHeld i s).pending = s.pending := by unfold enterHeld; split <;> simp

/-! ### startWaitTimer -/

@[simp] theorem startWaitTimer_su (i : Fin 24) (s : State) : (startWaitTimer i s).su = s.su := by unfold startWaitTimer; split <;> [split; skip] <;> simp
@[simp] theorem startWaitTimer_points (i : Fin 24) (s : State) : (startWaitTimer i s).points = s.points := by unfold startWaitTimer; split <;> [split; skip] <;> simp
@[simp] theorem startWaitTimer_lines (i : Fin 24) (s : State) : (startWaitTimer i s).lines = s.lines := by unfold startWaitTimer; split <;> [split; skip] <;> simp
@[simp] theorem startWaitTimer_tu (i : Fin 24) (s : State) : (startWaitTimer i s).tu = s.tu := by unfold startWaitTimer; split <;> [split; skip] <;> simp
@[simp] theorem startWaitTimer_ss (i : Fin 24) (s : State) : (startWaitTimer i s).ss = s.ss := by unfold startWaitTimer; split <;> [split; skip] <;> simp
@[simp] theorem startWaitTimer_ibi (i : Fin 24) (s : State) : (startWaitTimer i s).ibi = s.ibi := by unfold startWaitTimer; split <;> [split; skip] <;> simp
@[simp] theorem startWaitTimer_cp (i : Fin 24) (s : State) : (startWaitTimer i s).cp = s.cp := by unfold startWaitTimer; split <;> [split; skip] <;> simp
@[simp] theorem startWaitTimer_au (i : Fin 24) (s : State) : (startWaitTimer i s).au = s.au := by unfold startWaitTimer; split <;> [split; skip] <;> simp
@[simp] theorem startWaitTimer_pins (i : Fin 24) (s : State) : (startWaitTimer i s).pins = s.pins := by unfold startWaitTimer; split <;> [split; skip] <;> simp
@[simp] theorem startWaitTimer_draws (i : Fin 24) (s : State) : (startWaitTimer i s).draws = s.draws := by unfold startWaitTimer; split <;> [split; skip] <;> simp
@[simp] theorem startWaitTimer_pending (i : Fin 24) (s : State) : (startWaitTimer i s).pending = s.pending := by unfold startWaitTimer; split <;> [split; skip] <;> simp

/-! ### liftReport -/

@[simp] theorem liftReport_su (i : Fin 24) (p : Fin 32) (c : Bool) (s : State) : (liftReport i p c s).su = s.su := by unfold liftReport; split <;> [split; skip] <;> (try split) <;> simp
@[simp] theorem liftReport_tu (i : Fin 24) (p : Fin 32) (c : Bool) (s : State) : (liftReport i p c s).tu = s.tu := by unfold liftReport; split <;> [split; skip] <;> (try split) <;> simp
@[simp] theorem liftReport_ss (i : Fin 24) (p : Fin 32) (c : Bool) (s : State) : (liftReport i p c s).ss = s.ss := by unfold liftReport; split <;> [split; skip] <;> (try split) <;> simp
@[simp] theorem liftReport_ibi (i : Fin 24) (p : Fin 32) (c : Bool) (s : State) : (liftReport i p c s).ibi = s.ibi := by unfold liftReport; split <;> [split; skip] <;> (try split) <;> simp
@[simp] theorem liftReport_cp (i : Fin 24) (p : Fin 32) (c : Bool) (s : State) : (liftReport i p c s).cp = s.cp := by unfold liftReport; split <;> [split; skip] <;> (try split) <;> simp
@[simp] theorem liftReport_au (i : Fin 24) (p : Fin 32) (c : Bool) (s : State) : (liftReport i p c s).au = s.au := by unfold liftReport; split <;> [split; skip] <;> (try split) <;> simp
@[simp] theorem liftReport_pins (i : Fin 24) (p : Fin 32) (c : Bool) (s : State) : (liftReport i p c s).pins = s.pins := by unfold liftReport; split <;> [split; skip] <;> (try split) <;> simp
@[simp] theorem liftReport_draws (i : Fin 24) (p : Fin 32) (c : Bool) (s : State) : (liftReport i p c s).draws = s.draws := by unfold liftReport; split <;> [split; skip] <;> (try split) <;> simp
@[simp] theorem liftReport_pending (i : Fin 24) (p : Fin 32) (c : Bool) (s : State) : (liftReport i p c s).pending = s.pending := by unfold liftReport; split <;> [split; skip] <;> (try split) <;> simp

/-! ### reportLift -/

@[simp] theorem reportLift_su (p : Fin 32) (c : Bool) (s : State) : (reportLift p c s).su = s.su := by unfold reportLift; split <;> simp
@[simp] theorem reportLift_tu (p : Fin 32) (c : Bool) (s : State) : (reportLift p c s).tu = s.tu := by unfold reportLift; split <;> simp
@[simp] theorem reportLift_ss (p : Fin 32) (c : Bool) (s : State) : (reportLift p c s).ss = s.ss := by unfold reportLift; split <;> simp
@[simp] theorem reportLift_ibi (p : Fin 32) (c : Bool) (s : State) : (reportLift p c s).ibi = s.ibi := by unfold reportLift; split <;> simp
@[simp] theorem reportLift_cp (p : Fin 32) (c : Bool) (s : State) : (reportLift p c s).cp = s.cp := by unfold reportLift; split <;> simp
@[simp] theorem reportLift_au (p : Fin 32) (c : Bool) (s : State) : (reportLift p c s).au = s.au := by unfold reportLift; split <;> simp
@[simp] theorem reportLift_pins (p : Fin 32) (c : Bool) (s : State) : (reportLift p c s).pins = s.pins := by unfold reportLift; split <;> simp
@[simp] theorem reportLift_draws (p : Fin 32) (c : Bool) (s : State) : (reportLift p c s).draws = s.draws := by unfold reportLift; split <;> simp
@[simp] theorem reportLift_pending (p : Fin 32) (c : Bool) (s : State) : (reportLift p c s).pending = s.pending := by unfold reportLift; split <;> simp

/-! ### leavePending -/

@[simp] theorem leavePending_su (i : Fin 24) (s : State) : (leavePending i s).su = s.su := by unfold leavePending; split <;> simp
@[simp] theorem leavePending_points (i : Fin 24) (s : State) : (leavePending i s).points = s.points := by unfold leavePending; split <;> simp
@[simp] theorem leavePending_lines (i : Fin 24) (s : State) : (leavePending i s).lines = s.lines := by unfold leavePending; split <;> simp
@[simp] theorem leavePending_tu (i : Fin 24) (s : State) : (leavePending i s).tu = s.tu := by unfold leavePending; split <;> simp
@[simp] theorem leavePending_ss (i : Fin 24) (s : State) : (leavePending i s).ss = s.ss := by unfold leavePending; split <;> simp
@[simp] theorem leavePending_ibi (i : Fin 24) (s : State) : (leavePending i s).ibi = s.ibi := by unfold leavePending; split <;> simp
@[simp] theorem leavePending_cp (i : Fin 24) (s : State) : (leavePending i s).cp = s.cp := by unfold leavePending; split <;> simp
@[simp] theorem leavePending_au (i : Fin 24) (s : State) : (leavePending i s).au = s.au := by unfold leavePending; split <;> simp
@[simp] theorem leavePending_pins (i : Fin 24) (s : State) : (leavePending i s).pins = s.pins := by unfold leavePending; split <;> simp
@[simp] theorem leavePending_draws (i : Fin 24) (s : State) : (leavePending i s).draws = s.draws := by unfold leavePending; split <;> simp
@[simp] theorem leavePending_pending (i : Fin 24) (s : State) : (leavePending i s).pending = s.pending := by unfold leavePending; split <;> simp

/-! ### armingEnd -/

@[simp] theorem armingEnd_lines (i : Fin 24) (s : State) : (armingEnd i s).lines = s.lines := by unfold armingEnd; split <;> (try split) <;> (try split) <;> (try split) <;> simp
@[simp] theorem armingEnd_tu (i : Fin 24) (s : State) : (armingEnd i s).tu = s.tu := by unfold armingEnd; split <;> (try split) <;> (try split) <;> (try split) <;> simp
@[simp] theorem armingEnd_cp (i : Fin 24) (s : State) : (armingEnd i s).cp = s.cp := by unfold armingEnd; split <;> (try split) <;> (try split) <;> (try split) <;> simp
@[simp] theorem armingEnd_pins (i : Fin 24) (s : State) : (armingEnd i s).pins = s.pins := by unfold armingEnd; split <;> (try split) <;> (try split) <;> (try split) <;> simp
@[simp] theorem armingEnd_draws (i : Fin 24) (s : State) : (armingEnd i s).draws = s.draws := by unfold armingEnd; split <;> (try split) <;> (try split) <;> (try split) <;> simp
@[simp] theorem armingEnd_pending (i : Fin 24) (s : State) : (armingEnd i s).pending = s.pending := by unfold armingEnd; split <;> (try split) <;> (try split) <;> (try split) <;> simp

/-! ### arm -/

@[simp] theorem arm_lines (i : Fin 24) (s : State) : (arm i s).lines = s.lines := by unfold arm; split <;> simp
@[simp] theorem arm_tu (i : Fin 24) (s : State) : (arm i s).tu = s.tu := by unfold arm; split <;> simp
@[simp] theorem arm_cp (i : Fin 24) (s : State) : (arm i s).cp = s.cp := by unfold arm; split <;> simp
@[simp] theorem arm_pins (i : Fin 24) (s : State) : (arm i s).pins = s.pins := by unfold arm; split <;> simp
@[simp] theorem arm_draws (i : Fin 24) (s : State) : (arm i s).draws = s.draws := by unfold arm; split <;> simp
@[simp] theorem arm_pending (i : Fin 24) (s : State) : (arm i s).pending = s.pending := by unfold arm; split <;> simp

/-! ### createIn -/

@[simp] theorem createIn_su (i : Fin 24) (g : Grant) (s : State) : (createIn i g s).su = s.su := rfl
@[simp] theorem createIn_points (i : Fin 24) (g : Grant) (s : State) : (createIn i g s).points = s.points := rfl
@[simp] theorem createIn_lines (i : Fin 24) (g : Grant) (s : State) : (createIn i g s).lines = s.lines := rfl
@[simp] theorem createIn_tu (i : Fin 24) (g : Grant) (s : State) : (createIn i g s).tu = s.tu := rfl
@[simp] theorem createIn_ss (i : Fin 24) (g : Grant) (s : State) : (createIn i g s).ss = s.ss := rfl
@[simp] theorem createIn_ibi (i : Fin 24) (g : Grant) (s : State) : (createIn i g s).ibi = s.ibi := rfl
@[simp] theorem createIn_cp (i : Fin 24) (g : Grant) (s : State) : (createIn i g s).cp = s.cp := rfl
@[simp] theorem createIn_au (i : Fin 24) (g : Grant) (s : State) : (createIn i g s).au = s.au := rfl
@[simp] theorem createIn_pins (i : Fin 24) (g : Grant) (s : State) : (createIn i g s).pins = s.pins := rfl
@[simp] theorem createIn_draws (i : Fin 24) (g : Grant) (s : State) : (createIn i g s).draws = s.draws := rfl
@[simp] theorem createIn_pending (i : Fin 24) (g : Grant) (s : State) : (createIn i g s).pending = s.pending := rfl

end Sys2Proof.Machine
end

