-- ==== Sys2Proof/Laws/Points.lean ====
section
/-! SUPPORT. What the orders of the Point Interface and of Line Control do to points and lines: withdrawals, close
orders, attachment, pump ready. -/

namespace Sys2Proof.Machine

/-! ### Reads of a table that an operation leaves alone -/

theorem grantAt_of_gm {s t : State} (h : t.gm = s.gm) (i : Fin 24) : t.grantAt i = s.grantAt i := by
  simp [State.grantAt, h]

theorem point_of_points {s t : State} (h : t.points = s.points) (p : Fin 32) : t.point p = s.point p := by
  simp [State.point, h]

theorem line_of_lines {s t : State} (h : t.lines = s.lines) (l : Fin 4) : t.line l = s.line l := by
  simp [State.line, h]

theorem lane_of_ibi {s t : State} (h : t.ibi = s.ibi) (n : Fin 8) : t.lane n = s.lane n := by
  simp [State.lane, h]

theorem probe_of_tu {s t : State} (h : t.tu = s.tu) (l : Fin 4) : t.probe l = s.probe l := by
  simp [State.probe, h]

/-! ### Withdrawals -/

/-- A withdrawal changes its own line, and that only when the point is in the set. -/
theorem withdrawPump_line (p : Fin 32) (l k : Fin 4) (s : State) :
    (withdrawPump p l s).line k =
      if k = l ∧ hasPoint (s.line l).requesting p = true then (s.line l).withoutRequest p else s.line k := by
  unfold withdrawPump
  by_cases h : hasPoint (s.line l).requesting p = true
  · simp [h]
  · simp [h]

/-- A withdrawal leaves a line's configuration, price and state. -/
@[simp] theorem withoutRequest_config (x : Line) (p : Fin 32) : (x.withoutRequest p).config = x.config := by
  unfold Line.withoutRequest; split <;> rfl

@[simp] theorem withoutRequest_price (x : Line) (p : Fin 32) : (x.withoutRequest p).price = x.price := by
  unfold Line.withoutRequest; split <;> rfl

@[simp] theorem withoutRequest_state (x : Line) (p : Fin 32) : (x.withoutRequest p).state = x.state := by
  unfold Line.withoutRequest; split <;> rfl

@[simp] theorem withoutRequest_requesting (x : Line) (p : Fin 32) :
    (x.withoutRequest p).requesting = dropPoint x.requesting p := by
  unfold Line.withoutRequest; split <;> rfl

@[simp] theorem withdrawPump_points_read (p q : Fin 32) (l : Fin 4) (s : State) :
    (withdrawPump p l s).point q = s.point q :=
  point_of_points (by simp) q

@[simp] theorem withdrawOwn_point (p q : Fin 32) (s : State) : (withdrawOwn p s).point q = s.point q :=
  point_of_points (by simp) q

/-- A point's own withdrawal is one on the line of its configuration. -/
theorem withdrawOwn_line (p : Fin 32) (k : Fin 4) (s : State) :
    (withdrawOwn p s).line k =
      if (s.point p).config.any (·.line == k) = true ∧ hasPoint (s.line k).requesting p = true then
        (s.line k).withoutRequest p
      else s.line k := by
  unfold withdrawOwn
  cases h : (s.point p).config with
  | none => simp
  | some c =>
    rw [withdrawPump_line]
    by_cases e : k = c.line
    · subst e; simp
    · have : c.line ≠ k := fun x => e x.symm
      simp [e, this]

/-! ### Close orders (R76) -/

/-- A close order changes its own point, and that only in PRIMING, FLOWING and SLOWING. -/
theorem closeOrder_point (p q : Fin 32) (s : State) :
    (closeOrder p s).point q =
      if q = p ∧ (s.point p).state.isOpenOrPriming = true then (s.point p).settlingFrom s.cp.timers.settle
      else s.point q := by
  unfold closeOrder closeValve
  by_cases h : (s.point p).state.isOpenOrPriming = true
  · simp [h]
  · simp [h]

@[simp] theorem settling_isOpenOrPriming : PointState.settling.isOpenOrPriming = false := rfl
@[simp] theorem settlingFrom_state (x : Point) (n : Nat) : (x.settlingFrom n).state = .settling := rfl
@[simp] theorem settlingFrom_config (x : Point) (n : Nat) : (x.settlingFrom n).config = x.config := rfl
@[simp] theorem settlingFrom_tag (x : Point) (n : Nat) : (x.settlingFrom n).tag = x.tag := rfl
@[simp] theorem settlingFrom_nozzle (x : Point) (n : Nat) : (x.settlingFrom n).nozzle = x.nozzle := rfl

/-- What close orders do to each point. -/
theorem closeOrders_point (ps : List (Fin 32)) (q : Fin 32) (s : State) :
    (closeOrders ps s).point q =
      if q ∈ ps ∧ (s.point q).state.isOpenOrPriming = true then (s.point q).settlingFrom s.cp.timers.settle
      else s.point q := by
  induction ps generalizing s with
  | nil => simp [closeOrders]
  | cons p rest ih =>
    have step : closeOrders (p :: rest) s = closeOrders rest (closeOrder p s) := rfl
    rw [step, ih, closeOrder_point, closeOrder_cp]
    by_cases e : q = p
    · subst e
      by_cases h : (s.point q).state.isOpenOrPriming = true
      · simp [h]
      · simp [h]
    · simp [e]

@[simp] theorem closeOrders_point_config (ps : List (Fin 32)) (q : Fin 32) (s : State) :
    ((closeOrders ps s).point q).config = (s.point q).config := by
  rw [closeOrders_point]; split <;> simp

@[simp] theorem closeOrders_point_tag (ps : List (Fin 32)) (q : Fin 32) (s : State) :
    ((closeOrders ps s).point q).tag = (s.point q).tag := by
  rw [closeOrders_point]; split <;> simp

@[simp] theorem closeOrders_point_nozzle (ps : List (Fin 32)) (q : Fin 32) (s : State) :
    ((closeOrders ps s).point q).nozzle = (s.point q).nozzle := by
  rw [closeOrders_point]; split <;> simp

@[simp] theorem closeOrders_grantAt (ps : List (Fin 32)) (i : Fin 24) (s : State) :
    (closeOrders ps s).grantAt i = s.grantAt i :=
  grantAt_of_gm (by simp) i

/-- A close order leaves every line's configuration, price and state. -/
theorem closeOrder_line_kept {β : Type} (view : Line → β) (kept : ∀ x p, view (Line.withoutRequest x p) = view x)
    (p : Fin 32) (k : Fin 4) (s : State) : view ((closeOrder p s).line k) = view (s.line k) := by
  unfold closeOrder closeValve
  split
  · rw [withdrawOwn_line]
    split <;> simp [kept]
  · rfl

/-- So do close orders for a list of points. -/
theorem closeOrders_line_kept {β : Type} (view : Line → β) (kept : ∀ x p, view (Line.withoutRequest x p) = view x)
    (ps : List (Fin 32)) (k : Fin 4) (s : State) : view ((closeOrders ps s).line k) = view (s.line k) :=
  foldl_unchanged (fun s => view (s.line k)) (fun s p => closeOrder_line_kept view kept p k s) ps s

/-! ### Attachment -/

/-- Detachment erases the tag of each listed point. -/
theorem detachAll_point (ps : List (Fin 32)) (q : Fin 32) (s : State) :
    (detachAll ps s).point q = if q ∈ ps then { s.point q with tag := none } else s.point q := by
  induction ps generalizing s with
  | nil => simp [detachAll]
  | cons p rest ih =>
    have step : detachAll (p :: rest) s = detachAll rest (detach p s) := rfl
    rw [step, ih]
    by_cases e : q = p
    · subst e; simp [detach]
    · simp [detach, e]

@[simp] theorem detachAll_grantAt (ps : List (Fin 32)) (i : Fin 24) (s : State) :
    (detachAll ps s).grantAt i = s.grantAt i :=
  grantAt_of_gm (by simp) i

/-- Attachment marks each listed point. -/
theorem attachAll_point (tag : Nat) (ps : List (Fin 32)) (q : Fin 32) (s : State) :
    (attachAll tag ps s).point q = if q ∈ ps then { s.point q with tag := some tag } else s.point q := by
  induction ps generalizing s with
  | nil => simp [attachAll]
  | cons p rest ih =>
    have step :
        attachAll tag (p :: rest) s = attachAll tag rest (s.setPoint p { s.point p with tag := some tag }) := rfl
    rw [step, ih]
    by_cases e : q = p
    · subst e; simp
    · simp [e]

@[simp] theorem attachAll_grantAt (tag : Nat) (ps : List (Fin 32)) (i : Fin 24) (s : State) :
    (attachAll tag ps s).grantAt i = s.grantAt i :=
  grantAt_of_gm (by simp) i

/-! ### Pump ready (R72) -/

/-- Pump ready touches its own point alone. -/
theorem pumpReady_point_other {p q : Fin 32} (ne : q ≠ p) (s : State) : (pumpReady p s).point q = s.point q := by
  unfold pumpReady
  split <;> simp [ne]

/-- Pump ready opens its point from PRIMING or leaves it as it is. -/
theorem pumpReady_point_cases (p : Fin 32) (s : State) :
    (pumpReady p s).point p = s.point p
      ∨ (s.point p).state = .priming
        ∧ ∃ residual margin full slow code, (pumpReady p s).point p = (s.point p).opened residual margin full slow code := by
  unfold pumpReady
  split
  · next c _ terms h _ _ _ =>
    refine .inr ⟨h, terms.residual, s.lineField c.line (·.slowMargin), s.lineField c.line (·.fullDuty),
      s.lineField c.line (·.slowDuty), s.cp.timers.noFlow, ?_⟩
    rw [modGrant_point, setPoint_point, if_pos rfl]
  · exact .inl rfl

/-- An opened point is FLOWING or SLOWING. -/
theorem opened_isOpen (x : Point) (residual : Int) (margin full slow code : Nat) :
    (x.opened residual margin full slow code).state.isOpen = true := by
  unfold Point.opened
  split <;> rfl

/-- Pump ready changes a grant in its flowed field alone. -/
theorem pumpReady_grantAt (p : Fin 32) (i : Fin 24) (s : State) :
    (pumpReady p s).grantAt i = s.grantAt i
      ∨ (pumpReady p s).grantAt i = (s.grantAt i).map fun g => { g with flowed := true } := by
  unfold pumpReady
  split
  · next k _ _ _ _ _ =>
    by_cases e : i = k
    · subst e; exact .inr (by simp)
    · exact .inl (by simp [e])
  · exact .inl rfl

end Sys2Proof.Machine
end

