-- ==== Sys2Proof/Laws/Grants.lean ====
section
/-! SUPPORT. What the shared operations of the Grant Manager do to the grants: settlement, the tests of completion and
of the halt, closing, holding, the arming of an allowance. -/

namespace Sys2Proof.Machine

/-! ### Notices leave the grants, the points and the lines alone -/

@[simp] theorem queueNotice_grantAt (n : Fin 8) (x : Notice) (i : Fin 24) (s : State) :
    (queueNotice n x s).grantAt i = s.grantAt i :=
  grantAt_of_gm (by simp) i

@[simp] theorem queueNotice_point (n : Fin 8) (x : Notice) (p : Fin 32) (s : State) :
    (queueNotice n x s).point p = s.point p :=
  point_of_points (by simp) p

@[simp] theorem handAmount_grantAt (g : Grant) (i : Fin 24) (s : State) :
    (handAmount g s).grantAt i = s.grantAt i :=
  grantAt_of_gm (by simp) i

@[simp] theorem handAmount_point (g : Grant) (p : Fin 32) (s : State) : (handAmount g s).point p = s.point p :=
  point_of_points (by simp) p

/-- A notice's lane after it was queued: appended, or the oldest dropped with the count and the wait (R176). -/
theorem queueNotice_lane (n m : Fin 8) (x : Notice) (s : State) :
    (queueNotice n x s).lane m =
      if m = n then
        if (s.lane n).notices.length < 2 then { s.lane n with notices := (s.lane n).notices ++ [x] }
        else { s.lane n with notices := (s.lane n).notices.drop 1 ++ [x], attempts := 0, retryWait := false }
      else s.lane m := by
  unfold queueNotice
  split
  · simp
  · rw [modIbi_lane _ _ rfl]
    simp

/-! ### Settlement (R31) -/

/-- Settlement of the grant of a slot: that grant in its settled form, every other as it was. -/
theorem settleCore_grantAt {i : Fin 24} {g : Grant} {s : State} (hg : s.grantAt i = some g) (live : g.state ≠ .settled)
    (j : Fin 24) : (settleCore i s).grantAt j = if j = i then some g.settledForm else s.grantAt j := by
  unfold settleCore
  simp only [hg, live, if_false]
  rw [handAmount_grantAt, queueNotice_grantAt, detachAll_grantAt, modGm_grantAt _ _ rfl, setSlot_grantAt]

/-- A slot that holds no grant, or a SETTLED one, has nothing to settle. -/
theorem settleCore_unchanged {i : Fin 24} {s : State} (h : ∀ g, s.grantAt i = some g → g.state = .settled) :
    settleCore i s = s := by
  unfold settleCore
  cases hg : s.grantAt i with
  | none => rfl
  | some g => simp [h g hg]

/-- Settlement takes the tag out of the pending queue. -/
theorem settleCore_pendingTags {i : Fin 24} {g : Grant} {s : State} (hg : s.grantAt i = some g)
    (live : g.state ≠ .settled) : (settleCore i s).gm.pendingTags = s.gm.pendingTags.filter (· != g.tag) := by
  unfold settleCore
  simp [hg, live]

/-- Settlement puts the tag at the tail of the settled queue. -/
theorem settleCore_settledTags {i : Fin 24} {g : Grant} {s : State} (hg : s.grantAt i = some g)
    (live : g.state ≠ .settled) : (settleCore i s).gm.settledTags = s.gm.settledTags ++ [g.tag] := by
  unfold settleCore
  simp [hg, live]

/-- Settlement never moves the tag counter. -/
@[simp] theorem settleCore_tagCounter (i : Fin 24) (s : State) : (settleCore i s).gm.tagCounter = s.gm.tagCounter := by
  unfold settleCore
  split
  · split <;> simp
  · rfl

/-- Settlement detaches the grant's points and changes no other. -/
theorem settleCore_point {i : Fin 24} {g : Grant} {s : State} (hg : s.grantAt i = some g) (live : g.state ≠ .settled)
    (p : Fin 32) :
    (settleCore i s).point p = if p ∈ g.attached then { s.point p with tag := none } else s.point p := by
  unfold settleCore
  simp only [hg, live, if_false]
  rw [handAmount_point, queueNotice_point, detachAll_point]
  rfl

/-! ### The halt's test (R157) -/

/-- Some grant is CLOSING exactly when some slot holds one. -/
theorem anyClosing_iff {s : State} : s.anyClosing = true ↔ ∃ i g, s.grantAt i = some g ∧ g.state = .closing := by
  simp only [State.anyClosing, List.any_eq_true, mem_grants, beq_iff_eq]
  constructor
  · rintro ⟨g, ⟨i, hi⟩, hg⟩; exact ⟨i, g, hi, hg⟩
  · rintro ⟨i, g, hi, hg⟩; exact ⟨g, ⟨i, hi⟩, hg⟩

/-- Outside HALTING the test changes nothing. -/
theorem haltTest_unchanged {s : State} (h : s.ss.site ≠ .halting) : haltTest s = s := by
  simp [haltTest, h]

@[simp] theorem haltTest_grantAt (i : Fin 24) (s : State) : (haltTest s).grantAt i = s.grantAt i :=
  grantAt_of_gm (by simp) i

@[simp] theorem haltTest_point (p : Fin 32) (s : State) : (haltTest s).point p = s.point p :=
  point_of_points (by simp) p

/-- Settlement with the halt's test, seen in the grants. -/
theorem settle_grantAt {i : Fin 24} {g : Grant} {s : State} (hg : s.grantAt i = some g) (live : g.state ≠ .settled)
    (j : Fin 24) : (settle i s).grantAt j = if j = i then some g.settledForm else s.grantAt j := by
  rw [settle, haltTest_grantAt, settleCore_grantAt hg live]

/-- Settlement with the halt's test, seen in the points. -/
theorem settle_point {i : Fin 24} {g : Grant} {s : State} (hg : s.grantAt i = some g) (live : g.state ≠ .settled)
    (p : Fin 32) :
    (settle i s).point p = if p ∈ g.attached then { s.point p with tag := none } else s.point p := by
  rw [settle, haltTest_point, settleCore_point hg live]

/-! ### Completion and closing (R29, R30) -/

/-- When the completion test settles a grant. -/
theorem completionDue_iff {i : Fin 24} {s : State} :
    s.completionDue i = true ↔
      ∃ g, s.grantAt i = some g ∧ g.state = .closing
        ∧ ∀ p ∈ g.attached, (s.point p).state.blocksSettlement = false := by
  unfold State.completionDue
  cases hg : s.grantAt i with
  | none => simp
  | some g => simp

/-- The completion test settles or changes nothing. -/
theorem completionTest_cases (i : Fin 24) (s : State) :
    completionTest i s = s ∨ s.completionDue i = true ∧ completionTest i s = settle i s := by
  unfold completionTest
  by_cases h : s.completionDue i = true
  · simp [h]
  · simp [h]

/-- What an entry to CLOSING makes of the grants, before its test. -/
theorem enterClosingCore_grantAt {i : Fin 24} {g : Grant} {s : State} (hg : s.grantAt i = some g) (r : EndReason)
    (j : Fin 24) :
    (enterClosingCore i r s).grantAt j = if j = i then some (g.closingForm r) else s.grantAt j := by
  unfold enterClosingCore
  simp [hg]

/-- What it makes of the points: the attached ones are closed. -/
theorem enterClosingCore_point {i : Fin 24} {g : Grant} {s : State} (hg : s.grantAt i = some g) (r : EndReason)
    (p : Fin 32) :
    (enterClosingCore i r s).point p =
      if p ∈ g.attached ∧ (s.point p).state.isOpenOrPriming = true then
        (s.point p).settlingFrom s.cp.timers.settle
      else s.point p := by
  unfold enterClosingCore
  simp only [hg]
  rw [closeOrders_point]
  rfl

/-- An entry to CLOSING ends at the closing, or goes on to settle. -/
theorem enterClosing_cases (i : Fin 24) (r : EndReason) (s : State) :
    enterClosing i r s = enterClosingCore i r s
      ∨ (enterClosingCore i r s).completionDue i = true
        ∧ enterClosing i r s = settle i (enterClosingCore i r s) :=
  completionTest_cases i (enterClosingCore i r s)

/-- An entry to HELD, seen in the grants (R140). -/
theorem enterHeld_grantAt {i : Fin 24} {g : Grant} {s : State} (hg : s.grantAt i = some g) (j : Fin 24) :
    (enterHeld i s).grantAt j = if j = i then some (g.heldForm s.cp.timers.hold) else s.grantAt j := by
  unfold enterHeld
  simp [hg]

/-! ### The tables of the Screening Unit -/

/-- The position of a card's entry holds that card. -/
theorem positionOf_eq_some {u : ScreeningUnit} {pan : Pan} {k : Fin 128} (h : u.positionOf pan = some k) :
    ∃ e, u.entryAt k = some e ∧ e.pan = pan := by
  have := List.find?_some h
  cases he : u.entryAt k with
  | none => simp [he] at this
  | some e => exact ⟨e, rfl, by simpa [he] using this⟩

/-- A card has no position exactly when no entry holds it. -/
theorem positionOf_eq_none {u : ScreeningUnit} {pan : Pan} :
    u.positionOf pan = none ↔ ∀ k e, u.entryAt k = some e → e.pan ≠ pan := by
  unfold ScreeningUnit.positionOf allPositions
  rw [List.find?_eq_none]
  constructor
  · intro h k e he
    simpa [he] using h k (List.mem_finRange k)
  · intro h k _
    cases he : u.entryAt k with
    | none => simp
    | some e => simpa using h k e he

/-- The lowest empty position is empty. -/
theorem emptyPosition_eq_some {u : ScreeningUnit} {k : Fin 128} (h : u.emptyPosition = some k) :
    u.entryAt k = none := by
  simpa using List.find?_some h

/-- An entry inserted by its prefix is one more entry among the others (R38). -/
theorem insertProgram_perm (p : Program) (programs : List Program) :
    (insertProgram p programs).Perm (p :: programs) := by
  induction programs with
  | nil => exact .refl _
  | cons q rest ih =>
    unfold insertProgram
    split
    · exact .refl _
    · exact (ih.cons q).trans (.swap p q rest)

/-! ### Arming an allowance (R17) -/

/-- The allowances that arming keeps: those whose line is not LOCKED_OUT and has a price. -/
theorem armAllowance_eq_some {s : State} {a b : Allowance} (h : armAllowance s a = some b) :
    (s.line a.line).state ≠ .lockedOut ∧ (s.line a.line).price ≠ 0 ∧ b.line = a.line ∧ b.ceiling = a.ceiling
      ∧ b.limit = some (effectiveLimit (a.limit.getD (.volume, 0)) a.ceiling)
      ∧ b.armed =
        some
          (armedTerms (effectiveLimit (a.limit.getD (.volume, 0)) a.ceiling) a.ceiling (s.line a.line).price
            (((s.line a.line).config.map (·.basis)).getD .gross)) := by
  unfold armAllowance at h
  split at h
  · simp at h
  · next ok =>
    simp only [not_or] at ok
    obtain rfl := Option.some.inj h
    exact ⟨ok.1, ok.2, rfl, rfl, rfl, rfl⟩

/-- The points that arming attaches are points of the grant's lane in service (R18). -/
theorem mem_attachedBy {s : State} {kept : List Allowance} {g : Grant} {p : Fin 32} (h : p ∈ attachedBy s kept g) :
    p.val / 4 = g.lane.val ∧ (s.point p).state ≠ .disabled ∧ (s.point p).state ≠ .outOfService
      ∧ ∃ c, (s.point p).config = some c ∧ kept.any (·.line == c.line) = true
        ∧ (g.dualSide = true ∨ c.role ≠ .satellite) := by
  unfold attachedBy pointsOfLane allPoints attachable at h
  cases hc : (s.point p).config with
  | none => simp [hc] at h
  | some c =>
    simp only [List.mem_filter, List.mem_finRange, true_and, beq_iff_eq, hc, Option.any_some, Bool.and_eq_true,
      bne_iff_ne, ne_eq, Bool.or_eq_true] at h
    exact ⟨h.1, h.2.1.1, h.2.1.2, c, rfl, h.2.2.1, h.2.2.2⟩

end Sys2Proof.Machine
end

