-- ==== Sys2Proof/Laws/Links.lean ====
section
/-! SUPPORT. What the shared operations of the island bus and the controller port do: the messages in processing, the
flush of a lane, the end of the part's own transfer, the selections; and the grant of an attached point. -/

namespace Sys2Proof.Machine

/-! ### Messages in processing (R171, R175) -/

/-- A read's answer does not look at the messages in processing. -/
theorem sendReply_inProcess (n : Fin 8) (k : Nat) (x : List InProcess) (s : State) :
    sendReply n k (s.modIbi fun b => { b with inProcess := x })
      = (sendReply n k s).modIbi fun b => { b with inProcess := x } := by
  unfold sendReply
  have same : (s.modIbi fun b => { b with inProcess := x }).lane n = s.lane n := rfl
  rw [same]
  cases (s.lane n).reply with
  | none => rfl
  | some r => dsimp only; split <;> rfl

/-- The placing of a reply does not look at the messages in processing. -/
theorem placeReply_inProcess (n : Fin 8) (r : Reply) (x : List InProcess) (s : State) :
    placeReply n r (s.modIbi fun b => { b with inProcess := x })
      = (placeReply n r s).modIbi fun b => { b with inProcess := x } := by
  unfold placeReply
  have state : (s.modIbi fun b => { b with inProcess := x }).ibi.state = s.ibi.state := rfl
  have stretch : (s.modIbi fun b => { b with inProcess := x }).ibi.stretch = s.ibi.stretch := rfl
  have placed : ∀ y, (s.modIbi fun b => { b with inProcess := x }).setLane n y
      = (s.setLane n y).modIbi fun b => { b with inProcess := x } := fun _ => rfl
  rw [state, stretch, placed]
  dsimp only
  split
  · split
    · exact sendReply_inProcess ..
    · rfl
  · rfl

/-- What goes on does not depend on the messages that were in processing before. -/
theorem goOnWith_inProcess (rest x : List InProcess) (s : State) :
    goOnWith rest (s.modIbi fun b => { b with inProcess := x }) = goOnWith rest s := by
  induction rest generalizing s with
  | nil => rfl
  | cons e rest ih =>
    unfold goOnWith
    split
    · split
      · exact ih s
      · rw [placeReply_inProcess]; exact ih _
    · rfl

/-- The messages left are those behind the malformed ones at the head. -/
theorem goOnWith_left (rest : List InProcess) (s : State) :
    (goOnWith rest s).ibi.inProcess = rest.dropWhile (·.message = .malformed) := by
  induction rest generalizing s with
  | nil => rfl
  | cons e rest ih =>
    unfold goOnWith
    by_cases h : e.message = .malformed
    · rw [if_pos h, ih]; simp [h]
    · rw [if_neg h]; simp [h]

@[simp] theorem goOnWith_gm (rest : List InProcess) (s : State) : (goOnWith rest s).gm = s.gm := by
  induction rest generalizing s with
  | nil => rfl
  | cons e rest ih => unfold goOnWith; split <;> [(rw [ih]; split <;> simp); rfl]
@[simp] theorem goOnWith_su (rest : List InProcess) (s : State) : (goOnWith rest s).su = s.su := by
  induction rest generalizing s with
  | nil => rfl
  | cons e rest ih => unfold goOnWith; split <;> [(rw [ih]; split <;> simp); rfl]
@[simp] theorem goOnWith_points (rest : List InProcess) (s : State) : (goOnWith rest s).points = s.points := by
  induction rest generalizing s with
  | nil => rfl
  | cons e rest ih => unfold goOnWith; split <;> [(rw [ih]; split <;> simp); rfl]
@[simp] theorem goOnWith_lines (rest : List InProcess) (s : State) : (goOnWith rest s).lines = s.lines := by
  induction rest generalizing s with
  | nil => rfl
  | cons e rest ih => unfold goOnWith; split <;> [(rw [ih]; split <;> simp); rfl]
@[simp] theorem goOnWith_tu (rest : List InProcess) (s : State) : (goOnWith rest s).tu = s.tu := by
  induction rest generalizing s with
  | nil => rfl
  | cons e rest ih => unfold goOnWith; split <;> [(rw [ih]; split <;> simp); rfl]
@[simp] theorem goOnWith_ss (rest : List InProcess) (s : State) : (goOnWith rest s).ss = s.ss := by
  induction rest generalizing s with
  | nil => rfl
  | cons e rest ih => unfold goOnWith; split <;> [(rw [ih]; split <;> simp); rfl]
@[simp] theorem goOnWith_cp (rest : List InProcess) (s : State) : (goOnWith rest s).cp = s.cp := by
  induction rest generalizing s with
  | nil => rfl
  | cons e rest ih => unfold goOnWith; split <;> [(rw [ih]; split <;> simp); rfl]
@[simp] theorem goOnWith_au (rest : List InProcess) (s : State) : (goOnWith rest s).au = s.au := by
  induction rest generalizing s with
  | nil => rfl
  | cons e rest ih => unfold goOnWith; split <;> [(rw [ih]; split <;> simp); rfl]
@[simp] theorem goOnWith_pins (rest : List InProcess) (s : State) : (goOnWith rest s).pins = s.pins := by
  induction rest generalizing s with
  | nil => rfl
  | cons e rest ih => unfold goOnWith; split <;> [(rw [ih]; split <;> simp); rfl]
@[simp] theorem goOnWith_draws (rest : List InProcess) (s : State) : (goOnWith rest s).draws = s.draws := by
  induction rest generalizing s with
  | nil => rfl
  | cons e rest ih => unfold goOnWith; split <;> [(rw [ih]; split <;> simp); rfl]
@[simp] theorem goOnWith_pending (rest : List InProcess) (s : State) : (goOnWith rest s).pending = s.pending := by
  induction rest generalizing s with
  | nil => rfl
  | cons e rest ih => unfold goOnWith; split <;> [(rw [ih]; split <;> simp); rfl]

@[simp] theorem takeOldest_gm (s : State) : (takeOldest s).gm = s.gm := goOnWith_gm _ s
@[simp] theorem takeOldest_su (s : State) : (takeOldest s).su = s.su := goOnWith_su _ s
@[simp] theorem takeOldest_points (s : State) : (takeOldest s).points = s.points := goOnWith_points _ s
@[simp] theorem takeOldest_lines (s : State) : (takeOldest s).lines = s.lines := goOnWith_lines _ s
@[simp] theorem takeOldest_tu (s : State) : (takeOldest s).tu = s.tu := goOnWith_tu _ s
@[simp] theorem takeOldest_ss (s : State) : (takeOldest s).ss = s.ss := goOnWith_ss _ s
@[simp] theorem takeOldest_cp (s : State) : (takeOldest s).cp = s.cp := goOnWith_cp _ s
@[simp] theorem takeOldest_au (s : State) : (takeOldest s).au = s.au := goOnWith_au _ s
@[simp] theorem takeOldest_pins (s : State) : (takeOldest s).pins = s.pins := goOnWith_pins _ s
@[simp] theorem takeOldest_draws (s : State) : (takeOldest s).draws = s.draws := goOnWith_draws _ s
@[simp] theorem takeOldest_pending (s : State) : (takeOldest s).pending = s.pending := goOnWith_pending _ s

/-- A flush empties its own lane and touches no other (R171). -/
theorem flushLane_lane (n m : Fin 8) (s : State) : (flushLane n s).lane m = if m = n then Lane.atReset else s.lane m := by
  unfold flushLane
  rw [modIbi_lane _ _ rfl, setLane_lane]

/-- A flush of a lane discards the answers of its messages in processing and of no others (R171). -/
theorem flushLane_inProcess (n : Fin 8) (s : State) :
    (flushLane n s).ibi.inProcess =
      s.ibi.inProcess.map fun e => if e.lane = n then { e with discarded := true } else e := rfl

/-! ### The part's own transfer (R167, R179, R181) -/

/-- In MASTER_TX the bytes sent whole are kept and the rest given up. -/
theorem cut_master {x : IslandBus} {t : Transfer} (h : x.state = .masterTx t) (n : Nat) :
    x.cut n = { x with sent := x.outgoing.take n, outgoing := [] } := by
  simp [IslandBus.cut, h]

/-- In another state there is no transfer to give up. -/
theorem cut_other {x : IslandBus} (h : ∀ t, x.state ≠ .masterTx t) (n : Nat) : x.cut n = x := by
  unfold IslandBus.cut
  split
  · next t e => exact absurd e (h t)
  · rfl

@[simp] theorem cut_state (x : IslandBus) (n : Nat) : (x.cut n).state = x.state := by unfold IslandBus.cut; split <;> rfl
@[simp] theorem cut_busy (x : IslandBus) (n : Nat) : (x.cut n).busy = x.busy := by unfold IslandBus.cut; split <;> rfl
@[simp] theorem cut_stuckTimer (x : IslandBus) (n : Nat) : (x.cut n).stuckTimer = x.stuckTimer := by unfold IslandBus.cut; split <;> rfl
@[simp] theorem cut_received (x : IslandBus) (n : Nat) : (x.cut n).received = x.received := by unfold IslandBus.cut; split <;> rfl
@[simp] theorem cut_stretch (x : IslandBus) (n : Nat) : (x.cut n).stretch = x.stretch := by unfold IslandBus.cut; split <;> rfl
@[simp] theorem cut_lanes (x : IslandBus) (n : Nat) : (x.cut n).lanes = x.lanes := by unfold IslandBus.cut; split <;> rfl
@[simp] theorem cut_inProcess (x : IslandBus) (n : Nat) : (x.cut n).inProcess = x.inProcess := by unfold IslandBus.cut; split <;> rfl
@[simp] theorem cut_general (x : IslandBus) (n : Nat) : (x.cut n).general = x.general := by unfold IslandBus.cut; split <;> rfl
@[simp] theorem cut_lastServed (x : IslandBus) (n : Nat) : (x.cut n).lastServed = x.lastServed := by unfold IslandBus.cut; split <;> rfl

/-- In MASTER_TX a free number of bytes is kept and one free choice counted. -/
theorem breakOff_master {s : State} {t : Transfer} (h : s.ibi.state = .masterTx t) :
    breakOff s =
      { s with
        ibi := { s.ibi with sent := s.ibi.outgoing.take (Config.wholeBytes s.draws), outgoing := [] }
        draws := s.draws + 1 } := by
  unfold breakOff
  rw [h]
  simp [State.modIbi, cut_master h]

/-- In another state there is no transfer to break off. -/
theorem breakOff_other {s : State} (h : ∀ t, s.ibi.state ≠ .masterTx t) : breakOff s = s := by
  unfold breakOff
  split
  · next t e => exact absurd e (h t)
  · rfl

/-! ### Selections (R187, R188, R201) -/

/-- A selection begun before the release of reset does nothing at its end but end. -/
theorem endSelection_ignored {s : State} (h : s.cp.selection = .ignored) (act : Byte → State → State) :
    endSelection act s = s.modCp fun c => { c with selection := .released } := by
  simp [endSelection, h]

/-- Any other is carried out with the status byte of its fall of SCS. -/
theorem endSelection_taken {s : State} (h : s.cp.selection ≠ .ignored) (act : Byte → State → State) :
    endSelection act s = act s.statusAtFall (s.modCp fun c => { c with selection := .released }) := by
  unfold endSelection State.statusAtFall
  cases hs : s.cp.selection <;> simp_all

/-! ### The grant of an attached point (R68) -/

/-- A point's tag leads to the slot of the grant that carries it. -/
theorem slotOfPoint_held {s : State} {p : Fin 32} {tag : Nat} {i : Fin 24} {g : Grant} (h : (s.point p).tag = some tag)
    (held : HeldIn s tag i g) : s.slotOfPoint p = some i := by
  unfold State.slotOfPoint
  rw [h]
  exact held.1

/-- An unattached point has none. -/
theorem slotOfPoint_none {s : State} {p : Fin 32} (h : (s.point p).tag = none) : s.slotOfPoint p = none := by
  simp [State.slotOfPoint, h]

end Sys2Proof.Machine
end

