-- ==== Sys2Proof/Tests/Slice0.lean ====
section
/-! SUPPORT. Tests: the well-formedness checks, frames and messages written out from section 10.8, the manual's worked
examples, one or two steps for each command, and for each obligation with hypotheses a state that meets them. -/

namespace Sys2Proof.Tests

open Sys2Proof Sys2Proof.Machine

/-! ### The forecourt of the manual's examples (chapters 3 and 5): lane 2, points 8 and 9, line 0 -/

/-- The line of the examples: ROAD_DIESEL, price 1789, α 840. -/
def dieselConfig : LineConfig where
  fuel := .roadDiesel
  ceiling := 400000
  slowMargin := 5000
  closeLead := 3
  alpha := 840
  basis := .compensated
  fullDuty := 255
  slowDuty := 96
  startDelay := 5
  runOn := 50
  probe := true

def dieselLine : Line := { Line.atReset with config := some dieselConfig, price := 1789, state := .available }

def masterConfig : PointConfig := { role := .master, line := 0, k := 250, threshold := 4, creepAllowance := 40 }

def masterPoint : Point := { Point.atReset with config := some masterConfig, state := .idle }

def satellitePoint : Point :=
  { Point.atReset with config := some { masterConfig with role := .satellite, k := 240 }, state := .idle }

/-- A probe that reads 31.4 °C. -/
def warmProbe : Probe := { Probe.atReset with state := .good, temperature := 314, inRotation := true }

/-- The configured forecourt, with no grant. -/
def site : State :=
  (((State.reset.setLine 0 dieselLine).setPoint 8 masterPoint).setPoint 9 satellitePoint).setProbe 0 warmProbe

def aPan : Pan := [7, 0, 0, 1, 2, 3, 4, 5, 0, 0, 0, 1]

def aProgram : Program where
  id := 3
  low := 70010000
  high := 70019999
  classes := 7#3
  dualSide := true
  prompts := 0#4
  ceilings := { roadDiesel := 500000, defFluid := 100000, reefer := 100000 }
  mode := .offlineAndTimeout
  limits := { roadDiesel := 50000, defFluid := 10000, reefer := 10000 }
  countLimit := 2

/-- A PENDING card grant of lane 2 with tag 1. -/
def pendingGrant : Grant :=
  { Grant.blank 2 with
    tag := 1
    card := some { pan := aPan, expiry := { y1 := 2, y2 := 9, m1 := 1, m2 := 2 }, program := 3 }
    allowances := [{ line := 0, ceiling := 400000, limit := none, armed := none }]
    decisionTimer := .running 200 }

/-- The terms of its allowance once armed: $500.00 at 178.9 c/L, compensated (section 5.6). -/
def someTerms : Armed :=
  { armedTerms (.amount, 50000) 400000 1789 .compensated with records := [newRecord 8 250, newRecord 9 240] }

/-- The grant in one of its later states, both points attached. -/
def grantIn (state : GrantState) : Grant :=
  { pendingGrant with
    state := state
    source := some .host
    decisionTimer := .stopped
    allowances := [{ line := 0, ceiling := 400000, limit := some (.amount, 50000), armed := some someTerms }]
    attached := [8, 9] }

/-- The forecourt with a grant in slot 0. -/
def withGrant (g : Grant) : State := site.setSlot 0 (some g)

/-- The forecourt with a PENDING grant in the queue. -/
def waiting : State := (withGrant pendingGrant).modGm fun m => { m with pendingTags := [1], tagCounter := 1 }

/-- The forecourt with a grant whose points carry its tag. -/
def running (g : Grant) : State :=
  ((withGrant g).setPoint 8 { masterPoint with tag := some 1 }).setPoint 9 { satellitePoint with tag := some 1 }

/-- Point 8 delivering for the FUELING grant. -/
def flowingPoint : Point :=
  { masterPoint with
    state := .flowing, nozzle := true, stageDuty := 255, dutyInForce := 255, tag := some 1, noFlow := .running 600 }

/-- Line 0 with its pump at pressure for point 8. -/
def pumpOn : Line := { dieselLine with pump := .on, delayMet := true, requesting := addPoint 0 8 }

/-- A delivery under way. -/
def delivering (x : Point) (g : Grant) : State := ((running g).setPoint 8 x).setLine 0 pumpOn

/-- The first slot's grant is found by its tag. -/
theorem held_in_first_slot {s : State} {g : Grant} (h : s.grantAt 0 = some g) : HeldIn s g.tag 0 g := by
  refine ⟨?_, h⟩
  have first : allSlots = 0 :: allSlots.tail := rfl
  unfold State.findTag
  rw [first, List.find?_cons]
  simp [h]

/-- Nothing waits in a port that holds no command. -/
theorem takes_of_none {i : Instr} {s : State} (h : s.cp.held = none) : Takes i s := .inl h

/-- No slot of the forecourt holds a grant. -/
theorem site_slots_free (i : Fin 24) : site.grantAt i = none := by
  simp [site, State.grantAt, State.reset, State.afterReset]

/-! ### Well-formedness: a term refused by each check -/

theorem test_wellformed_accepts : WellFormed (.decide 255 (.decline 255)) = true := by decide

theorem test_wf_fits : WellFormed (.readGrant 256) = false := by decide

theorem test_wf_pan_length : WellFormed (.denyAdd (List.replicate 21 1)) = false := by decide

theorem test_wf_pan_half : WellFormed (.denyTest [16]) = false := by decide

theorem test_wf_entry : WellFormed (.openGrant 0 [{ line := 256, kind := none, value := 0 }]) = false := by decide

theorem test_wf_entries :
    WellFormed (.decide 1 (.approve (List.replicate 42 { line := 0, kind := none, value := 0 }))) = false := by decide

theorem test_wf_verdict : WellFormed (.decide 1 (.decline 256)) = false := by decide

theorem test_wf_program :
    WellFormed (.programPut { aProgram.toArg with countLimit := 256 }) = false := by decide

theorem test_wf_per_class :
    WellFormed (.programPut { aProgram.toArg with limits := { roadDiesel := 16777216, defFluid := 1, reefer := 1 } })
      = false := by decide

theorem test_wf_point : WellFormed (.pointSet 0 (.set .aux 0 65536 1 1)) = false := by decide

theorem test_wf_line :
    WellFormed (.lineSet 0 (.set .reefer
      { ceiling := 1, slowMargin := 65536, closeLead := 0, alpha := 0, basis := none, fullDuty := 1, slowDuty := 1,
        startDelay := 0, runOn := 0, probe := none })) = false := by decide

theorem test_wf_price : WellFormed (.priceSet 0 16777216) = false := by decide

theorem test_wf_probe : WellFormed (.probeSet 0 (-32769) 1) = false := by decide

theorem test_wf_date : WellFormed (.dateSet (some { y1 := 15, y2 := 15, m1 := 15, m2 := 15 })) = false := by decide

theorem test_wf_timers :
    WellFormed (.timersSet { resetTimers with settle := 256 }) = false := by decide

theorem test_wf_mask : WellFormed (.eventMask 65536) = false := by decide

theorem test_wf_frame : WellFormed (.commandFrame (.rise [0xF0#8, 0#8])) = false := by decide

theorem test_wf_code : WellFormed (.conversionCompletion 1024) = false := by decide

theorem test_wf_request :
    WellFormed (.authRequest 0 (some
      { pan := aPan, expiry := { y1 := 2, y2 := 9, m1 := 1, m2 := 2 }, lines := 0,
        prompts := [{ kind := none, digits := [15] }] })) = false := by decide

/-! ### Frames and messages written out from section 10.8 -/

/-- The manual's example: READ_GRANT for tag 13 is 13 01 0D 1F. -/
theorem test_frame_read_grant : frameOf 0x13#8 [0x0D#8] = [0x13#8, 0x01#8, 0x0D#8, 0x1F#8] := by decide

theorem test_sort_read_grant : sortCommand 0x13#8 [0x0D#8] = .command (.readGrant 13) := by decide

theorem test_sort_decide :
    sortCommand 0x11#8 [0x01#8, 0x01#8, 0x01#8, 0x00#8, 0x02#8, 0x00#8, 0x00#8, 0xC3#8, 0x50#8]
      = .command (.decide 1 (.approve [{ line := 0, kind := some .amount, value := 50000 }])) := by decide

theorem test_sort_point_set :
    sortCommand 0x30#8 [0x08#8, 0x02#8, 0x00#8, 0x00#8, 0xF0#8, 0x04#8, 0x28#8]
      = .command (.pointSet 8 (.set .satellite 0 240 4 40)) := by decide

theorem test_sort_price_set : sortCommand 0x35#8 [0x00#8, 0x00#8, 0x06#8, 0xFD#8] = .command (.priceSet 0 1789) := by
  decide

theorem test_sort_probe_set :
    sortCommand 0x37#8 [0x02#8, 0xFE#8, 0x0C#8, 0x05#8, 0xDC#8] = .command (.probeSet 2 (-500) 1500) := by decide

theorem test_sort_date_unset : sortCommand 0x43#8 [0xFF#8, 0xFF#8] = .command (.dateSet none) := by decide

theorem test_sort_event_mask : sortCommand 0x51#8 [0x01#8, 0xFE#8] = .command (.eventMask 510) := by decide

theorem test_sort_unknown_code : sortCommand 0x18#8 [] = .unknown := by decide

theorem test_sort_bad_shape : sortCommand 0x13#8 [] = .badShape := by decide

/-- A CANCEL of tag 5 at lane 2's address is kind 02, length 01, tag 05, check 06. -/
theorem test_cancel_check : checkGood [0x02#8, 0x01#8, 0x05#8, 0x06#8] = true := by decide

/-- An AUTH_REQUEST of a 12-digit PAN, expiry 2912, every line, no prompt: 15 content bytes. -/
theorem test_auth_message :
    authOfMessage
      [0x01#8, 0x0F#8, 0x0C#8, 0x70#8, 0x01#8, 0x23#8, 0x45#8, 0x00#8, 0x01#8, 0xFF#8, 0xFF#8, 0xFF#8, 0xFF#8,
       0x29#8, 0x12#8, 0x00#8, 0x00#8, 0x00#8]
      = some
        { pan := aPan, expiry := { y1 := 2, y2 := 9, m1 := 1, m2 := 2 }, lines := 0, prompts := [] } := by decide

/-- The response OK of a TALLY_CLEAR that removed 3 entries: 00 01 03 02. -/
theorem test_response_frame : responseFrame (okWith [3#8]) = [0x00#8, 0x01#8, 0x03#8, 0x02#8] := by decide

/-- A SITE_NOTICE of a halted site on an online link: 84 02 01 00 87. -/
theorem test_site_notice :
    siteNoticeMessage { halted := true, link := .online } = [0x84#8, 0x02#8, 0x01#8, 0x00#8, 0x87#8] := by decide

/-- A NO_REPLY reply: 81 03 30 00 00 B2. -/
theorem test_no_reply : replyMessage noReply = [0x81#8, 0x03#8, 0x30#8, 0x00#8, 0x00#8, 0xB2#8] := by decide

/-- No word of the table spells a command: its rows give no bits. -/
theorem test_no_table_word : decodeTableWord 0 0 = none := by decide

/-! ### The manual's worked numbers -/

/-- 00_scope: codes 30, 150, 192 and 210 are 3 s, 60 s, 120 s and 300 s. -/
theorem test_interval_codes :
    [30, 150, 192, 210].map periodsOfCode = [some 30, some 600, some 1200, some 3000] := by decide

/-- Chapter 5: F at 31.4 °C with α 840, and the cap of $500.00 at 178.9 c/L. -/
theorem test_factor : factorOf 840 314 = 986224 := by decide

theorem test_cap :
    (armedTerms (.amount, 50000) 400000 1789 .compensated).cap = 279485
      ∧ (armedTerms (.amount, 50000) 400000 1789 .compensated).clamped = false := by decide

/-- Chapter 5: the two records after the first periods, and the allowance's totals. -/
theorem test_records :
    ((newRecord 8 250).accumulate .compensated 63 986224).accumulator = 62132112
      ∧ ((newRecord 8 250).accumulate .compensated 63 986224).gross = 252
      ∧ ((newRecord 8 250).accumulate .compensated 63 986224).compensated = 248
      ∧ ((newRecord 9 240).accumulate .compensated 60 986224).compensated = 246 := by decide

theorem test_amount :
    ((someTerms.accumulate 8 63 986224).accumulate 9 60 986224).volume = 494
      ∧ ((someTerms.accumulate 8 63 986224).accumulate 9 60 986224).amount = 88
      ∧ ((someTerms.accumulate 8 63 986224).accumulate 9 60 986224).residual = 278991 := by decide

/-- Chapter 6: with offset −500 and span 1,500, code 556 is 31.4 °C. -/
theorem test_conversion : convert (-500) 1500 556 = 314 := by decide

/-- Chapter 2: the program table's five commands. -/
def exampleTable : List Program :=
  [{ aProgram with id := 3, low := 70010000, high := 70019999 },
   { aProgram with id := 7, low := 70030000, high := 70039999 },
   { aProgram with id := 1, low := 70500000, high := 70599999 }]

def exampleSite : State := site.modSu fun u => { u with programs := exampleTable }

theorem test_program_overlap :
    (doProgramPut { aProgram.toArg with id := 9, low := 70020000, high := 70030500 } exampleSite).2
      = refusal .overlap := by decide

theorem test_program_replaced :
    (doProgramPut { aProgram.toArg with id := 7, low := 70020000, high := 70029999 } exampleSite).2
      = okWith [2#8, 1#8] := by decide

theorem test_program_moves :
    (doProgramPut { aProgram.toArg with id := 3, low := 70040000, high := 70049999 } exampleSite).1.su.programs.map
      (·.id) = [7, 3, 1] := by decide

/-- Chapter 1: after tag 254 the cycle goes on at 255 and then 1, past tags that are held. -/
theorem test_tags : stepTag 254 = 255 ∧ stepTag 255 = 1 ∧ freeTag [255, 1] 25 254 = 2 := by decide

/-! ### One step of each kind -/

/-- The state an outcome goes on to. -/
def after (o : Host.Outcome State Fault Refusal) (s : State) : State :=
  match o with
  | .next t => t
  | .fault _ => s
  | .refused _ => s

/-- The result that the owner of a command gave. -/
def resultOf (c : Instr) (s : State) : Option Result := (after (exec c s) s).cp.answer.map (·.result)

/-- A COMMAND_FRAME of READ_GRANT 13 puts the command before its owner; the FETCH code alone is a fetch. -/
theorem test_frame_held :
    (after (exec (.commandFrame (.rise [0x13#8, 0x01#8, 0x0D#8, 0x1F#8])) site) site).cp.held = some (.readGrant 13) := by
  decide

theorem test_frame_check :
    (after (exec (.commandFrame (.rise [0x13#8, 0x01#8, 0x0D#8, 0x1E#8])) site) site).cp.response
      = some (refusal .frameCheck) := by decide

/-- R188: an event after the fall of SCS does not show in the status byte, which has ATTN (bit 3) clear here. -/
theorem test_status_at_fall :
    (after (exec (.commandFrame (.rise [0x13#8, 0x00#8]))
        (after (exec (.commandFrame .fall) site) site).raiseHaltComplete) site).cp.shifted = [0x40#8, 0x00#8] := by
  decide

/-- R201: a selection in which SCS was low at the release of reset is ignored; the next one is taken. -/
theorem test_selection_across_reset :
    (after (exec (.commandFrame (.rise [0x13#8, 0x00#8]))
        (after (exec .reset (after (exec (.commandFrame .fall) site) site)) site)) site).cp = State.reset.cp := by
  decide

/-- R196: a status byte of a port with nothing pending is 0x40; EMPTY is 01 00 01. -/
theorem test_fetch_empty :
    (after (exec (.fetch 4) State.reset) site).cp.shifted = [0x40#8, 0x01#8, 0x00#8, 0x01#8, 0xFF#8] := by decide

theorem test_service : resultOf .service waiting = some .ok ∧ resultOf .service site = some .empty := by decide

theorem test_decide_late : resultOf (.decide 1 (.decline 5)) (running (grantIn .armed)) = some .late := by decide

/-- Chapter 5: an approval of $500.00 arms the grant with points 8 and 9. -/
theorem test_approve :
    ((after (exec (.decide 1 (.approve [{ line := 0, kind := some .amount, value := 50000 }])) waiting) waiting).grantAt
      0).map (fun g => (g.state, g.attached)) = some (.armed, [8, 9]) := by decide

theorem test_open_grant :
    ((after (exec (.openGrant 2 [{ line := 0, kind := some .volume, value := 9 }]) site) site).grantAt 0).map
      (fun g => (g.tag, g.state, g.source)) = some (1, .armed, some .attendant) := by decide

/-- R17, R19: on a line whose price is 0 no allowance is kept; at a price whose cent buys no ml the cap is 0. -/
def priced (price : Nat) (s : State) : State := s.setLine 0 { dieselLine with price := price }

theorem test_open_grant_settles :
    ((after (exec (.openGrant 2 [{ line := 0, kind := some .amount, value := 1 }]) (priced 0 site)) site).grantAt 0).map
        (fun g => (g.state, g.outcome, g.allowances.length)) = some (.settled, some .lineLockout, 0)
      ∧ ((after (exec (.openGrant 2 [{ line := 0, kind := some .amount, value := 1 }]) (priced 99999 site)) site).grantAt
        0).map (fun g => (g.state, g.outcome, g.allowances.length)) = some (.settled, some .limit, 1) := by decide

theorem test_open_grant_busy :
    resultOf (.openGrant 2 [{ line := 0, kind := some .volume, value := 9 }]) waiting = some .wrongState := by decide

theorem test_read_grant : resultOf (.readGrant 1) waiting = some .ok ∧ resultOf (.readGrant 2) waiting = some .unknownTag :=
  by decide

theorem test_hold : resultOf (.hold 1) (running (grantIn .armed)) = some .wrongState := by decide

theorem test_resume : resultOf (.resume 1) (running (grantIn .fueling)) = some .notHeld := by decide

theorem test_stop :
    ((after (exec (.stop 1) (running (grantIn .armed))) site).grantAt 0).map (fun g => (g.state, g.outcome))
      = some (.settled, some .hostStop) := by decide

theorem test_collect :
    (after (exec .collect ((withGrant (grantIn .settled)).modGm fun m => { m with settledTags := [1] })) site).grantAt 0
      = none := by decide

theorem test_deny_add : resultOf (.denyAdd [1, 2]) site = some .badParam := by decide

theorem test_deny_test :
    (after (exec (.denyTest aPan) (site.modSu fun u => { u with denied := [aPan] })) site).cp.answer
      = some (okWith [1#8]) := by decide

theorem test_tally_read : resultOf (.tallyRead 0) site = some .empty ∧ resultOf (.tallyRead 128) site = some .badParam :=
  by decide

theorem test_point_set_busy : resultOf (.pointSet 8 .clear) (running (grantIn .armed)) = some .pointBusy := by decide

theorem test_point_enable : resultOf (.pointEnable 8) site = some .wrongState := by decide

theorem test_line_set_busy : resultOf (.lineSet 0 .clear) waiting = some .lineBusy := by decide

theorem test_price_set :
    (after (exec (.priceSet 0 1799) site) site).cp.answer
      = some (okWith [0x00#8, 0x06#8, 0xFD#8, 0x00#8, 0x07#8, 0x07#8]) := by decide

theorem test_line_restore : resultOf (.lineRestore 0) site = some .wrongState := by decide

theorem test_probe_set_range : resultOf (.probeSet 0 1001 1) site = some .badParam := by decide

theorem test_site_halt : (after (exec .siteHalt site) site).ss.site = .halted := by decide +kernel

theorem test_site_resume : resultOf .siteResume { site with ss := { site := SiteState.halted, estop := true } } = some .stillAsserted :=
  by decide

theorem test_link_set :
    (after (exec (.linkSet (some .offline)) site) site).ibi.general = some { halted := false, link := .offline } := by
  decide +kernel

theorem test_date_set : resultOf (.dateSet (some { y1 := 2, y2 := 5, m1 := 1, m2 := 3 })) site = some .badParam := by
  decide

theorem test_timers_set : (after (exec (.timersSet { resetTimers with settle := 31 }) site) site).cp.timers.settle = 30 :=
  by decide

theorem test_event_mask : resultOf (.eventMask 512) site = some .badParam := by decide

/-- Chapter 3, step 1: the lift of point 8 starts the pump and waits for pressure. -/
theorem test_lift :
    ((after (exec (.lift 8) (running (grantIn .armed))) site).point 8).state = .priming
      ∧ ((after (exec (.lift 8) (running (grantIn .armed))) site).line 0).startTimer = .running 5 := by decide

/-- Chapter 3, step 3: a lift with the delay met opens the valve at the full duty. -/
theorem test_lift_at_pressure :
    ((after (exec (.lift 9) (delivering flowingPoint (grantIn .fueling))) site).point 9).stageDuty = 255 := by decide

theorem test_hang_up :
    ((after (exec (.hangUp 8) (delivering flowingPoint (grantIn .fueling))) site).point 8).state = .settling := by decide

/-- R100: from phase 3 the next forward phase is 0. -/
theorem test_pulser_wraps :
    ((after (exec (.pulserStep 8 0) (site.setPoint 8 { masterPoint with phase := 3 })) site).point 8).forward = 1 := by
  decide

/-- Chapter 5: the master's first period, 63 steps. -/
theorem test_period_end :
    ((after (exec (.periodEnd 8) (delivering { flowingPoint with forward := 63 } (grantIn .fueling))) site).grantAt
      0).map (fun g => g.allowances.map (·.volume)) = some [248] := by decide

theorem test_start_timer :
    ((after
        (exec (.startTimerExpiry 0)
          (((running (grantIn .fueling)).setPoint 8 { flowingPoint with state := .priming }).setLine 0
            { pumpOn with delayMet := false, startTimer := .running 1 })) site).point 8).state = .flowing := by decide

theorem test_decision_timer :
    ((after (exec (.decisionTimerExpiry 1) waiting) site).grantAt 0).map (·.outcome)
      = some (some .declinedTimeout) := by decide

theorem test_conversion_completion :
    ((after (exec (.conversionCompletion 1023) (site.modTu fun u =>
        { u with converting := some { line := 0, discard := false } })) site).probe 0).state = .holding := by decide

theorem test_cancel_other_lane :
    ((after (exec (.cancel 3 1) waiting) site).lane 3).reply = some { result := .notFound, tag := 1, caps := [] } := by
  decide

/-- A request on the forecourt with the program of the examples. -/
def aRequest : AuthRequest :=
  { pan := aPan, expiry := { y1 := 2, y2 := 9, m1 := 1, m2 := 2 }, lines := 0, prompts := [] }

def screeningSite : State := site.modSu fun u => { u with programs := [aProgram] }

theorem test_auth_request :
    ((after (exec (.authRequest 2 (some aRequest)) screeningSite) site).lane 2).reply
      = some { result := .accepted, tag := 1, caps := [] } := by decide

theorem test_auth_offline :
    ((after (exec (.authRequest 2 (some aRequest)) (screeningSite.modSu fun u => { u with link := .offline })) site).lane
      2).reply = some { result := .approved, tag := 1, caps := [{ line := 0, cap := 50000 }] } := by decide

theorem test_address_byte :
    (after (exec (.addressByte 0x55#8) (site.modIbi fun b => { b with state := .busyOther true })) site).ibi.state
      = .slaveTx 2 := by decide

theorem test_write_phase_end :
    (after (exec (.writePhaseEnd [0x02#8, 0x01#8, 0x05#8, 0x06#8] .stop)
        (site.modIbi fun b => { b with state := .slaveRx 2 })) site).ibi.inProcess
      = [{ lane := 2, message := .cancel 5, discarded := false }] := by decide

theorem test_notice_transfer :
    (after (exec .noticeTransferStart (site.setLane 3 { Lane.atReset with notices := [.declined 1 5] })) site).ibi.outgoing
      = [0x66#8, 0x82#8, 0x04#8, 0x01#8, 0x02#8, 0x05#8, 0x00#8, 0x80#8] := by decide

theorem test_third_nak :
    (after (exec (.laneNoticeTransferEnd (some 0))
        ((site.setLane 3 { Lane.atReset with notices := [.declined 1 5], attempts := 2 }).modIbi fun b =>
          { b with state := .masterTx (.lane 3 true) })) site).au.terminalSilent = 8#8 := by decide

/-- R179, R181: a NAK on the address byte, or a loss in it, leaves the notice's other bytes unsent. -/
def calling : State :=
  after (exec .noticeTransferStart (site.setLane 3 { Lane.atReset with notices := [.declined 1 5] })) site

theorem test_nak_on_address : (after (exec (.laneNoticeTransferEnd (some 0)) calling) site).ibi.sent = [0x66#8] := by
  decide

theorem test_loss_in_address :
    (after (exec (.arbitrationLoss (.address 0x5A#8)) calling) site).ibi.sent = []
      ∧ (after (exec (.arbitrationLoss (.address 0x5A#8)) calling) site).ibi.state = .slaveRx 5 := by decide

/-- R175: lane 6's CANCEL, taken by the IBI after lane 2's, is not answered before it. -/
def twoLanes : State :=
  site.modIbi fun b =>
    { b with
      inProcess :=
        [{ lane := 2, message := .cancel 5, discarded := false }, { lane := 5, message := .malformed, discarded := false },
         { lane := 6, message := .cancel 6, discarded := false }] }

theorem test_order_of_lanes :
    ((after (exec (.cancel 6 6) twoLanes) site).lane 6).reply = none
      ∧ (after (exec (.cancel 6 6) twoLanes) site).ibi.inProcess = twoLanes.ibi.inProcess := by decide

/-- R170, R175: the malformed message behind it is answered FORMAT in its turn. -/
theorem test_format_in_turn :
    ((after (exec (.cancel 2 5) twoLanes) site).lane 5).reply = some formatReply
      ∧ (after (exec (.cancel 2 5) twoLanes) site).ibi.inProcess
        = [{ lane := 6, message := .cancel 6, discarded := false }] := by decide

theorem test_reset_halted :
    (after (exec .reset { site with pins := { site.pins with estop := true } }) site).ss.site = .halted := by decide

/-! ### Witnesses: concrete states that meet the hypotheses of each obligation, clause by clause -/

theorem held_waiting : HeldIn waiting 1 0 pendingGrant := held_in_first_slot (g := pendingGrant) rfl

theorem held_running (g : Grant) (tag : g.tag = 1) : HeldIn (running g) 1 0 g := by
  have : (running g).grantAt 0 = some g := by simp [running, withGrant]
  exact tag ▸ held_in_first_slot this

theorem held_delivering (x : Point) (g : Grant) (tag : g.tag = 1) : HeldIn (delivering x g) 1 0 g := by
  have : (delivering x g).grantAt 0 = some g := by simp [delivering, running, withGrant]
  exact tag ▸ held_in_first_slot this

/-- No grant of the forecourt carries a tag. -/
theorem no_tag_on_site (tag : Nat) : ∀ i g, site.grantAt i = some g → g.tag ≠ tag := by
  intro i g h
  simp [site_slots_free i] at h

/-- A lift timer with one period left. -/
def lastPeriod : State := running { grantIn .armed with liftTimer := .running 1 }

theorem witness_EmptyQueueCountsOnePeriod : site.pending = [] ∧ lastPeriod.pending = [] := ⟨rfl, rfl⟩

/-- Its expiry joins the queue, and the next tick has nothing left to expire. -/
theorem test_last_period :
    (after (step lastPeriod) site).pending = [.liftTimerExpiry 1]
      ∧ ((after (step lastPeriod) site).grantAt 0).map (·.liftTimer) = some (.running 0) := by decide

theorem witness_CommandsSurviveEncoding :
    WellFormed (.readGrant 255) = true ∧ encodeCommand (.readGrant 255) = some (0x13#8, [0xFF#8]) := by decide

theorem witness_GoodFrameIsPassedOn :
    WellFormed (.readGrant 255) = true ∧ encodeCommand (.readGrant 255) = some (0x13#8, [0xFF#8])
      ∧ site.cp.state ≠ .processing ∧ site.cp.selection ≠ .ignored := by decide

/-- The port with a selection begun, and with one begun before the release of reset. -/
def selecting (x : Selection) : State := site.modCp fun c => { c with selection := x }

theorem witness_FramesAreSorted :
    (∀ b, site.cp.selection ≠ .begun b) ∧ (selecting (.begun 0x41#8)).cp.selection = .begun 0x41#8
    ∧ (selecting .ignored).cp.selection = .ignored ∧ 0xEF#8 ≠ 0xF0#8
    ∧ 2 ≤ [0x13#8, 0x00#8].length ∧ [0x13#8, 0x00#8].head? ≠ some 0xF0#8
    ∧ (selecting (.begun 0x41#8)).cp.selection ≠ .ignored := by decide

theorem witness_FetchSendsHeldResponse :
    (selecting .ignored).cp.selection = .ignored ∧ (selecting (.begun 0x41#8)).cp.selection ≠ .ignored := by decide

/-- The port in PROCESSING, with an answer given and with a command still held. -/
theorem witness_CompletionPlacesAnswer :
    ((site.giveAnswer (okWith [])).cp.state = .processing ∧ (site.giveAnswer (okWith [])).cp.answer = some (okWith []))
    ∧ ((site.modCp fun c => { c with state := .processing, held := some .service }).cp.state = .processing
      ∧ (site.modCp fun c => { c with state := .processing, held := some .service }).cp.answer = none
      ∧ (site.modCp fun c => { c with state := .processing, held := some .service }).cp.held = some .service
      ∧ encodeCommand .service = some (0x10#8, []))
    ∧ site.cp.state ≠ .processing := by decide

theorem witness_SettingsAndEvents :
    (WellFormed (.timersSet { resetTimers with settle := 0 }) = true
      ∧ Takes (.timersSet { resetTimers with settle := 0 }) site)
    ∧ (WellFormed (.timersSet { resetTimers with settle := 255 }) = true
      ∧ Takes (.timersSet { resetTimers with settle := 255 }) site)
    ∧ Takes .statusRead site ∧ Takes .eventRead site
    ∧ (WellFormed (.eventMask 511) = true ∧ Takes (.eventMask 511) site)
    ∧ (WellFormed (.eventMask 512) = true ∧ Takes (.eventMask 512) site) :=
  ⟨⟨by decide, takes_of_none rfl⟩, ⟨by decide, takes_of_none rfl⟩, takes_of_none rfl, takes_of_none rfl,
    ⟨by decide, takes_of_none rfl⟩, by decide, takes_of_none rfl⟩

/-- The forecourt with a SETTLED grant in the queue. -/
def collectable : State := (withGrant (grantIn .settled)).modGm fun m => { m with settledTags := [1] }

theorem witness_ServiceReadCollect :
    (Takes .service site ∧ site.gm.pendingTags = [])
    ∧ (Takes .service waiting ∧ waiting.gm.pendingTags = 1 :: [] ∧ HeldIn waiting 1 0 pendingGrant)
    ∧ (Takes (.readGrant 1) site ∧ ∀ i g, site.grantAt i = some g → g.tag ≠ 1)
    ∧ (Takes (.readGrant 1) waiting ∧ HeldIn waiting 1 0 pendingGrant)
    ∧ (Takes .collect site ∧ site.gm.settledTags = [])
    ∧ (Takes .collect collectable ∧ collectable.gm.settledTags = 1 :: []
      ∧ HeldIn collectable 1 0 (grantIn .settled)) :=
  ⟨⟨takes_of_none rfl, rfl⟩, ⟨takes_of_none rfl, rfl, held_waiting⟩, ⟨takes_of_none rfl, no_tag_on_site 1⟩,
    ⟨takes_of_none rfl, held_waiting⟩, ⟨takes_of_none rfl, rfl⟩, takes_of_none rfl, rfl,
    held_in_first_slot (g := grantIn .settled) rfl⟩

theorem witness_NextTagIsFirstFree : site.grantAt 23 = none := site_slots_free 23

/-- One limit entry, for line 0. -/
def oneEntry : List LimitEntry := [{ line := 0, kind := some .amount, value := 50000 }]

theorem good_oneEntry : GoodEntries oneEntry := by decide

theorem witness_DecideChecks :
    (Takes (.decide 1 .unlisted) waiting ∧ ¬ GoodVerdict .unlisted)
    ∧ (Takes (.decide 1 (.decline 0)) waiting ∧ ¬ GoodVerdict (.decline 0))
    ∧ (Takes (.decide 1 (.decline 1)) site ∧ GoodVerdict (.decline 1)
      ∧ ∀ i g, site.grantAt i = some g → g.tag ≠ 1)
    ∧ (Takes (.decide 1 (.decline 255)) (running (grantIn .armed)) ∧ GoodVerdict (.decline 255)
      ∧ HeldIn (running (grantIn .armed)) 1 0 (grantIn .armed) ∧ (grantIn .armed).state ≠ .pending)
    ∧ (Takes (.decide 1 (.approve [])) waiting ∧ GoodVerdict (.approve []) ∧ HeldIn waiting 1 0 pendingGrant
      ∧ pendingGrant.state = .pending)
    ∧ (Takes (.decide 1 (.approve [{ line := 3, kind := some .volume, value := 1 }])) waiting
      ∧ GoodVerdict (.approve [{ line := 3, kind := some .volume, value := 1 }]) ∧ HeldIn waiting 1 0 pendingGrant
      ∧ ∀ a ∈ pendingGrant.allowances, a.line.val ≠ 3) := by
  refine ⟨⟨takes_of_none rfl, id⟩, ⟨takes_of_none rfl, ?_⟩, ⟨takes_of_none rfl, ?_, no_tag_on_site 1⟩,
    ⟨takes_of_none rfl, ?_, held_running _ rfl, by decide⟩, ⟨takes_of_none rfl, ?_, held_waiting, rfl⟩,
    takes_of_none rfl, ?_, held_waiting, by decide⟩ <;> unfold GoodVerdict <;> decide

theorem witness_DeclineSettlesGrant :
    Takes (.decide 1 (.decline 1)) waiting ∧ 1 ≤ 1 ∧ 1 ≤ 255 ∧ HeldIn waiting 1 0 pendingGrant
      ∧ pendingGrant.state = .pending ∧ pendingGrant.attached = [] ∧ pendingGrant.outcome = none
      ∧ waiting.ss.site = .running :=
  ⟨takes_of_none rfl, by decide, by decide, held_waiting, rfl, rfl, rfl, rfl⟩

theorem witness_ApproveArmsGrant :
    Takes (.decide 1 (.approve oneEntry)) waiting ∧ GoodVerdict (.approve oneEntry)
      ∧ HeldIn waiting 1 0 pendingGrant ∧ pendingGrant.state = .pending ∧ waiting.ss.site = .running
      ∧ oneEntry ≠ [] ∧ ∀ e ∈ oneEntry, ∃ a ∈ pendingGrant.allowances, a.line.val = e.line :=
  ⟨takes_of_none rfl, by unfold GoodVerdict; decide, held_waiting, rfl, rfl, by decide, by decide⟩

/-- The forecourt halted, with lane 2 busy, and with every slot held. -/
def haltedSite : State := { site with ss := { site := .halted, estop := false } }

def fullTable : State :=
  site.modGm fun m =>
    { m with slots := Vector.replicate 24 (some { grantIn .settled with lane := 0 }) }

theorem full_table_held (i : Fin 24) : fullTable.grantAt i = some { grantIn .settled with lane := 0 } := by
  simp [fullTable, State.grantAt]

theorem witness_OpenGrantChecksAndArms :
    (Takes (.openGrant 8 oneEntry) site ∧ ¬ (8 < 8 ∧ 1 ≤ oneEntry.length ∧ oneEntry.length ≤ 4 ∧ GoodEntries oneEntry))
    ∧ (1 ≤ oneEntry.length ∧ oneEntry.length ≤ 4 ∧ GoodEntries oneEntry)
    ∧ haltedSite.ss.site ≠ .running
    ∧ (waiting.ss.site = .running
      ∧ ∃ i g, waiting.grantAt i = some g ∧ g.lane = 2 ∧ g.state ≠ .settled)
    ∧ ((∀ i g, fullTable.grantAt i = some g → ¬ (g.lane = 2 ∧ g.state ≠ .settled))
      ∧ ∀ i, fullTable.grantAt i ≠ none)
    ∧ ((∀ i g, site.grantAt i = some g → ¬ (g.lane = 2 ∧ g.state ≠ .settled)) ∧ site.grantAt 0 = none
      ∧ (∀ j : Fin 24, j < 0 → site.grantAt j ≠ none) ∧ (site.line 0).state = .available
      ∧ (site.line 3).state ≠ .available) := by
  refine ⟨⟨takes_of_none rfl, by decide⟩, by decide, by decide, ⟨rfl, 0, pendingGrant, rfl, rfl, by decide⟩,
    ⟨?_, ?_⟩, ?_, site_slots_free 0, ?_, by decide, by decide⟩
  · intro i g h
    rw [full_table_held] at h
    obtain rfl := Option.some.inj h
    simp [grantIn]
  · intro i; simp [full_table_held i]
  · intro i g h; simp [site_slots_free i] at h
  · intro j h; exact absurd h (Fin.not_lt_zero j)

theorem witness_SettlementFollowsOrder :
    ((running (grantIn .closing)).grantAt 0 = some (grantIn .closing) ∧ (grantIn .closing).state ≠ .settled)
    ∧ (∃ c, (grantIn .closing).card = some c ∧ { grantIn .closing with source := some .standinOffline }.source
        = some .standinOffline)
    ∧ ((grantIn .closing).source ≠ some .standinOffline ∧ (grantIn .closing).source ≠ some .standinTimeout) :=
  ⟨⟨(held_running _ rfl).2, by decide⟩, ⟨_, rfl, rfl⟩, by decide⟩

theorem witness_ClosingClosesThenSettles :
    ((running (grantIn .fueling)).grantAt 0 = some (grantIn .fueling)
      ∧ ∀ p ∈ (grantIn .fueling).attached, ((running (grantIn .fueling)).point p).state = .idle)
    ∧ ((delivering flowingPoint (grantIn .fueling)).grantAt 0 = some (grantIn .fueling)
      ∧ ((delivering flowingPoint (grantIn .fueling)).point 8).state = .flowing) :=
  ⟨⟨(held_running _ rfl).2, by decide⟩, (held_delivering _ _ rfl).2, by decide⟩

theorem witness_StopEndsByState :
    (Takes (.stop 1) site ∧ ∀ i g, site.grantAt i = some g → g.tag ≠ 1)
    ∧ ∀ state, Takes (.stop 1) (running (grantIn state)) ∧ HeldIn (running (grantIn state)) 1 0 (grantIn state)
      ∧ (grantIn state).state = state :=
  ⟨⟨takes_of_none rfl, no_tag_on_site 1⟩, fun _ => ⟨takes_of_none rfl, held_running _ rfl, rfl⟩⟩

/-- A CANCEL of tag 1 from lane 2 in processing. -/
def cancelling (state : GrantState) : State :=
  (running (grantIn state)).modIbi fun b =>
    { b with inProcess := [{ lane := 2, message := .cancel 1, discarded := false }] }

theorem witness_CancelEndsByState :
    TakenFrom site 2 (.cancel 1) (flushLane 2 site)
    ∧ ∀ state, TakenFrom (cancelling state) 2 (.cancel 1) (goOnWith [] (cancelling state))
      ∧ HeldIn (cancelling state) 1 0 (grantIn state) ∧ (grantIn state).lane = 2 ∧ (grantIn state).state = state := by
  refine ⟨.inl ⟨by decide, rfl⟩, fun state => ⟨.inr ⟨[], rfl, rfl⟩, ?_, rfl, rfl⟩⟩
  · have : (cancelling state).grantAt 0 = some (grantIn state) := by
      simp [cancelling, modIbi_grantAt, (held_running (grantIn state) rfl).2]
    exact held_in_first_slot (g := grantIn state) this

theorem witness_HoldSuspendsGrant :
    (Takes (.hold 1) site ∧ ∀ i g, site.grantAt i = some g → g.tag ≠ 1)
    ∧ ∀ state, Takes (.hold 1) (running (grantIn state)) ∧ HeldIn (running (grantIn state)) 1 0 (grantIn state) :=
  ⟨⟨takes_of_none rfl, no_tag_on_site 1⟩, fun _ => ⟨takes_of_none rfl, held_running _ rfl⟩⟩

theorem witness_ResumeReadmitsLiftedPoints :
    (Takes (.resume 1) site ∧ ∀ i g, site.grantAt i = some g → g.tag ≠ 1)
    ∧ (Takes (.resume 1) (running (grantIn .fueling))
      ∧ HeldIn (running (grantIn .fueling)) 1 0 (grantIn .fueling) ∧ (grantIn .fueling).state ≠ .held)
    ∧ (Takes (.resume 1) (running (grantIn .held)) ∧ HeldIn (running (grantIn .held)) 1 0 (grantIn .held)
      ∧ (grantIn .held).state = .held
      ∧ (∀ p ∈ (grantIn .held).attached, ((running (grantIn .held)).point p).tag = some 1)
      ∧ ∀ p ∈ (grantIn .held).attached,
          ((running (grantIn .held)).point p).nozzle = false ∧ ((running (grantIn .held)).point p).state ≠ .lifted) :=
  ⟨⟨takes_of_none rfl, no_tag_on_site 1⟩, ⟨takes_of_none rfl, held_running _ rfl, by decide⟩,
    takes_of_none rfl, held_running _ rfl, rfl, by decide, by decide⟩

theorem witness_TimersEndGrants :
    (∀ state, HeldIn (running { grantIn state with liftTimer := .running 1 }) 1 0
        { grantIn state with liftTimer := .running 1 })
    ∧ HeldIn (running { grantIn .fueling with idleEndTimer := .running 1 }) 1 0
        { grantIn .fueling with idleEndTimer := .running 1 }
    ∧ HeldIn (running { grantIn .held with holdTimer := .running 1 }) 1 0 { grantIn .held with holdTimer := .running 1 }
    ∧ (∀ n, (grantIn .fueling).liftTimer ≠ .running n)
    ∧ (((delivering flowingPoint (grantIn .fueling)).point 8).noFlow = .running 600
      ∧ ((delivering flowingPoint (grantIn .fueling)).point 8).tag = some 1
      ∧ HeldIn (delivering flowingPoint (grantIn .fueling)) 1 0 (grantIn .fueling))
    ∧ (((delivering flowingPoint (grantIn .closing)).point 8).noFlow = .running 600
      ∧ HeldIn (delivering flowingPoint (grantIn .closing)) 1 0 (grantIn .closing)) :=
  ⟨fun _ => held_running _ rfl, held_running _ rfl, held_running _ rfl, by simp [grantIn, pendingGrant, Grant.blank],
    ⟨rfl, rfl, held_delivering _ _ rfl⟩, rfl, held_delivering _ _ rfl⟩

/-- The PENDING grant on a forecourt whose program table holds its program. -/
def timingOut (mode : StandinMode) : State :=
  waiting.modSu fun u => { u with programs := [{ aProgram with mode := mode }] }

theorem held_timingOut (mode : StandinMode) : HeldIn (timingOut mode) 1 0 pendingGrant :=
  held_in_first_slot (g := pendingGrant) rfl

/-- A tally whose every position holds another card. -/
def fullTally : State :=
  (timingOut .offlineAndTimeout).modSu fun u =>
    { u with tally := Vector.replicate 128 (some { pan := [1], program := 0, count := 1, amount := 0 }) }

theorem witness_DecisionTimeoutUsesStandin :
    (HeldIn waiting 1 0 pendingGrant ∧ pendingGrant.state = .pending ∧ pendingGrant.decisionTimer = .running 200
      ∧ pendingGrant.card.map (·.program) = some 3 ∧ ∀ p ∈ waiting.su.programs, p.id ≠ 3)
    ∧ (HeldIn (timingOut .offline) 1 0 pendingGrant
      ∧ (timingOut .offline).su.programs.find? (·.id == 3) = some { aProgram with mode := .offline })
    ∧ (HeldIn (timingOut .offlineAndTimeout) 1 0 pendingGrant
      ∧ (timingOut .offlineAndTimeout).su.emptyPosition ≠ none)
    ∧ (HeldIn fullTally 1 0 pendingGrant ∧ fullTally.su.positionOf aPan = none
      ∧ fullTally.su.emptyPosition = none) := by
  refine ⟨⟨held_waiting, rfl, rfl, rfl, by decide⟩, ⟨held_timingOut _, by decide⟩, ⟨held_timingOut _, by decide⟩,
    held_in_first_slot (g := pendingGrant) rfl, ?_, ?_⟩
  · rw [positionOf_eq_none]
    intro k e h
    simp [fullTally, ScreeningUnit.entryAt] at h
    simp [← h, aPan]
  · simp [ScreeningUnit.emptyPosition, fullTally, ScreeningUnit.entryAt, allPositions]

/-- R15, R17, R57: an approval that is left without an allowance is booked and settles with LINE_LOCKOUT; a decision
timer that does not run has nothing to expire. -/
theorem witness_DecisionTimeoutUsesStandin_settled :
    HeldIn (priced 0 (timingOut .offlineAndTimeout)) 1 0 pendingGrant
    ∧ ((after (exec (.decisionTimerExpiry 1) (priced 0 (timingOut .offlineAndTimeout))) site).grantAt 0).map
        (fun g => (g.state, g.outcome)) = some (.settled, some .lineLockout)
    ∧ (after (exec (.decisionTimerExpiry 1) (priced 0 (timingOut .offlineAndTimeout))) site).su.entryAt 0
        = some { pan := aPan, program := 3, count := 1, amount := 0 }
    ∧ (HeldIn (running (grantIn .armed)) 1 0 (grantIn .armed) ∧ ∀ k, (grantIn .armed).decisionTimer ≠ .running k) :=
  ⟨held_in_first_slot (g := pendingGrant) rfl, by decide, by decide, held_running _ rfl, by simp [grantIn]⟩

/-- `Booked` for a card with an entry and for one without. -/
theorem witness_Booked :
    (let u := (timingOut .offlineAndTimeout).su.setEntry 5 (some { pan := aPan, program := 3, count := 1, amount := 9 })
     u.entryAt 5 = some { pan := aPan, program := 3, count := 1, amount := 9 }
      ∧ ∀ j f, u.entryAt j = some f → f.pan = aPan → j = 5)
    ∧ ((∀ j f, site.su.entryAt j = some f → f.pan ≠ aPan) ∧ site.su.entryAt 0 = none
      ∧ ∀ j : Fin 128, j < 0 → site.su.entryAt j ≠ none) := by
  have empty : ∀ k, site.su.entryAt k = none := by
    intro k
    simp [site, ScreeningUnit.entryAt, State.reset, State.afterReset]
  refine ⟨⟨by simp, fun j f h _ => ?_⟩, fun j f h => by simp [empty j] at h, empty 0, fun j h => absurd h (by omega)⟩
  by_contra ne
  have other : (timingOut .offlineAndTimeout).su.entryAt j = site.su.entryAt j := rfl
  rw [setEntry_entryAt, if_neg ne, other, empty j] at h
  exact nomatch h

/-- Point 8 lifted for a grant, and a point whose nozzle is down in another state. -/
def lockedSite (g : Grant) : State := (running g).setLine 0 { dieselLine with state := .lockedOut }

theorem witness_LiftIsAdmitted :
    (((site.point 0).nozzle = false) ∧ (site.point 0).state = .disabled)
    ∧ ((site.point 8).nozzle = false ∧ (site.point 8).state = .idle ∧ (site.point 8).tag = none)
    ∧ (∀ state, ((running (grantIn state)).point 8).nozzle = false ∧ ((running (grantIn state)).point 8).state = .idle
      ∧ ((running (grantIn state)).point 8).tag = some 1 ∧ HeldIn (running (grantIn state)) 1 0 (grantIn state)
      ∧ ((running (grantIn state)).point 8).config = some masterConfig)
    ∧ (∀ state, HeldIn (lockedSite (grantIn state)) 1 0 (grantIn state)
      ∧ ((lockedSite (grantIn state)).line 0).state ≠ .available)
    ∧ (∀ state, (running (grantIn state)).ss.site = .running ∧ ((running (grantIn state)).line 0).state = .available
      ∧ (grantIn state).openOn 0 = true ∧ ((running (grantIn state)).line 0).config = some dieselConfig
      ∧ ((running (grantIn state)).line 0).pump = .off
      ∧ hasPoint ((running (grantIn state)).line 0).requesting 8 = false ∧ 1 ≤ dieselConfig.startDelay) := by
  refine ⟨by decide, by decide, fun state => ⟨by simp [running]; rfl, by simp [running]; rfl, by simp [running],
    held_running _ rfl, by simp [running]; rfl⟩, fun state => ⟨?_, by simp [lockedSite]⟩, fun state => ?_⟩
  · have : (lockedSite (grantIn state)).grantAt 0 = some (grantIn state) := by
      simp [lockedSite, (held_running (grantIn state) rfl).2]
    exact held_in_first_slot (g := grantIn state) this
  · cases state <;> decide

/-- The settle window, the point out of service, and the pump forms that a pump request meets. -/
theorem witness_LiftIsAdmitted_forms :
    (let s := site.setPoint 8 { masterPoint with state := .outOfService }
     (s.point 8).nozzle = false ∧ (s.point 8).state = .outOfService)
    ∧ (let s := site.setPoint 8 { masterPoint with state := .settling }
       (s.point 8).nozzle = false ∧ (s.point 8).state = .settling ∧ (s.point 8).tag = none)
    ∧ (∀ state, HeldIn (delivering { masterPoint with state := .settling, tag := some 1 } (grantIn state)) 1 0 (grantIn state)
      ∧ (grantIn state).state = state)
    ∧ (let s := (running (grantIn .armed)).setLine 0 { pumpOn with delayMet := false, startTimer := .running 1 }
       (s.point 9).config.map (·.line) = some 0 ∧ (s.line 0).config = some dieselConfig ∧ s.ss.site = .running
        ∧ (s.line 0).state = .available ∧ hasPoint (s.line 0).requesting 9 = false ∧ (s.line 0).pump = .on
        ∧ (s.line 0).delayMet = false)
    ∧ (let s := (running (grantIn .armed)).setLine 0 { dieselLine with config := some { dieselConfig with startDelay := 0 } }
       (s.point 9).tag = some 1 ∧ HeldIn s 1 0 (grantIn .armed) ∧ (s.line 0).pump = .off
        ∧ (s.line 0).config = some { dieselConfig with startDelay := 0 }
        ∧ hasPoint (s.line 0).requesting 9 = false)
    ∧ (let s := delivering flowingPoint (grantIn .fueling)
       (s.line 0).pump = .on ∧ (s.line 0).delayMet = true ∧ hasPoint (s.line 0).requesting 9 = false)
    ∧ (({ pumpOn with pump := .runOn, requesting := 0, runOnTimer := .running 1 } : Line).pump = .runOn) :=
  ⟨by decide, by decide, fun _ => ⟨held_delivering _ _ rfl, rfl⟩, by decide,
    ⟨rfl, held_in_first_slot (g := grantIn .armed) rfl, rfl, rfl, by decide⟩, by decide, rfl⟩

/-- R80: a lift in the settle window stops a FUELING grant's idle-end timer. -/
theorem test_lift_while_settling :
    ((after
        (exec (.lift 8)
          (delivering { masterPoint with state := .settling, tag := some 1 }
            { grantIn .fueling with idleEndTimer := .running 7 })) site).grantAt 0).map (·.idleEndTimer) = some .stopped := by
  decide

theorem witness_LiftOpensValveAtPressure :
    (let s := delivering flowingPoint (grantIn .fueling)
     (s.point 9).nozzle = false ∧ (s.point 9).state = .idle ∧ (s.point 9).tag = some 1
      ∧ HeldIn s 1 0 (grantIn .fueling) ∧ (s.point 9).config = some { masterConfig with role := .satellite, k := 240 }
      ∧ s.ss.site = .running ∧ (s.line 0).state = .available ∧ (s.line 0).config = some dieselConfig
      ∧ (grantIn .fueling).allowanceOn 0
        = some { line := 0, ceiling := 400000, limit := some (.amount, 50000), armed := some someTerms }
      ∧ someTerms.exhausted = false ∧ hasPoint (s.line 0).requesting 9 = false
      ∧ (s.line 0).pump = .on ∧ (s.line 0).delayMet = true)
    ∧ (((delivering flowingPoint (grantIn .armed)).setLine 0
        { pumpOn with pump := .runOn, requesting := 0, runOnTimer := .running 1 }).line 0).pump = .runOn :=
  ⟨⟨rfl, rfl, rfl, held_delivering _ _ rfl, rfl, rfl, rfl, rfl, rfl, rfl, by decide, rfl, rfl⟩, rfl⟩

theorem witness_HangUpClosesValve :
    (((delivering { flowingPoint with tag := none } (grantIn .fueling)).point 8).nozzle = true
      ∧ ((delivering { flowingPoint with tag := none } (grantIn .fueling)).point 8).tag = none)
    ∧ (((delivering { flowingPoint with state := .outOfService } (grantIn .held)).point 8).nozzle = true
      ∧ ((delivering { flowingPoint with state := .outOfService } (grantIn .held)).point 8).state = .outOfService)
    ∧ (let s := delivering flowingPoint (grantIn .fueling)
       (s.point 8).nozzle = true ∧ (s.point 8).state = .flowing ∧ (s.point 8).tag = some 1
        ∧ HeldIn s 1 0 (grantIn .fueling) ∧ ∀ q ∈ (grantIn .fueling).attached, q ≠ 8 → (s.point q).nozzle = false)
    ∧ (let s := (delivering flowingPoint (grantIn .fueling)).setPoint 9 { satellitePoint with nozzle := true }
       ∃ q ∈ (grantIn .fueling).attached, q ≠ 8 ∧ (s.point q).nozzle = true) :=
  ⟨by decide, by decide, ⟨rfl, rfl, rfl, held_delivering _ _ rfl, by decide⟩, 9, by decide, by decide, by decide⟩

/-- α at its top, at both ends of T, at 15.0 °C, and a money limit at 1 tenth of a cent a litre. -/
theorem witness_SaleArithmetic :
    (2000 ≤ 2000 ∧ (-400 : Int) ≤ -400 ∧ (-400 : Int) ≤ 700 ∧ factorOf 2000 (-400) = 1110000
      ∧ factorOf 2000 700 = 890000)
    ∧ ((149 : Int) < 150 ∧ factorOf 2000 149 = 1000200) ∧ ((150 : Int) ≤ 150 ∧ factorOf 2000 150 = 1000000)
    ∧ (1 ≤ 1 ∧ amountOf (min (equivalentVolume .amount 50000 1789) 400000) 1789 = 50000) := by decide

/-- Point 8 after 63 forward steps, and the terms with the residual near its end. -/
def nearEnd (residual : Nat) (state : GrantState) : Grant :=
  { grantIn state with
    allowances :=
      [{ line := 0
         ceiling := 400000
         limit := some (.amount, 50000)
         armed :=
          some
            { someTerms with
              cap := residual } }] }

theorem witness_PeriodEndMetersSale :
    let s := delivering { flowingPoint with forward := 63 } (grantIn .fueling)
    (s.point 8).state = .flowing ∧ (s.point 8).config = some masterConfig ∧ (s.point 8).tag = some 1
      ∧ HeldIn s 1 0 (grantIn .fueling)
      ∧ (grantIn .fueling).allowanceOn 0
        = some { line := 0, ceiling := 400000, limit := some (.amount, 50000), armed := some someTerms }
      ∧ someTerms.exhausted = false ∧ someTerms.records.find? (·.point == 8) = some (newRecord 8 250)
      ∧ (s.point 8).errors < 4 ∧ (s.point 8).forward ≠ 4095 ∧ (s.point 8).reverse ≠ 4095
      ∧ ((newRecord 8 250).pulses : Int) + 63 ≤ 4294967295
      ∧ 0 < (someTerms.accumulate 8 63 986224).residual
      ∧ ((248 * 3 : Nat) : Int) < (someTerms.accumulate 8 63 986224).residual
      ∧ (5000 : Int) < (someTerms.accumulate 8 63 986224).residual
      ∧ factorOf (s.lineField 0 (·.alpha)) (s.probe 0).temperature = 986224
      ∧ (((someTerms.accumulate 8 63 986224).records.filter fun r =>
          (grantIn .fueling).attached.contains r.point
            && ((s.point r.point).state == .flowing || (s.point r.point).state == .slowing)).map
              (·.lastIncrement)).sum = 248 :=
  ⟨rfl, rfl, rfl, held_delivering _ _ rfl, rfl, rfl, by decide, by decide, by decide, by decide, by decide, by decide,
    by decide, by decide, by decide, by decide⟩

/-- With a cap of 3,000 ml the residual after the period is at most the slow margin. -/
theorem witness_PeriodEndMetersSale_slow :
    let s := delivering { flowingPoint with forward := 63 } (nearEnd 3000 .fueling)
    let terms := { someTerms with cap := 3000 }
    HeldIn s 1 0 (nearEnd 3000 .fueling)
      ∧ (nearEnd 3000 .fueling).allowanceOn 0
        = some { line := 0, ceiling := 400000, limit := some (.amount, 50000), armed := some terms }
      ∧ terms.exhausted = false ∧ terms.records.find? (·.point == 8) = some (newRecord 8 250)
      ∧ ((248 * 3 : Nat) : Int) < (terms.accumulate 8 63 986224).residual
      ∧ (terms.accumulate 8 63 986224).residual ≤ 5000
      ∧ ((after (exec (.periodEnd 8) s) site).point 8).state = .slowing
      ∧ ((after (exec (.periodEnd 8) s) site).point 8).stageDuty = 96 :=
  ⟨held_delivering _ _ rfl, rfl, rfl, by decide, by decide, by decide, by decide, by decide⟩

/-- With a cap of 248 ml the first period leaves a residual of 0, the boundary of R118. -/
theorem witness_PeriodEndExhaustsAllowance :
    let s := delivering { flowingPoint with forward := 63 } (nearEnd 248 .fueling)
    let terms := { someTerms with cap := 248 }
    (s.point 8).state = .flowing ∧ (s.point 8).config = some masterConfig ∧ (s.point 8).tag = some 1
      ∧ HeldIn s 1 0 (nearEnd 248 .fueling) ∧ (nearEnd 248 .fueling).state = .fueling
      ∧ 8 ∈ (nearEnd 248 .fueling).attached
      ∧ (nearEnd 248 .fueling).allowanceOn 0
        = some { line := 0, ceiling := 400000, limit := some (.amount, 50000), armed := some terms }
      ∧ terms.exhausted = false
      ∧ (∀ b ∈ (nearEnd 248 .fueling).allowances, b.line ≠ 0 → b.isOpen = false)
      ∧ terms.records.find? (·.point == 8) = some (newRecord 8 250)
      ∧ (terms.accumulate 8 63 986224).residual ≤ 0 :=
  ⟨rfl, rfl, rfl, held_delivering _ _ rfl, rfl, by decide, rfl, rfl, by decide, by decide, by decide⟩

/-- Creep at the allowance, one above it, and out of service. -/
theorem witness_CreepIsWatched :
    (let s := site.setPoint 8 { masterPoint with forward := 40 }
     (s.point 8).config = some masterConfig ∧ (s.point 8).state = .idle ∧ (s.point 8).errors < 4
      ∧ (s.point 8).forward ≠ 4095 ∧ (s.point 8).reverse ≠ 4095
      ∧ (((s.point 8).creep : Int) + (s.point 8).forward).toNat ≤ 40)
    ∧ (let s := site.setPoint 8 { masterPoint with forward := 40, state := .outOfService }
       (s.point 8).state = .outOfService ∧ (((s.point 8).creep : Int) + (s.point 8).forward).toNat ≤ 40)
    ∧ (let s := site.setPoint 8 { masterPoint with forward := 41 }
       (s.point 8).state = .idle ∧ (s.point 8).tag = none ∧ hasPoint (s.line 0).requesting 8 = false
        ∧ 40 < (((s.point 8).creep : Int) + (s.point 8).forward).toNat)
    ∧ (let s := site.setPoint 8 { masterPoint with forward := 41, state := .outOfService }
       (s.point 8).state = .outOfService ∧ 40 < (((s.point 8).creep : Int) + (s.point 8).forward).toNat) := by
  decide

/-- Point 8 at rest for a grant, with these counts of the period. -/
def restingFor (g : Grant) (state : PointState) (forward errors : Nat) : State :=
  delivering { masterPoint with state := state, tag := some 1, forward := forward, errors := errors } g

theorem witness_CreepIsWatched_attached :
    (∀ state, HeldIn (restingFor (grantIn state) .lifted 41 0) 1 0 (grantIn state))
    ∧ (let s := restingFor (grantIn .armed) .lifted 41 0
       (s.point 8).config = some masterConfig ∧ (s.point 8).state = .lifted ∧ (s.point 8).tag = some 1
        ∧ 40 < (((s.point 8).creep : Int) + (s.point 8).forward).toNat) :=
  ⟨fun _ => held_delivering _ _ rfl, by decide⟩

/-- R148: unauthorized flow ends the grant, and the point leaves it. -/
theorem test_unauthorized_flow :
    ((after (exec (.periodEnd 8) (restingFor (grantIn .armed) .idle 41 0)) site).grantAt 0).map
        (fun g => (g.state, g.outcome)) = some (.settled, some .unauthFlow)
      ∧ ((after (exec (.periodEnd 8) (restingFor (grantIn .armed) .idle 41 0)) site).point 8).state = .outOfService := by
  decide

/-- R146: a pulser fault of a point at rest ends a HELD grant. -/
theorem test_compound_fault :
    ((after (exec (.periodEnd 8) (restingFor (grantIn .held) .idle 0 4)) site).grantAt 0).map (·.outcome)
      = some (some .compound) := by decide

/-- The removed point of a grant in each state, with its timers running or stopped, another point lifted or not, another
point busy or not; the fault at rest; the fault in the settle window. -/
theorem witness_PulserFaultEscalates_attached :
    (site.point 8).tag = none
    ∧ (∀ state, HeldIn (restingFor (grantIn state) .idle 0 4) 1 0 (grantIn state) ∧ (grantIn state).state = state)
    ∧ (HeldIn (restingFor { grantIn .fueling with liftTimer := .running 1 } .idle 0 4) 1 0
        { grantIn .fueling with liftTimer := .running 1 })
    ∧ ((grantIn .fueling).liftTimer = .stopped ∧ (grantIn .fueling).idleEndTimer = .stopped
      ∧ ∀ u ∈ (grantIn .fueling).attached.filter (· ≠ 8), ((restingFor (grantIn .fueling) .idle 0 4).point u).nozzle = false)
    ∧ (let s := (restingFor (grantIn .fueling) .idle 0 4).setPoint 9 { satellitePoint with nozzle := true, state := .settling }
       HeldIn s 1 0 (grantIn .fueling) ∧ (∃ u ∈ (grantIn .fueling).attached.filter (· ≠ 8), (s.point u).nozzle = true)
        ∧ ∃ u ∈ (grantIn .fueling).attached.filter (· ≠ 8), (s.point u).state.blocksSettlement = true)
    ∧ (∀ u ∈ (grantIn .closing).attached.filter (· ≠ 8),
        ((restingFor (grantIn .closing) .idle 0 4).point u).state.blocksSettlement = false)
    ∧ (let s := restingFor (grantIn .held) .lifted 40 4
       (s.point 8).config = some masterConfig ∧ 4 ≤ (s.point 8).errors ∧ (s.point 8).state = .lifted
        ∧ (s.point 8).tag = some 1 ∧ (((s.point 8).creep : Int) + (s.point 8).forward).toNat ≤ 40)
    ∧ (let s := delivering { masterPoint with state := .settling, tag := some 1, settleLeft := 2, errors := 4 } (grantIn .held)
       HeldIn s 1 0 (grantIn .held) ∧ (s.point 8).state = .settling ∧ 2 ≤ (s.point 8).settleLeft
        ∧ (grantIn .held).allowanceOn 0
          = some { line := 0, ceiling := 400000, limit := some (.amount, 50000), armed := some someTerms }
        ∧ someTerms.records.find? (·.point == 8) = some (newRecord 8 250)
        ∧ (5000 : Int) < (someTerms.accumulate 8 0 986224).residual) := by
  refine ⟨rfl, fun _ => ⟨held_delivering _ _ rfl, rfl⟩, held_delivering _ _ rfl, by decide,
    ⟨held_in_first_slot (g := grantIn .fueling) rfl, by decide, by decide⟩, by decide, by decide,
    held_delivering _ _ rfl, rfl, by decide, rfl, by decide, by decide⟩

theorem witness_PulserFaultEscalates :
    (let s := delivering { flowingPoint with forward := 63, errors := 4 } (grantIn .fueling)
     (s.point 8).config = some masterConfig ∧ 4 ≤ (s.point 8).errors ∧ (s.point 8).state = .flowing
      ∧ (s.point 8).tag = some 1 ∧ HeldIn s 1 0 (grantIn .fueling) ∧ (grantIn .fueling).state = .fueling
      ∧ 8 ∈ (grantIn .fueling).attached
      ∧ (grantIn .fueling).allowanceOn 0
        = some { line := 0, ceiling := 400000, limit := some (.amount, 50000), armed := some someTerms }
      ∧ (5000 : Int) < (someTerms.accumulate 8 63 986224).residual)
    ∧ (let s := site.setPoint 8 { masterPoint with reverse := 4095 }
       (s.point 8).reverse = 4095 ∧ (s.point 8).state = .idle ∧ (s.point 8).tag = none
        ∧ hasPoint (s.line 0).requesting 8 = false) :=
  ⟨⟨rfl, by decide, rfl, rfl, held_delivering _ _ rfl, rfl, by decide, rfl, by decide⟩, by decide⟩

theorem witness_LockoutExhaustsLine :
    ((site.setLine 0 { dieselLine with state := .lockedOut }).line 0).state = .lockedOut
    ∧ ((delivering flowingPoint (grantIn .fueling)).line 0).state ≠ .lockedOut
    ∧ (delivering flowingPoint (grantIn .fueling)).grantAt 0 = some (grantIn .fueling)
    ∧ (grantIn .fueling).openOn 0 = true
    ∧ ∀ a ∈ (grantIn .fueling).allowances, a.line ≠ 0 → a.isOpen = false :=
  ⟨rfl, by decide, (held_delivering _ _ rfl).2, by decide, by decide⟩

/-- Point 8 in its settle window, with `left` periods to go. -/
def settlingPoint (left : Nat) : Point := { flowingPoint with state := .settling, settleLeft := left }

def endedGrant : Grant :=
  { grantIn .closing with
    allowances :=
      [{ line := 0, ceiling := 400000, limit := some (.amount, 50000), armed := some { someTerms with exhausted := true } }] }

theorem witness_SettleWindowEnds :
    (∀ left, let s := delivering (settlingPoint left) endedGrant
     (s.point 8).state = .settling ∧ (s.point 8).config = some masterConfig ∧ (s.point 8).tag = some 1
      ∧ HeldIn s 1 0 endedGrant ∧ endedGrant.state = .closing
      ∧ endedGrant.allowanceOn 0 = some
        { line := 0, ceiling := 400000, limit := some (.amount, 50000), armed := some { someTerms with exhausted := true } }
      ∧ someTerms.records.find? (·.point == 8) = some (newRecord 8 250)
      ∧ (s.point 8).errors < 4 ∧ (s.point 8).forward ≠ 4095 ∧ (s.point 8).reverse ≠ 4095
      ∧ (s.point 8).settleLeft = left)
    ∧ (8 ∈ endedGrant.attached
      ∧ ∀ q ∈ endedGrant.attached, q ≠ 8 →
          ((delivering (settlingPoint 1) endedGrant).point q).state.blocksSettlement = false)
    ∧ ∃ q ∈ endedGrant.attached, q ≠ 8
      ∧ (((delivering (settlingPoint 1) endedGrant).setPoint 9 { satellitePoint with state := .settling }).point
          q).state.blocksSettlement = true := by
  refine ⟨fun left => ⟨?_, ?_, ?_, held_delivering _ _ rfl, rfl, rfl, by decide, ?_, ?_, ?_, ?_⟩, by decide,
    9, by decide, by decide, by decide⟩ <;> simp [delivering, settlingPoint, flowingPoint, masterPoint, Point.atReset]

/-- The last period of the window under a grant that goes on, its allowance OPEN and above the slow margin: the nozzle
lifted or not, the line available or locked out. -/
theorem witness_SettleWindowEnds_open :
    (∀ state nozzle, let s := delivering { settlingPoint 1 with nozzle := nozzle } (grantIn state)
     HeldIn s 1 0 (grantIn state) ∧ (grantIn state).state = state ∧ (s.point 8).nozzle = nozzle
      ∧ (s.point 8).settleLeft = 1 ∧ s.ss.site = .running ∧ (s.line 0).state = .available)
    ∧ (someTerms.exhausted = false ∧ someTerms.records.find? (·.point == 8) = some (newRecord 8 250)
      ∧ (5000 : Int) < (someTerms.accumulate 8 0 986224).residual)
    ∧ (((delivering (settlingPoint 1) (grantIn .fueling)).setLine 0 { pumpOn with state := .lockedOut }).line 0).state
        ≠ .available := by
  refine ⟨fun state nozzle => ⟨held_delivering _ _ rfl, rfl, ?_, ?_, rfl, ?_⟩, by decide, by decide⟩ <;>
    simp [delivering, settlingPoint, pumpOn, dieselLine]

/-- R81, R94: a point whose nozzle is lifted at the end of its window is admitted again, here on a pump in RUN_ON. -/
theorem test_readmission :
    ((after
        (exec (.periodEnd 8)
          ((delivering (settlingPoint 1) (grantIn .fueling)).setLine 0
            { pumpOn with pump := .runOn, requesting := 0, runOnTimer := .running 9 })) site).point 8).state = .flowing := by
  decide

theorem witness_PointSetConfigures :
    Takes (.pointSet 32 .clear) site
    ∧ ¬ GoodPoint 0 49 4 40 ∧ ¬ GoodPoint 4 50 4 40 ∧ ¬ GoodPoint 0 2001 4 40
    ∧ (GoodPoint 3 50 1 1 ∧ GoodPoint 0 2000 15 255)
    ∧ (Takes (.pointSet 8 .clear) (running (grantIn .armed))
      ∧ ¬ (((running (grantIn .armed)).point 8).tag = none
        ∧ (((running (grantIn .armed)).point 8).state = .idle ∨ ((running (grantIn .armed)).point 8).state = .disabled)))
    ∧ ((site.point 8).tag = none ∧ (site.point 8).state = .idle)
    ∧ ((site.point 31).tag = none ∧ (site.point 31).state = .disabled) :=
  ⟨takes_of_none rfl, by unfold GoodPoint; decide, by unfold GoodPoint; decide, by unfold GoodPoint; decide,
    by unfold GoodPoint; decide, ⟨takes_of_none rfl, by decide⟩, by decide, by decide⟩

theorem witness_PointReadAndEnable :
    Takes (.pointRead 31) site ∧ Takes (.pointRead 32) site ∧ Takes (.pointEnable 31) site ∧ Takes (.pointEnable 32) site :=
  ⟨takes_of_none rfl, takes_of_none rfl, takes_of_none rfl, takes_of_none rfl⟩

/-- The fields of the example line as LINE_SET carries them. -/
def dieselFields : LineFields where
  ceiling := 400000
  slowMargin := 5000
  closeLead := 3
  alpha := 840
  basis := some .compensated
  fullDuty := 255
  slowDuty := 96
  startDelay := 5
  runOn := 50
  probe := some true

theorem good_dieselFields : GoodLine .roadDiesel dieselFields dieselConfig := by
  unfold GoodLine
  decide

/-- A slow duty above the full duty is no good line. -/
theorem bad_dieselFields (c : LineConfig) : ¬ GoodLine .roadDiesel { dieselFields with fullDuty := 95 } c := by
  rintro ⟨-, -, -, -, -, -, -, -, slow, -⟩
  revert slow
  decide

theorem witness_LineSetConfigures :
    (Takes (.lineSet 4 .clear) site ∧ ∀ c, ¬ GoodLine .roadDiesel { dieselFields with fullDuty := 95 } c)
    ∧ GoodLine .roadDiesel dieselFields dieselConfig
    ∧ (Takes (.lineSet 0 .clear) (site.setLine 0 { dieselLine with state := .lockedOut })
      ∧ ((site.setLine 0 { dieselLine with state := .lockedOut }).line 0).state = .lockedOut)
    ∧ (Takes (.lineSet 0 .clear) waiting ∧ (waiting.line 0).state ≠ .lockedOut
      ∧ ∃ i g a, waiting.grantAt i = some g ∧ a ∈ g.allowances ∧ a.line = 0)
    ∧ ((site.line 3).state ≠ .lockedOut ∧ (∀ i g, site.grantAt i = some g → ∀ a ∈ g.allowances, a.line ≠ 3)
      ∧ (site.line 3).hasProbe = false ∧ dieselConfig.probe = true ∧ site.tu.converting = none
      ∧ (State.reset.probe 0).inRotation = false)
    ∧ (site.line 0).hasProbe = true := by
  refine ⟨⟨takes_of_none rfl, bad_dieselFields⟩, good_dieselFields, ⟨takes_of_none rfl, rfl⟩,
    ⟨takes_of_none rfl, by decide, 0, pendingGrant, _, rfl, List.mem_singleton.mpr rfl, rfl⟩,
    ⟨by decide, ?_, by decide, rfl, rfl, rfl⟩, rfl⟩
  intro i g h
  simp [site_slots_free i] at h

theorem witness_LineCommands :
    (Takes (.priceSet 4 0) site ∧ Takes (.priceSet 3 100000) site)
    ∧ (Takes (.priceSet 3 99999) site ∧ (site.line 3).price ≤ 99999)
    ∧ (Takes (.lineRead 3) site ∧ Takes (.lineRead 4) site) ∧ (Takes (.lineRestore 3) site ∧ Takes (.lineRestore 4) site) :=
  ⟨⟨takes_of_none rfl, takes_of_none rfl⟩, ⟨takes_of_none rfl, by decide⟩, ⟨takes_of_none rfl, takes_of_none rfl⟩,
    takes_of_none rfl, takes_of_none rfl⟩

/-- The pump of line 0 waiting for pressure, with point 8 PRIMING. -/
def primingState : State :=
  ((running (grantIn .fueling)).setPoint 8 { flowingPoint with state := .priming, stageDuty := 0, dutyInForce := 0 }).setLine
    0 { pumpOn with delayMet := false, startTimer := .running 1 }

theorem witness_LineTimersExpire :
    ((site.setLine 0 { dieselLine with pump := .runOn, delayMet := true, runOnTimer := .running 1 }).line 0).runOnTimer
      = .running 1
    ∧ (∀ k, (site.line 0).runOnTimer ≠ .running k) ∧ (∀ k, (site.line 0).startTimer ≠ .running k)
    ∧ ((primingState.line 0).startTimer = .running 1 ∧ (primingState.point 8).state = .priming
      ∧ (primingState.point 8).config = some masterConfig ∧ masterConfig.line = 0
      ∧ (primingState.point 8).tag = some 1 ∧ HeldIn primingState 1 0 (grantIn .fueling)
      ∧ (grantIn .fueling).allowanceOn 0
        = some { line := 0, ceiling := 400000, limit := some (.amount, 50000), armed := some someTerms }) :=
  ⟨rfl, by simp [site, dieselLine, Line.atReset], by simp [site, dieselLine, Line.atReset], rfl, rfl, rfl, rfl, rfl,
    held_in_first_slot (g := grantIn .fueling) rfl, rfl⟩

/-- The converter at work on line 0. -/
def converting (x : Probe) (discard : Bool) : State :=
  (site.setProbe 0 x).modTu fun u => { u with converting := some { line := 0, discard := discard } }

theorem witness_ProbeRows :
    (Takes (.probeSet 0 (-1001) 1) site ∧ Takes (.probeSet 0 1001 1) site ∧ Takes (.probeSet 0 0 0) site
      ∧ Takes (.probeSet 0 0 3001) site)
    ∧ (Takes (.probeSet 3 (-1000) 1) site ∧ Takes (.probeSet 3 1000 3000) site)
    ∧ ((converting warmProbe true).tu.converting = some { line := 0, discard := true })
    ∧ ((converting warmProbe false).tu.converting = some { line := 0, discard := false }
      ∧ ((converting warmProbe false).probe 0).inRotation = true
      ∧ ((converting warmProbe false).probe 0).state ≠ .absent)
    ∧ (∀ m : Fin 4, ((converting Probe.atReset true).probe m).inRotation = false) ∧ site.tu.converting = none
    ∧ ((0 : Fin 4) = (converting warmProbe false).tu.lastServed + 1 + 0)
    ∧ (4 ≤ 4 ∧ 1019 ≤ 1019 ∧ 3 < 4 ∧ 1019 < 1020)
    ∧ (((site.setProbe 0 { warmProbe with state := .holding, hold := .running 1 }).probe 0).hold = .running 1
      ∧ ∀ k, (site.probe 0).hold ≠ .running k) :=
  ⟨⟨takes_of_none rfl, takes_of_none rfl, takes_of_none rfl, takes_of_none rfl⟩,
    ⟨takes_of_none rfl, takes_of_none rfl⟩, rfl, by decide, by decide, rfl, by decide, by decide, rfl,
    by simp [site, warmProbe, Probe.atReset]⟩

theorem good_aProgram : GoodProgram aProgram.toArg aProgram :=
  ⟨by decide, by decide, by decide, by decide, by decide, by decide, rfl, rfl, rfl⟩

/-- A table of 32 entries, one program each. -/
def fullPrograms : State :=
  site.modSu fun u =>
    { u with programs := (List.range 32).map fun k => { aProgram with id := k, low := 1000 * k, high := 1000 * k + 999 } }

theorem witness_ProgramCommands :
    (Takes (.programPut { aProgram.toArg with id := 32 }) site ∧ ∀ p, ¬ GoodProgram { aProgram.toArg with id := 32 } p)
    ∧ (Takes (.programPut aProgram.toArg) exampleSite ∧ GoodProgram aProgram.toArg aProgram)
    ∧ (∃ q ∈ exampleSite.su.programs, q.id ≠ 9 ∧ 70020000 ≤ q.high ∧ q.low ≤ 70030500)
    ∧ (∀ q ∈ exampleSite.su.programs, q.id ≠ aProgram.id → ¬ (aProgram.low ≤ q.high ∧ q.low ≤ aProgram.high))
    ∧ 32 ≤ fullPrograms.su.programs.length
    ∧ ((∃ q ∈ exampleSite.su.programs, q.id = aProgram.id)
      ∧ exampleSite.su.programs.Pairwise (fun a b => a.low < b.low) ∧ ∀ q ∈ exampleSite.su.programs, q.low ≤ q.high)
    ∧ (Takes (.programDrop 31) site ∧ Takes (.programDrop 32) site)
    ∧ (Takes (.programRead 32) site ∧ Takes (.programRead 31) site ∧ site.su.programs.length ≤ 31)
    ∧ exampleSite.su.programs[2]? ≠ none := by
  refine ⟨⟨takes_of_none rfl, fun p h => by have := h.1; revert this; decide⟩,
    ⟨takes_of_none rfl, good_aProgram⟩, by decide, by decide, by decide, by decide,
    ⟨takes_of_none rfl, takes_of_none rfl⟩, ⟨takes_of_none rfl, takes_of_none rfl, by decide⟩, by decide⟩

/-- The forecourt with one card denied and one entry in the tally. -/
def cards : State :=
  site.modSu fun u =>
    { u with
      denied := [aPan]
      tally := u.tally.set 127 (some { pan := aPan, program := 3, count := 1, amount := 5 }) }

theorem witness_DenyAndTallyCommands :
    (Takes (.denyAdd aPan) cards ∧ Takes (.denyDrop aPan) cards ∧ Takes (.denyTest aPan) cards ∧ GoodPan aPan)
    ∧ (Takes .denyClear cards ∧ cards.su.denied.length ≤ 1024)
    ∧ (Takes (.tallyRead 128) cards ∧ Takes (.tallyRead 127) cards
      ∧ cards.su.entryAt 127 = some { pan := aPan, program := 3, count := 1, amount := 5 }
      ∧ cards.su.entryAt 0 = none)
    ∧ (Takes (.tallyDrop [1]) cards ∧ ¬ GoodPan [1])
    ∧ (Takes (.tallyDrop aPan) site ∧ ∀ k e, site.su.entryAt k = some e → e.pan ≠ aPan)
    ∧ (Takes (.tallyDrop aPan) cards ∧ ∀ j f, cards.su.entryAt j = some f → f.pan = aPan → j = 127)
    ∧ Takes .tallyClear cards := by
  have empty : ∀ k, site.su.entryAt k = none := by
    intro k
    simp [site, ScreeningUnit.entryAt, State.reset, State.afterReset]
  refine ⟨⟨takes_of_none rfl, takes_of_none rfl, takes_of_none rfl, by decide⟩, ⟨takes_of_none rfl, by decide⟩,
    ⟨takes_of_none rfl, takes_of_none rfl, by decide, by decide⟩, ⟨takes_of_none rfl, by decide⟩,
    ⟨takes_of_none rfl, fun k e h => by simp [empty k] at h⟩, ⟨takes_of_none rfl, fun j f h _ => ?_⟩,
    takes_of_none rfl⟩
  have read : cards.su.entryAt j = if j = 127 then some { pan := aPan, program := 3, count := 1, amount := 5 }
      else site.su.entryAt j := setEntry_entryAt site.su 127 j _
  by_contra ne
  rw [read, if_neg ne, empty j] at h
  exact nomatch h

theorem witness_LinkAndDate :
    (Takes (.linkSet none) site ∧ Takes (.linkSet (some .online)) site ∧ site.su.link = .online)
    ∧ (Takes (.linkSet (some .offline)) site ∧ LinkState.offline ≠ site.su.link)
    ∧ (Takes (.dateSet (some { y1 := 2, y2 := 5, m1 := 1, m2 := 3 })) site
      ∧ ¬ GoodMonth { y1 := 2, y2 := 5, m1 := 1, m2 := 3 })
    ∧ (Takes (.dateSet (some { y1 := 9, y2 := 9, m1 := 1, m2 := 2 })) site
      ∧ GoodMonth { y1 := 9, y2 := 9, m1 := 1, m2 := 2 }) :=
  ⟨⟨takes_of_none rfl, takes_of_none rfl, rfl⟩, ⟨takes_of_none rfl, by decide⟩, ⟨takes_of_none rfl, by decide⟩,
    takes_of_none rfl, by decide⟩

theorem witness_HaltStopsForecourt :
    (delivering flowingPoint (grantIn .fueling)).grantAt 0 = some (grantIn .fueling)
    ∧ ((delivering flowingPoint (grantIn .fueling)).point 8).state = .flowing
    ∧ (running (grantIn .armed)).grantAt 0 = some (grantIn .armed)
    ∧ (running (grantIn .closing)).grantAt 0 = some (grantIn .closing) ∧ site.grantAt 1 = none :=
  ⟨(held_delivering _ _ rfl).2, rfl, (held_running _ rfl).2, (held_running _ rfl).2, site_slots_free 1⟩

theorem witness_SiteCommands :
    (Takes .siteHalt site ∧ site.ss.site = .running)
    ∧ (Takes .siteResume { site with ss := { site := .halting, estop := false } })
    ∧ (Takes .siteHalt haltedSite ∧ haltedSite.ss.site = .halted ∧ haltedSite.ss.estop = false)
    ∧ Takes .siteResume { site with ss := { site := .halted, estop := true } } :=
  ⟨⟨takes_of_none rfl, rfl⟩, takes_of_none rfl, ⟨takes_of_none rfl, rfl, rfl⟩, takes_of_none rfl⟩

/-- The IBI in a state of its own. -/
def busIn (b : BusState) : State := site.modIbi fun x => { x with state := b, busy := true, stuckTimer := true }

theorem witness_BusMonitorFollowsLines :
    (busIn .stuck).ibi.state = .stuck ∧ site.ibi.state ≠ .stuck ∧ (busIn .free).ibi.stuckTimer = true
    ∧ site.ibi.stuckTimer = false ∧ site.ibi.state ≠ .busyOther true
    ∧ (busIn (.busyOther true)).ibi.state = .busyOther true
    ∧ (0x50#8).toNat = 0x50 + 2 * (0 : Fin 8).val ∧ (0x5F#8).toNat = 0x51 + 2 * (7 : Fin 8).val
    ∧ (0x4F#8).toNat < 0x50 ∧ 0x5F < (0x60#8).toNat
    ∧ (calling.ibi.state = .masterTx (.lane 3 true) ∧ calling.ibi.stuckTimer = true ∧ calling.ibi.outgoing.length = 8) := by
  decide

theorem witness_WritePhaseSortsMessage :
    (∀ lane, site.ibi.state ≠ .slaveRx lane) ∧ (busIn (.slaveRx 7)).ibi.state = .slaveRx 7
    ∧ checkByte [0x02#8, 0x01#8, 0x01#8].dropLast ≠ [0x02#8, 0x01#8, 0x01#8].getLastD 0#8
    ∧ checkByte [0x01#8, 0x01#8].dropLast = [0x01#8, 0x01#8].getLastD 0#8
    ∧ checkByte [0x02#8, 0x01#8, 0xFF#8, 0xFC#8].dropLast = [0x02#8, 0x01#8, 0xFF#8, 0xFC#8].getLastD 0#8
    ∧ checkByte [0x02#8, 0x01#8, 0x00#8, 0x03#8].dropLast = [0x02#8, 0x01#8, 0x00#8, 0x03#8].getLastD 0#8 := by
  decide

theorem good_aRequest : GoodRequest aRequest := ⟨by decide, by decide, by decide, by decide, by decide⟩

theorem program_for_aRequest (s : State) (h : s.su.programs = [aProgram]) : s.programFor aPan = some aProgram := by
  unfold State.programFor
  rw [h]
  decide

theorem line_in_products (s : State) (hp : s.point 8 = masterPoint) (hl : s.line 0 = dieselLine) :
    InProducts s 2 aProgram 0 0 :=
  ⟨⟨8, masterConfig, by decide, by rw [hp]; decide, by rw [hp]; decide, by rw [hp]; rfl, rfl, .inl rfl⟩,
    ⟨dieselConfig, by rw [hl]; rfl, by decide⟩, by rw [hl]; rfl, by rw [hl]; decide, .inl rfl⟩

/-- The request passes every check on the forecourt with its program. -/
theorem screening_passes (s : State) (programs : s.su.programs = [aProgram]) (denied : s.su.denied = [])
    (date : s.su.date = none) (site : s.ss.site = .running) (free : ∀ i, s.grantAt i = none)
    (hp : s.point 8 = masterPoint) (hl : s.line 0 = dieselLine) : ∀ c ∈ refusals s 2 aRequest, ¬ c.1 := by
  have program := program_for_aRequest s programs
  intro c h
  simp only [refusals, List.mem_cons, List.not_mem_nil, or_false] at h
  rcases h with rfl | rfl | rfl | rfl | rfl | rfl | rfl | rfl | rfl
  · exact fun h => h good_aRequest
  · exact fun h => h site
  · rintro ⟨i, g, h, -⟩; rw [free i] at h; exact nomatch h
  · exact fun h => h 0 (free 0)
  · rw [denied]; exact List.not_mem_nil
  · intro h
    rw [show aRequest.pan = aPan from rfl, program] at h
    exact nomatch h
  · rintro ⟨d, h, -⟩; rw [date] at h; exact nomatch h
  · rintro ⟨p, k, h, bit, -⟩
    rw [show aRequest.pan = aPan from rfl, program] at h
    obtain rfl := Option.some.inj h
    revert bit
    cases k <;> decide
  · rintro ⟨p, h, none⟩
    rw [show aRequest.pan = aPan from rfl, program] at h
    obtain rfl := Option.some.inj h
    exact none 0 (line_in_products s hp hl)

theorem witness_ScreeningRefusesInOrder :
    TakenFrom site 2 (.auth none) (flushLane 2 site)
    ∧ (TakenFrom haltedSite 2 (.auth (some aRequest)) (flushLane 2 haltedSite)
      ∧ (∃ after, refusals haltedSite 2 aRequest
          = [(¬ GoodRequest aRequest, ReplyResult.format)] ++ (haltedSite.ss.site ≠ .running, .siteHalted) :: after)
      ∧ ¬ ¬ GoodRequest aRequest ∧ haltedSite.ss.site ≠ .running) :=
  ⟨.inl ⟨by decide, rfl⟩, .inl ⟨by decide, rfl⟩, ⟨_, rfl⟩, fun h => h good_aRequest, by decide⟩

theorem witness_ScreeningAcceptsOnline :
    TakenFrom screeningSite 2 (.auth (some aRequest)) (flushLane 2 screeningSite)
    ∧ (∀ c ∈ refusals screeningSite 2 aRequest, ¬ c.1) ∧ screeningSite.programFor aPan = some aProgram
    ∧ screeningSite.grantAt 0 = none ∧ (∀ j : Fin 24, j < 0 → screeningSite.grantAt j ≠ none)
    ∧ screeningSite.su.link = .online :=
  ⟨.inl ⟨by decide, rfl⟩,
    screening_passes _ rfl rfl rfl rfl (fun i => site_slots_free i) (by decide) (by decide),
    program_for_aRequest _ rfl, site_slots_free 0, fun j h => absurd h (Fin.not_lt_zero j), rfl⟩

/-- The same forecourt offline, with a program of another mode, and with a full tally. -/
def offlineSite : State := screeningSite.modSu fun u => { u with link := .offline }

def offlineFull : State :=
  offlineSite.modSu fun u =>
    { u with tally := Vector.replicate 128 (some { pan := [1], program := 0, count := 1, amount := 0 }) }

/-- The card has used up its count of 2. -/
def offlineUsed : State :=
  offlineSite.modSu fun u =>
    { u with tally := u.tally.set 0 (some { pan := aPan, program := 3, count := 2, amount := 0 }) }

theorem witness_StandinAnswersOffline :
    (TakenFrom offlineUsed 2 (.auth (some aRequest)) (flushLane 2 offlineUsed)
      ∧ (∀ c ∈ refusals offlineUsed 2 aRequest, ¬ c.1) ∧ offlineUsed.programFor aPan = some aProgram
      ∧ offlineUsed.su.link = .offline
      ∧ aProgram.countLimit ≤ ((offlineUsed.su.entryOf aPan).map (·.count)).getD 0)
    ∧ (TakenFrom offlineFull 2 (.auth (some aRequest)) (flushLane 2 offlineFull)
      ∧ (∀ c ∈ refusals offlineFull 2 aRequest, ¬ c.1) ∧ aProgram.mode ≠ .never
      ∧ offlineFull.su.positionOf aPan = none ∧ offlineFull.su.emptyPosition = none)
    ∧ (TakenFrom offlineSite 2 (.auth (some aRequest)) (flushLane 2 offlineSite)
      ∧ (∀ c ∈ refusals offlineSite 2 aRequest, ¬ c.1)
      ∧ ((offlineSite.su.entryOf aPan).map (·.count)).getD 0 < aProgram.countLimit
      ∧ offlineSite.su.emptyPosition ≠ none ∧ offlineSite.grantAt 0 = none
      ∧ ∀ j : Fin 24, j < 0 → offlineSite.grantAt j ≠ none) := by
  refine ⟨⟨.inl ⟨by decide, rfl⟩,
      screening_passes _ rfl rfl rfl rfl (fun i => site_slots_free i) (by decide) (by decide),
      program_for_aRequest _ rfl, rfl, by decide⟩,
    ⟨.inl ⟨by decide, rfl⟩,
      screening_passes _ rfl rfl rfl rfl (fun i => site_slots_free i) (by decide) (by decide), by decide, ?_, ?_⟩,
    .inl ⟨by decide, rfl⟩,
    screening_passes _ rfl rfl rfl rfl (fun i => site_slots_free i) (by decide) (by decide), by decide, by decide,
    site_slots_free 0, fun j h => absurd h (Fin.not_lt_zero j)⟩
  · rw [positionOf_eq_none]
    intro k e h
    simp [offlineFull, ScreeningUnit.entryAt] at h
    simp [← h, aPan]
  · simp [ScreeningUnit.emptyPosition, offlineFull, ScreeningUnit.entryAt, allPositions]

/-- Lane 7 read, with and without a request in processing, and with a stretched read. -/
def reading : State :=
  (busIn (.slaveTx 7)).modIbi fun b =>
    { b with inProcess := [{ lane := 7, message := .cancel 1, discarded := false }] }

theorem witness_RepliesAreRead :
    (∀ lane, site.ibi.state ≠ .slaveTx lane) ∧ reading.ibi.state = .slaveTx 7
    ∧ (∃ x ∈ reading.ibi.inProcess, x.lane = 7 ∧ x.discarded = false)
    ∧ (∀ x ∈ (busIn (.slaveTx 7)).ibi.inProcess, x.lane = 7 → x.discarded = true)
    ∧ (reading.modIbi fun b => { b with stretch := some 5 }).ibi.stretch = some 5
    ∧ (∀ x ∈ ([] : List InProcess), x.message = .malformed)
    ∧ (∀ x, [({ lane := 7, message := .cancel 1, discarded := false } : InProcess)].head? = some x →
        x.message ≠ .malformed)
    ∧ reading.ibi.inProcess = { lane := 7, message := .cancel 1, discarded := false } :: []
    ∧ ((7 : Fin 8) ≠ 6 ∨ LaneMessage.cancel 1 ≠ .cancel 1)
    ∧ (reading.modIbi fun b =>
        { b with inProcess := [{ lane := 7, message := .auth none, discarded := true }] }).ibi.inProcess
      = { lane := 7, message := .auth none, discarded := true } :: [] := by
  refine ⟨by decide, by decide, by decide, by decide, by decide, by decide, fun x h => ?_, by decide, by decide,
    by decide⟩
  obtain rfl := Option.some.inj h
  exact LaneMessage.noConfusion

/-- Lane 3 with two notices queued. -/
def noticed (b : BusState) (attempts : Nat) : State :=
  (busIn b).setLane 3
    { Lane.atReset with notices := [.declined 1 5, .declined 2 6], attempts := attempts }

theorem witness_NoticesAreSentInTurn :
    (site.lane 3).notices.length < 2
    ∧ (2 ≤ ((noticed .free 0).lane 3).notices.length ∧ ∀ c, (noticed .free 0).ibi.state ≠ .masterTx (.lane 3 c))
    ∧ (noticed (.masterTx (.lane 3 true)) 0).ibi.state = .masterTx (.lane 3 true)
    ∧ ((noticed .free 0).ibi.state = .free ∧ (noticed .free 0).ibi.general = none
      ∧ ((noticed .free 0).lane ((noticed .free 0).ibi.lastServed + 1 + 3)).notices
        = [.declined 1 5, .declined 2 6]
      ∧ ∀ e : Fin 8, e < 3 → ((noticed .free 0).lane ((noticed .free 0).ibi.lastServed + 1 + e)).notices = [])
    ∧ (∀ n, (site.lane n).notices = [])
    ∧ (placeSiteNotice site).ibi.general = some { halted := false, link := .online }
    ∧ (busIn (.masterTx (.general true))).ibi.state = .masterTx (.general true)
    ∧ (((noticed (.masterTx (.lane 3 true)) 1).lane 3).attempts < 2
      ∧ 2 ≤ ((noticed (.masterTx (.lane 3 true)) 2).lane 3).attempts)
    ∧ (calling.ibi.state = .masterTx (.lane 3 true) ∧ (some 7 : Option Nat) ≠ none) := by decide

/-! ### The laws hold of a state with a command waiting, which a step then takes -/

/-- The machine right after reset, with a command in its queue. -/
def asked : State := State.afterReset Pins.atPowerOn .released 0 [.statusRead]

theorem asked_steps : step asked = .next (after (step asked) asked) := rfl

theorem asked_point (p : Fin 32) : asked.point p = Point.atReset := by
  simp [asked, State.point, State.afterReset]

theorem asked_line (l : Fin 4) : asked.line l = Line.atReset := by
  simp [asked, State.line, State.afterReset]

theorem asked_probe (l : Fin 4) : asked.probe l = Probe.atReset := by
  simp [asked, State.probe, State.afterReset]

theorem asked_lane (n : Fin 8) : asked.lane n = Lane.atReset := by
  simp [asked, State.lane, State.afterReset]

theorem asked_slot (i : Fin 24) : asked.grantAt i = none := by
  simp [asked, State.grantAt, State.afterReset]

theorem witness_StepKeepsValveLaw : ValveLaw asked := by
  intro p
  rw [asked_point]
  simp [Point.atReset, PointState.isOpen, PointState.isOpenOrPriming]

theorem witness_StepKeepsPumpLaw : PumpLaw asked := by
  intro l
  simp [State.relay, asked_line, Line.atReset, PumpForm]

theorem witness_StepKeepsBoundAndTableLaws : BoundLaw asked ∧ TableLaw asked := by
  have entries : ∀ k, asked.su.entryAt k = none := by
    intro k
    simp [asked, ScreeningUnit.entryAt, State.afterReset]
  refine ⟨⟨fun p => ?_, fun n => ?_, by decide, by decide, fun l => ?_⟩, ?_⟩
  · simp [asked_point, Point.atReset]
  · simp [asked_lane, Lane.atReset]
  · simp [asked_probe, asked_line, Probe.atReset, Line.atReset, ProbeForm]
  · simp [TableLaw, entries]
    simp [asked, State.afterReset]

theorem witness_StepKeepsGrantLaw : GrantLaw asked := by
  simp [GrantLaw, asked_slot]
  simp [asked, State.afterReset]

theorem witness_StepKeepsDeliveryLaw : DeliveryLaw asked := by
  refine ⟨witness_StepKeepsGrantLaw, witness_StepKeepsValveLaw, ?_, ?_, ?_, ?_⟩ <;>
    simp [asked_slot, asked_point, Point.atReset, PointState.isOpenOrPriming]

theorem witness_StepKeepsMeterLaw : MeterLaw asked := by
  intro i g h
  simp [asked_slot] at h

end Sys2Proof.Tests
end

section
/-! PROOFS. The tag counter (R3): what the search for a free tag finds. -/

namespace Sys2Proof.Machine

/-! ### The tag counter's cycle (R3) -/

theorem one_le_stepTag (n : Nat) : 1 ≤ stepTag n := by
  unfold stepTag; split <;> omega

theorem stepTag_le (n : Nat) : stepTag n ≤ 255 := by
  unfold stepTag; split <;> omega

/-- From the first step on the counter runs round the cycle 1 to 255. -/
theorem stepTag_iterate (n m : Nat) : stepTag^[m + 1] n = (stepTag n - 1 + m) % 255 + 1 := by
  induction m with
  | zero =>
    have low := one_le_stepTag n
    have high := stepTag_le n
    simp only [Function.iterate_one, Nat.zero_add]
    omega
  | succ m ih =>
    rw [Function.iterate_succ_apply', ih]
    unfold stepTag
    split <;> split <;> omega

theorem stepTag_iterate_injective {n a b : Nat} (ha : a < 255) (hb : b < 255)
    (h : stepTag^[a + 1] n = stepTag^[b + 1] n) : a = b := by
  have low := one_le_stepTag n
  have high := stepTag_le n
  rw [stepTag_iterate, stepTag_iterate] at h
  omega

/-- The search stops at the first value of the cycle that is not held, unless all it may try are held. -/
theorem freeTag_spec (held : List Nat) (fuel n : Nat) :
    (∃ k, freeTag held fuel n = stepTag^[k + 1] n ∧ stepTag^[k + 1] n ∉ held
        ∧ ∀ m, m < k → stepTag^[m + 1] n ∈ held)
      ∨ ∀ m, m < fuel → stepTag^[m + 1] n ∈ held := by
  induction fuel generalizing n with
  | zero => exact .inr fun m h => absurd h (Nat.not_lt_zero m)
  | succ fuel ih =>
    by_cases first : stepTag n ∈ held
    · have goes : freeTag held (fuel + 1) n = freeTag held fuel (stepTag n) := by simp [freeTag, first]
      rcases ih (stepTag n) with ⟨k, found, free, passed⟩ | all
      · refine .inl ⟨k + 1, goes.trans found, free, fun m hm => ?_⟩
        cases m with
        | zero => exact first
        | succ m => exact passed m (by omega)
      · refine .inr fun m hm => ?_
        cases m with
        | zero => exact first
        | succ m => exact all m (by omega)
    · exact .inl ⟨0, by simp [freeTag, first], first, fun m hm => absurd hm (Nat.not_lt_zero m)⟩

theorem grants_length_le (s : State) : s.grants.length ≤ 24 :=
  (List.length_filterMap_le ..).trans (by simp [allSlots])

/-- The 25 values tried are distinct and at most 24 grants are held, so one of them is free. -/
theorem nextTag_spec (s : State) :
    ∃ k, s.nextTag = stepTag^[k + 1] s.gm.tagCounter ∧ s.nextTag ∉ s.grants.map (·.tag)
      ∧ ∀ m, m < k → stepTag^[m + 1] s.gm.tagCounter ∈ s.grants.map (·.tag) := by
  rcases freeTag_spec (s.grants.map (·.tag)) 25 s.gm.tagCounter with ⟨k, found, free, passed⟩ | all
  · exact ⟨k, found, by rw [State.nextTag, found]; exact free, passed⟩
  · have distinct : ((List.range 25).map fun m => stepTag^[m + 1] s.gm.tagCounter).Nodup :=
      List.Nodup.map_on
        (fun a ha b hb h => stepTag_iterate_injective (by simp at ha; omega) (by simp at hb; omega) h)
        List.nodup_range
    have within : (List.range 25).map (fun m => stepTag^[m + 1] s.gm.tagCounter) ⊆ s.grants.map (·.tag) := by
      intro x hx
      obtain ⟨m, hm, rfl⟩ := List.mem_map.mp hx
      exact all m (List.mem_range.mp hm)
    have few := (List.subperm_of_subset distinct within).length_le
    have held := grants_length_le s
    simp only [List.length_map, List.length_range] at few
    omega

theorem nextTag_not_held {s : State} {j : Fin 24} {g : Grant} (h : s.grantAt j = some g) : g.tag ≠ s.nextTag := by
  obtain ⟨_, _, free, _⟩ := nextTag_spec s
  exact fun e => free (e ▸ List.mem_map_of_mem (mem_grants.mpr ⟨j, h⟩))

theorem nextTag_range (s : State) : 1 ≤ s.nextTag ∧ s.nextTag ≤ 255 := by
  obtain ⟨k, found, _, _⟩ := nextTag_spec s
  rw [found, Function.iterate_succ_apply']
  exact ⟨one_le_stepTag _, stepTag_le _⟩

/-- Settles O11: the search's 25 tries always find a free value. -/
theorem nextTagIsFirstFree : Obligations.NextTagIsFirstFree := by
  intro s i _
  obtain ⟨k, found, _, passed⟩ := nextTag_spec s
  refine ⟨k, found, (nextTag_range s).1, (nextTag_range s).2, fun j g h => nextTag_not_held h, fun m hm => ?_⟩
  obtain ⟨g, hg, tag⟩ := List.mem_map.mp (passed m hm)
  obtain ⟨j, hj⟩ := mem_grants.mp hg
  exact ⟨j, g, hj, tag⟩

end Sys2Proof.Machine
end

section
/-! PROOFS. What one step can do to the forecourt: the grants, the points, the lines and the site state. Every step is a
row of one of the blocks that own them, or leaves the forecourt alone. -/

namespace Sys2Proof.Machine

/-- Two states with the same grants, points, lines and site state; the bus, the port, the tables, the probes and the
events may differ. -/
structure SameForecourt (s t : State) : Prop where
  gm : t.gm = s.gm
  points : t.points = s.points
  lines : t.lines = s.lines
  site : t.ss.site = s.ss.site

theorem SameForecourt.refl (s : State) : SameForecourt s s := ⟨rfl, rfl, rfl, rfl⟩

theorem SameForecourt.trans {s t u : State} (a : SameForecourt s t) (b : SameForecourt t u) : SameForecourt s u :=
  ⟨b.gm.trans a.gm, b.points.trans a.points, b.lines.trans a.lines, b.site.trans a.site⟩

theorem SameForecourt.grantAt {s t : State} (h : SameForecourt s t) (i : Fin 24) : t.grantAt i = s.grantAt i :=
  grantAt_of_gm h.gm i

theorem SameForecourt.point {s t : State} (h : SameForecourt s t) (p : Fin 32) : t.point p = s.point p :=
  point_of_points h.points p

theorem SameForecourt.line {s t : State} (h : SameForecourt s t) (l : Fin 4) : t.line l = s.line l :=
  line_of_lines h.lines l

/-! ### The blocks that stand apart from the forecourt -/

theorem sameForecourt_giveAnswer (r : Response) (s : State) : SameForecourt s (s.giveAnswer r) := ⟨rfl, rfl, rfl, rfl⟩

theorem sameForecourt_modCp (f : ControllerPort → ControllerPort) (s : State) : SameForecourt s (s.modCp f) :=
  ⟨rfl, rfl, rfl, rfl⟩

theorem sameForecourt_modIbi (f : IslandBus → IslandBus) (s : State) : SameForecourt s (s.modIbi f) :=
  ⟨rfl, rfl, rfl, rfl⟩

theorem sameForecourt_modSu (f : ScreeningUnit → ScreeningUnit) (s : State) : SameForecourt s (s.modSu f) :=
  ⟨rfl, rfl, rfl, rfl⟩

theorem sameForecourt_modTu (f : TemperatureUnit → TemperatureUnit) (s : State) : SameForecourt s (s.modTu f) :=
  ⟨rfl, rfl, rfl, rfl⟩

theorem sameForecourt_setProbe (l : Fin 4) (x : Probe) (s : State) : SameForecourt s (s.setProbe l x) :=
  ⟨rfl, rfl, rfl, rfl⟩

theorem sameForecourt_setLane (n : Fin 8) (x : Lane) (s : State) : SameForecourt s (s.setLane n x) :=
  ⟨rfl, rfl, rfl, rfl⟩

theorem sameForecourt_placeReply (n : Fin 8) (r : Reply) (s : State) : SameForecourt s (placeReply n r s) :=
  ⟨by simp, by simp, by simp, by simp⟩

theorem sameForecourt_sendReply (n : Fin 8) (k : Nat) (s : State) : SameForecourt s (sendReply n k s) :=
  ⟨by simp, by simp, by simp, by simp⟩

theorem sameForecourt_takeOldest (s : State) : SameForecourt s (takeOldest s) :=
  ⟨by simp, by simp, by simp, by simp⟩

theorem sameForecourt_flushLane (n : Fin 8) (s : State) : SameForecourt s (flushLane n s) := ⟨rfl, rfl, rfl, rfl⟩

theorem sameForecourt_breakOff (s : State) : SameForecourt s (breakOff s) := by
  unfold breakOff
  split <;> exact ⟨rfl, rfl, rfl, rfl⟩

theorem sameForecourt_handOn (n : Fin 8) (m : LaneMessage) (s : State) : SameForecourt s (handOn n m s) :=
  sameForecourt_modIbi ..

theorem sameForecourt_answerFormat (n : Fin 8) (s : State) : SameForecourt s (answerFormat n s) := by
  unfold answerFormat
  split
  · exact sameForecourt_placeReply ..
  · exact sameForecourt_handOn ..

theorem sameForecourt_sortMessage (n : Fin 8) (m : List Byte) (s : State) : SameForecourt s (sortMessage n m s) := by
  unfold sortMessage
  repeat' split
  all_goals first | exact sameForecourt_handOn .. | exact sameForecourt_answerFormat ..

theorem sameForecourt_takeMessage (n : Fin 8) (s : State) : SameForecourt s (takeMessage n s) := by
  unfold takeMessage
  split
  · exact .refl s
  · exact ((sameForecourt_modIbi _ s).trans (sameForecourt_flushLane n _)).trans (sameForecourt_sortMessage ..)

theorem sameForecourt_writePhaseEnd (bytes : List Byte) (ending : WriteEnd) (s : State) :
    SameForecourt s (writePhaseEnd bytes ending s) := by
  unfold writePhaseEnd
  split
  · exact ((sameForecourt_modIbi _ s).trans (sameForecourt_takeMessage ..)).trans (sameForecourt_modIbi ..)
  · exact .refl s

theorem sameForecourt_replyRead (n : Nat) (s : State) : SameForecourt s (replyRead n s) := by
  unfold replyRead
  split
  · split
    · exact sameForecourt_modIbi ..
    · exact sameForecourt_sendReply ..
  · exact .refl s

theorem sameForecourt_addressByte (b : Byte) (s : State) : SameForecourt s (addressByte b s) := by
  unfold addressByte
  split
  · exact sameForecourt_modIbi ..
  · exact .refl s

theorem sameForecourt_busStuck (s : State) : SameForecourt s (busStuck s) := by
  unfold busStuck
  split
  · exact (sameForecourt_breakOff s).trans ⟨rfl, rfl, rfl, rfl⟩
  · exact .refl s

theorem sameForecourt_startTransfer (s : State) : SameForecourt s (startTransfer s) := by
  unfold startTransfer
  repeat' split
  all_goals exact ⟨rfl, rfl, rfl, rfl⟩

theorem sameForecourt_laneTransferEnd (nak : Option Nat) (s : State) : SameForecourt s (laneTransferEnd nak s) := by
  unfold laneTransferEnd
  dsimp only
  repeat' split
  all_goals exact ⟨rfl, rfl, rfl, rfl⟩

theorem sameForecourt_generalTransferEnd (s : State) : SameForecourt s (generalTransferEnd s) := by
  unfold generalTransferEnd
  split <;> exact ⟨rfl, rfl, rfl, rfl⟩

theorem sameForecourt_arbitrationLoss (loss : ArbitrationLoss) (s : State) :
    SameForecourt s (arbitrationLoss loss s) := by
  unfold arbitrationLoss
  repeat' split
  all_goals exact ⟨rfl, rfl, rfl, rfl⟩

theorem sameForecourt_chooseChannel (s : State) : SameForecourt s (chooseChannel s) := by
  unfold chooseChannel
  split <;> exact ⟨rfl, rfl, rfl, rfl⟩

theorem sameForecourt_probeCompletion (l : Fin 4) (code : Nat) (s : State) :
    SameForecourt s (probeCompletion l code s) := by
  unfold probeCompletion
  dsimp only
  split <;> exact ⟨rfl, rfl, rfl, rfl⟩

theorem sameForecourt_conversionCompletion (code : Nat) (s : State) :
    SameForecourt s (conversionCompletion code s) := by
  unfold conversionCompletion
  split
  · refine .trans ?_ (sameForecourt_chooseChannel _)
    split
    · exact sameForecourt_probeCompletion ..
    · exact .refl s
  · exact .refl s

theorem sameForecourt_probeHoldExpiry (l : Fin 4) (s : State) : SameForecourt s (probeHoldExpiry l s) := by
  unfold probeHoldExpiry
  split
  · exact sameForecourt_setProbe ..
  · exact .refl s

theorem sameForecourt_placeResponse (r : Response) (s : State) : SameForecourt s (placeResponse r s) :=
  sameForecourt_modCp ..

theorem sameForecourt_passOn (kept : List Byte) (s : State) : SameForecourt s (passOn kept s) := by
  unfold passOn
  split <;> exact ⟨rfl, rfl, rfl, rfl⟩

theorem sameForecourt_takeFrame (count : Nat) (s : State) : SameForecourt s (takeFrame count s) := by
  unfold takeFrame
  dsimp only
  repeat' split
  · exact ⟨rfl, rfl, rfl, rfl⟩
  · exact ⟨rfl, rfl, rfl, rfl⟩
  · exact (sameForecourt_modCp _ s).trans (sameForecourt_passOn ..)

theorem sameForecourt_selection (status : Byte) (bytes : List Byte) (s : State) :
    SameForecourt s (selection status bytes s) := by
  unfold selection
  repeat' split
  · exact .refl s
  · exact sameForecourt_modCp ..
  · exact sameForecourt_modCp ..
  · exact (sameForecourt_modCp _ s).trans (sameForecourt_takeFrame ..)

theorem sameForecourt_endSelection {act : Byte → State → State} (same : ∀ b s, SameForecourt s (act b s)) (s : State) :
    SameForecourt s (endSelection act s) := by
  unfold endSelection
  dsimp only
  split
  · exact sameForecourt_modCp ..
  · exact (sameForecourt_modCp _ s).trans (same ..)
  · exact (sameForecourt_modCp _ s).trans (same ..)

theorem sameForecourt_scsEdge (edge : ScsEdge) (s : State) : SameForecourt s (scsEdge edge s) := by
  cases edge with
  | fall =>
    simp only [scsEdge, scsFalls]
    split
    · exact .refl s
    · exact sameForecourt_modCp ..
    · exact sameForecourt_modCp ..
  | rise bytes => exact sameForecourt_endSelection (fun b t => sameForecourt_selection b bytes t) s

theorem sameForecourt_fetchSelection (n : Nat) (s : State) : SameForecourt s (fetchSelection n s) :=
  sameForecourt_endSelection (fun _ t => sameForecourt_modCp _ t) s

/-! ### The host commands -/

/-- The host commands whose owners may change the forecourt. -/
inductive ForecourtCommand : (State → State × Response) → Prop where
  | service : ForecourtCommand doService
  | decide (tag : Nat) (verdict : Verdict) : ForecourtCommand (doDecide tag verdict)
  | openGrant (lane : Nat) (es : List LimitEntry) : ForecourtCommand (doOpenGrant lane es)
  | hold (tag : Nat) : ForecourtCommand (doHold tag)
  | resume (tag : Nat) : ForecourtCommand (doResume tag)
  | stop (tag : Nat) : ForecourtCommand (doStop tag)
  | collect : ForecourtCommand doCollect
  | pointSet (point : Nat) (arg : PointArg) : ForecourtCommand (doPointSet point arg)
  | pointEnable (point : Nat) : ForecourtCommand (doPointEnable point)
  | lineSet (line : Nat) (arg : LineArg) : ForecourtCommand (doLineSet line arg)
  | priceSet (line price : Nat) : ForecourtCommand (doPriceSet line price)
  | lineRestore (line : Nat) : ForecourtCommand (doLineRestore line)
  | siteHalt : ForecourtCommand doSiteHalt
  | siteResume : ForecourtCommand doSiteResume

theorem sameForecourt_doReadGrant (tag : Nat) (s : State) : SameForecourt s (doReadGrant tag s).1 := by
  unfold doReadGrant
  split <;> exact .refl s

theorem sameForecourt_doProgramPut (e : ProgramArg) (s : State) : SameForecourt s (doProgramPut e s).1 := by
  unfold doProgramPut
  split
  · exact .refl s
  split
  · exact .refl s
  split
  · exact .refl s
  · exact ⟨rfl, rfl, rfl, rfl⟩

theorem sameForecourt_doProgramDrop (id : Nat) (s : State) : SameForecourt s (doProgramDrop id s).1 := by
  unfold doProgramDrop
  split
  · exact .refl s
  split
  · exact ⟨rfl, rfl, rfl, rfl⟩
  · exact .refl s

theorem sameForecourt_doProgramRead (index : Nat) (s : State) : SameForecourt s (doProgramRead index s).1 := by
  unfold doProgramRead
  split
  · exact .refl s
  split <;> exact .refl s

theorem sameForecourt_doDenyAdd (pan : Pan) (s : State) : SameForecourt s (doDenyAdd pan s).1 := by
  unfold doDenyAdd
  split
  · exact .refl s
  split
  · exact .refl s
  split
  · exact .refl s
  · exact ⟨rfl, rfl, rfl, rfl⟩

theorem sameForecourt_doDenyDrop (pan : Pan) (s : State) : SameForecourt s (doDenyDrop pan s).1 := by
  unfold doDenyDrop
  split
  · exact .refl s
  split
  · exact ⟨rfl, rfl, rfl, rfl⟩
  · exact .refl s

theorem sameForecourt_doDenyTest (pan : Pan) (s : State) : SameForecourt s (doDenyTest pan s).1 := by
  unfold doDenyTest
  split <;> exact .refl s

theorem sameForecourt_doTallyRead (k : Nat) (s : State) : SameForecourt s (doTallyRead k s).1 := by
  unfold doTallyRead
  split
  · split <;> exact .refl s
  · exact .refl s

theorem sameForecourt_doTallyDrop (pan : Pan) (s : State) : SameForecourt s (doTallyDrop pan s).1 := by
  unfold doTallyDrop
  split
  · exact .refl s
  split
  · exact ⟨rfl, rfl, rfl, rfl⟩
  · exact .refl s

theorem sameForecourt_doPointRead (n : Nat) (s : State) : SameForecourt s (doPointRead n s).1 := by
  unfold doPointRead
  split <;> exact .refl s

theorem sameForecourt_doLineRead (n : Nat) (s : State) : SameForecourt s (doLineRead n s).1 := by
  unfold doLineRead
  split <;> exact .refl s

theorem sameForecourt_doProbeSet (n : Nat) (offset : Int) (span : Nat) (s : State) :
    SameForecourt s (doProbeSet n offset span s).1 := by
  unfold doProbeSet
  split
  · exact .refl s
  split
  · exact sameForecourt_setProbe ..
  · exact .refl s

theorem sameForecourt_doLinkSet (link : Option LinkState) (s : State) : SameForecourt s (doLinkSet link s).1 := by
  unfold doLinkSet
  split
  · exact .refl s
  split
  · exact .refl s
  · exact ⟨rfl, rfl, rfl, rfl⟩

theorem sameForecourt_doDateSet (date : Option Yymm) (s : State) : SameForecourt s (doDateSet date s).1 := by
  unfold doDateSet
  split
  · exact ⟨rfl, rfl, rfl, rfl⟩
  · exact .refl s

theorem sameForecourt_doEventMask (mask : Nat) (s : State) : SameForecourt s (doEventMask mask s).1 := by
  unfold doEventMask
  split
  · exact ⟨rfl, rfl, rfl, rfl⟩
  · exact .refl s

theorem ownerOf_cases {i : Instr} {act : State → State × Response} (owned : ownerOf i = some act) :
    ForecourtCommand act ∨ ∀ s, SameForecourt s (act s).1 := by
  cases i <;> cases owned
  case service => exact .inl .service
  case decide => exact .inl (.decide ..)
  case openGrant => exact .inl (.openGrant ..)
  case readGrant => exact .inr (sameForecourt_doReadGrant _)
  case hold => exact .inl (.hold _)
  case resume => exact .inl (.resume _)
  case stop => exact .inl (.stop _)
  case collect => exact .inl .collect
  case programPut => exact .inr (sameForecourt_doProgramPut _)
  case programDrop => exact .inr (sameForecourt_doProgramDrop _)
  case programRead => exact .inr (sameForecourt_doProgramRead _)
  case denyAdd => exact .inr (sameForecourt_doDenyAdd _)
  case denyDrop => exact .inr (sameForecourt_doDenyDrop _)
  case denyTest => exact .inr (sameForecourt_doDenyTest _)
  case denyClear => exact .inr fun _ => ⟨rfl, rfl, rfl, rfl⟩
  case tallyRead => exact .inr (sameForecourt_doTallyRead _)
  case tallyDrop => exact .inr (sameForecourt_doTallyDrop _)
  case tallyClear => exact .inr fun _ => ⟨rfl, rfl, rfl, rfl⟩
  case pointSet => exact .inl (.pointSet ..)
  case pointRead => exact .inr (sameForecourt_doPointRead _)
  case pointEnable => exact .inl (.pointEnable _)
  case lineSet => exact .inl (.lineSet ..)
  case lineRead => exact .inr (sameForecourt_doLineRead _)
  case priceSet => exact .inl (.priceSet ..)
  case lineRestore => exact .inl (.lineRestore _)
  case probeSet => exact .inr (sameForecourt_doProbeSet _ _ _)
  case siteHalt => exact .inl .siteHalt
  case siteResume => exact .inl .siteResume
  case linkSet => exact .inr (sameForecourt_doLinkSet _)
  case dateSet => exact .inr (sameForecourt_doDateSet _)
  case timersSet => exact .inr fun _ => ⟨rfl, rfl, rfl, rfl⟩
  case statusRead => exact .inr .refl
  case eventRead => exact .inr fun _ => ⟨rfl, rfl, rfl, rfl⟩
  case eventMask => exact .inr (sameForecourt_doEventMask _)

/-! ### One step -/

/-- What one step can do: nothing to the forecourt, what the owner of a host command does to it, a message of a
terminal, a reset, one of the forecourt's own events, or a tick. -/
inductive ForecourtStep (s : State) : State → Prop where
  | same {t : State} : SameForecourt s t → ForecourtStep s t
  | command {act : State → State × Response} {t : State} :
      ForecourtCommand act → SameForecourt (act s).1 t → ForecourtStep s t
  | auth {lane : Fin 8} {request : Option AuthRequest} {s₁ t : State} :
      SameForecourt s s₁ → SameForecourt (doAuthRequest lane request s₁).1 t → ForecourtStep s t
  | cancel {lane : Fin 8} {tag : Nat} {s₁ t : State} :
      SameForecourt s s₁ → SameForecourt (doCancel lane tag s₁).1 t → ForecourtStep s t
  | reset : ForecourtStep s (resetPart s)
  | lift (p : Fin 32) : ForecourtStep s (nozzleLift p s)
  | hangUp (p : Fin 32) : ForecourtStep s (nozzleHangUp p s)
  | pulser (p : Fin 32) (phase : Fin 4) : ForecourtStep s (pulserStep p phase s)
  | estopAssertion : ForecourtStep s (estopAssert s)
  | periodEnd (p : Fin 32) : ForecourtStep s (periodEnd p s)
  | decisionTimer (tag : Nat) : ForecourtStep s (decisionExpiry tag s)
  | liftTimer (tag : Nat) : ForecourtStep s (liftExpiry tag s)
  | idleEndTimer (tag : Nat) : ForecourtStep s (idleEndExpiry tag s)
  | holdTimer (tag : Nat) : ForecourtStep s (holdExpiry tag s)
  | noFlowTimer (p : Fin 32) : ForecourtStep s (noFlowExpiry p s)
  | startTimer (l : Fin 4) : ForecourtStep s (startExpiry l s)
  | runOnTimer (l : Fin 4) : ForecourtStep s (runOnExpiry l s)
  | duty (p : Fin 32) : ForecourtStep s (dutyTakesForce p s)
  | tick : ForecourtStep s (tick s)

theorem exec_of_owner {i : Instr} {act : State → State × Response} (h : ownerOf i = some act) (s : State) :
    exec i s = .next (takeCommand i act s) := by
  cases i <;> cases h <;> rfl

/-- A message's row hands it to its block in a state whose forecourt is the same, or does nothing. -/
theorem answerMessage_cases (lane : Fin 8) (m : LaneMessage) (act : State → State × Reply) (s : State) :
    answerMessage lane m act s = s
      ∨ ∃ s₁, SameForecourt s s₁ ∧ SameForecourt (act s₁).1 (answerMessage lane m act s) := by
  unfold answerMessage
  split
  · exact .inr ⟨takeOldest s, sameForecourt_takeOldest s, sameForecourt_placeReply ..⟩
  · exact .inr ⟨takeOldest s, sameForecourt_takeOldest s, .refl _⟩
  · exact .inr ⟨flushLane lane s, sameForecourt_flushLane lane s, sameForecourt_placeReply ..⟩
  · exact .inl rfl

theorem forecourtStep_act {i : Instr} {act : State → State × Response} (owned : ownerOf i = some act) {s t : State}
    (after : SameForecourt (act s).1 t) : ForecourtStep s t := by
  rcases ownerOf_cases owned with command | same
  · exact .command command after
  · exact .same ((same s).trans after)

theorem forecourtStep_completion (s : State) : ForecourtStep s (completion s) := by
  unfold completion
  split
  · exact .same (sameForecourt_placeResponse ..)
  · split
    · next act owned => exact forecourtStep_act owned (sameForecourt_placeResponse ..)
    · exact .same (.refl s)
  · exact .same (.refl s)

theorem forecourtStep_owner {i : Instr} {act : State → State × Response} (owned : ownerOf i = some act) (s : State) :
    ForecourtStep s (takeCommand i act s) := by
  rcases takeCommand_cases i act s with h | h <;> rw [h]
  · exact .same (.refl s)
  · exact forecourtStep_act owned (sameForecourt_giveAnswer ..)

theorem exec_forecourtStep {i : Instr} {s t : State} (h : exec i s = .next t) : ForecourtStep s t := by
  cases owned : ownerOf i with
  | some act =>
    rw [exec_of_owner owned s] at h
    obtain rfl := Host.Outcome.next.inj h
    exact forecourtStep_owner owned s
  | none =>
    cases i <;> first | exact absurd owned (Option.some_ne_none _) | skip
    all_goals obtain rfl := Host.Outcome.next.inj h
    case reset => exact .reset
    case commandFrame edge => exact .same (sameForecourt_scsEdge edge s)
    case commandCompletion => exact forecourtStep_completion s
    case fetch n => exact .same (sameForecourt_fetchSelection n s)
    case lift p => exact .lift p
    case hangUp p => exact .hangUp p
    case pulserStep p phase => exact .pulser p phase
    case estopAssertion => exact .estopAssertion
    case estopRelease => exact .same ⟨rfl, rfl, rfl, rfl⟩
    case periodEnd p => exact .periodEnd p
    case decisionTimerExpiry tag => exact .decisionTimer tag
    case liftTimerExpiry tag => exact .liftTimer tag
    case idleEndTimerExpiry tag => exact .idleEndTimer tag
    case holdTimerExpiry tag => exact .holdTimer tag
    case noFlowTimerExpiry p => exact .noFlowTimer p
    case startTimerExpiry l => exact .startTimer l
    case runOnTimerExpiry l => exact .runOnTimer l
    case probeHoldTimerExpiry l => exact .same (sameForecourt_probeHoldExpiry l s)
    case conversionCompletion code => exact .same (sameForecourt_conversionCompletion code s)
    case dutyInForceChange p => exact .duty p
    case startCondition => exact .same ((sameForecourt_breakOff s).trans (sameForecourt_modIbi ..))
    case stopCondition => exact .same ((sameForecourt_breakOff s).trans (sameForecourt_modIbi ..))
    case writePhaseEnd bytes ending => exact .same (sameForecourt_writePhaseEnd bytes ending s)
    case authRequest lane request =>
      rcases answerMessage_cases lane (.auth request) (doAuthRequest lane request) s with e | ⟨s₁, before, after⟩
      · rw [e]; exact .same (.refl s)
      · exact .auth before after
    case cancel lane tag =>
      rcases answerMessage_cases lane (.cancel tag) (doCancel lane tag) s with e | ⟨s₁, before, after⟩
      · rw [e]; exact .same (.refl s)
      · exact .cancel before after
    case replyRead n => exact .same (sameForecourt_replyRead n s)
    case busStuckTimerExpiry => exact .same (sameForecourt_busStuck s)
    case retryWaitEnd n => exact .same (sameForecourt_setLane ..)
    case noticeTransferStart => exact .same (sameForecourt_startTransfer s)
    case laneNoticeTransferEnd nak => exact .same (sameForecourt_laneTransferEnd nak s)
    case generalCallTransferEnd => exact .same (sameForecourt_generalTransferEnd s)
    case arbitrationLoss loss => exact .same (sameForecourt_arbitrationLoss loss s)
    case addressByte b => exact .same (sameForecourt_addressByte b s)

/-- A step on a waiting command is the command's row on the rest of the queue; on none it is a tick. -/
theorem step_forecourtStep {s t : State} (h : step s = .next t) :
    ∃ s₀, SameForecourt s s₀ ∧ ForecourtStep s₀ t := by
  unfold step at h
  split at h
  · obtain rfl := Host.Outcome.next.inj h
    exact ⟨s, .refl s, .tick⟩
  · exact ⟨_, by exact ⟨rfl, rfl, rfl, rfl⟩, exec_forecourtStep h⟩

end Sys2Proof.Machine
end

section
/-! PROOFS. The law of the grant table (R2 to R6): how the shared operations of the Grant Manager move grants between
their states, and that every step keeps the law. -/

namespace Sys2Proof.Machine

/-! ### Grants that move between the states of a sale under way -/

/-- A grant `g'` that `g` may become without its tag joining or leaving a queue: same tag and lane, and either the same
state or both states between arming and settlement. -/
def Grant.Follows (g g' : Grant) : Prop :=
  g'.tag = g.tag ∧ g'.lane = g.lane
    ∧ (g'.state = g.state ∧ g'.served = g.served ∨ g.state.drawsOnLine = true ∧ g'.state.drawsOnLine = true)

theorem Grant.Follows.refl (g : Grant) : g.Follows g := ⟨rfl, rfl, .inl ⟨rfl, rfl⟩⟩

theorem Grant.Follows.trans {g h k : Grant} (a : g.Follows h) (b : h.Follows k) : g.Follows k := by
  obtain ⟨tag₁, lane₁, state₁⟩ := a
  obtain ⟨tag₂, lane₂, state₂⟩ := b
  refine ⟨tag₂.trans tag₁, lane₂.trans lane₁, ?_⟩
  rcases state₁ with ⟨e₁, v₁⟩ | ⟨d₁, d₁'⟩ <;> rcases state₂ with ⟨e₂, v₂⟩ | ⟨d₂, d₂'⟩
  · exact .inl ⟨e₂.trans e₁, v₂.trans v₁⟩
  · exact .inr ⟨e₁ ▸ d₂, d₂'⟩
  · exact .inr ⟨d₁, by rw [e₂]; exact d₁'⟩
  · exact .inr ⟨d₁, d₂'⟩

theorem drawsOnLine_not_pending {x : GrantState} (h : x.drawsOnLine = true) : x ≠ .pending := by
  rintro rfl; exact absurd h (by decide)

theorem drawsOnLine_not_settled {x : GrantState} (h : x.drawsOnLine = true) : x ≠ .settled := by
  rintro rfl; exact absurd h (by decide)

theorem Grant.Follows.pending_iff {g g' : Grant} (h : g.Follows g') :
    (g'.state = .pending ∧ g'.served = false) ↔ (g.state = .pending ∧ g.served = false) := by
  obtain ⟨_, _, ⟨state, served⟩ | ⟨before, after⟩⟩ := h
  · rw [state, served]
  · simp [drawsOnLine_not_pending before, drawsOnLine_not_pending after]

theorem Grant.Follows.settled_iff {g g' : Grant} (h : g.Follows g') : g'.state = .settled ↔ g.state = .settled := by
  obtain ⟨_, _, ⟨state, _⟩ | ⟨before, after⟩⟩ := h
  · rw [state]
  · simp [drawsOnLine_not_settled before, drawsOnLine_not_settled after]

/-- Every slot's grant follows the one it held, and both queues are as they were. -/
structure Moves (s t : State) : Prop where
  grants : ∀ i, Option.Rel Grant.Follows (s.grantAt i) (t.grantAt i)
  pendingTags : t.gm.pendingTags = s.gm.pendingTags
  settledTags : t.gm.settledTags = s.gm.settledTags

theorem optionRel_refl {g : Option Grant} : Option.Rel Grant.Follows g g := by
  cases g with
  | none => exact .none
  | some g => exact .some (.refl g)

theorem Moves.of_gm {s t : State} (h : t.gm = s.gm) : Moves s t :=
  ⟨fun i => grantAt_of_gm h i ▸ optionRel_refl, by rw [h], by rw [h]⟩

theorem Moves.refl (s : State) : Moves s s := .of_gm rfl

theorem Moves.trans {s t u : State} (a : Moves s t) (b : Moves t u) : Moves s u := by
  refine ⟨fun i => ?_, b.pendingTags.trans a.pendingTags, b.settledTags.trans a.settledTags⟩
  have first := a.grants i
  have second := b.grants i
  generalize s.grantAt i = x, t.grantAt i = y, u.grantAt i = z at first second
  cases first with
  | none => cases second; exact .none
  | some f => cases second with | some f' => exact .some (f.trans f')

theorem Moves.back {s t : State} (h : Moves s t) {i : Fin 24} {g' : Grant} (hg : t.grantAt i = some g') :
    ∃ g, s.grantAt i = some g ∧ g.Follows g' := by
  have rel := h.grants i
  rw [hg] at rel
  generalize s.grantAt i = x at rel ⊢
  cases rel with | some f => exact ⟨_, rfl, f⟩

theorem Moves.forth {s t : State} (h : Moves s t) {i : Fin 24} {g : Grant} (hg : s.grantAt i = some g) :
    ∃ g', t.grantAt i = some g' ∧ g.Follows g' := by
  have rel := h.grants i
  rw [hg] at rel
  generalize t.grantAt i = x at rel ⊢
  cases rel with | some f => exact ⟨_, rfl, f⟩

theorem moves_modGrant {s : State} {i : Fin 24} {f : Grant → Grant}
    (follows : ∀ g, s.grantAt i = some g → g.Follows (f g)) : Moves s (s.modGrant i f) := by
  refine ⟨fun j => ?_, rfl, rfl⟩
  rw [modGrant_grantAt]
  split
  · next e =>
    subst e
    cases hg : s.grantAt j with
    | none => exact .none
    | some g => exact .some (follows g hg)
  · exact optionRel_refl

theorem moves_setSlot {s : State} {i : Fin 24} {g g' : Grant} (hg : s.grantAt i = some g) (follows : g.Follows g') :
    Moves s (s.setSlot i (some g')) := by
  refine ⟨fun j => ?_, rfl, rfl⟩
  rw [setSlot_grantAt]
  split
  · next e => subst e; rw [hg]; exact .some follows
  · exact optionRel_refl

theorem isLive_of_follows {g g' : Grant} (h : g.Follows g') : g'.isLive = g.isLive := by
  rw [Bool.eq_iff_iff]
  simpa [Grant.isLive] using not_congr h.settled_iff

theorem GrantLaw.moves {s t : State} (law : GrantLaw s) (h : Moves s t) : GrantLaw t := by
  obtain ⟨range, tags, lanes, pendingOnce, pending, settledOnce, settled⟩ := law
  refine ⟨?_, ?_, ?_, ?_, ?_, ?_, ?_⟩
  · intro i g' hg'
    obtain ⟨g, hg, follows⟩ := h.back hg'
    rw [follows.1]
    exact range i g hg
  · intro i j a' b' ha' hb' e
    obtain ⟨a, ha, fa⟩ := h.back ha'
    obtain ⟨b, hb, fb⟩ := h.back hb'
    exact tags i j a b ha hb (by rw [← fa.1, ← fb.1, e])
  · intro i j a' b' ha' hb' la lb e
    obtain ⟨a, ha, fa⟩ := h.back ha'
    obtain ⟨b, hb, fb⟩ := h.back hb'
    exact lanes i j a b ha hb (isLive_of_follows fa ▸ la) (isLive_of_follows fb ▸ lb) (by rw [← fa.2.1, ← fb.2.1, e])
  · rw [h.pendingTags]; exact pendingOnce
  · intro tag
    rw [h.pendingTags, pending]
    constructor
    · rintro ⟨i, g, hg, rfl, waits⟩
      obtain ⟨g', hg', follows⟩ := h.forth hg
      exact ⟨i, g', hg', follows.1, follows.pending_iff.mpr waits⟩
    · rintro ⟨i, g', hg', rfl, waits⟩
      obtain ⟨g, hg, follows⟩ := h.back hg'
      exact ⟨i, g, hg, follows.1.symm, follows.pending_iff.mp waits⟩
  · rw [h.settledTags]; exact settledOnce
  · intro tag
    rw [h.settledTags, settled]
    constructor
    · rintro ⟨i, g, hg, rfl, ended⟩
      obtain ⟨g', hg', follows⟩ := h.forth hg
      exact ⟨i, g', hg', follows.1, follows.settled_iff.mpr ended⟩
    · rintro ⟨i, g', hg', rfl, ended⟩
      obtain ⟨g, hg, follows⟩ := h.back hg'
      exact ⟨i, g, hg, follows.1.symm, follows.settled_iff.mp ended⟩

theorem GrantLaw.of_gm {s t : State} (law : GrantLaw s) (h : t.gm = s.gm) : GrantLaw t := law.moves (.of_gm h)

theorem GrantLaw.findTag {s : State} (law : GrantLaw s) {i : Fin 24} {g : Grant} (hg : s.grantAt i = some g) :
    s.findTag g.tag = some i :=
  findTag_of_distinct hg fun j h hh e => law.2.1 j i h g hh hg e

/-! ### Operations that keep every grant in its place -/

theorem moves_closeOrders (ps : List (Fin 32)) (s : State) : Moves s (closeOrders ps s) := .of_gm (by simp)

theorem moves_enterClosingCore {i : Fin 24} {s : State} (r : EndReason)
    (draws : ∀ g, s.grantAt i = some g → g.state.drawsOnLine = true) : Moves s (enterClosingCore i r s) := by
  unfold enterClosingCore
  split
  · next g hg =>
    refine Moves.trans (moves_setSlot hg ?_) (moves_closeOrders ..)
    exact ⟨rfl, rfl, .inr ⟨draws g hg, rfl⟩⟩
  · exact .refl s

theorem moves_enterHeld {i : Fin 24} {s : State} (draws : ∀ g, s.grantAt i = some g → g.state.drawsOnLine = true) :
    Moves s (enterHeld i s) := by
  unfold enterHeld
  split
  · next g hg =>
    refine Moves.trans (moves_setSlot hg ?_) (moves_closeOrders ..)
    exact ⟨rfl, rfl, .inr ⟨draws g hg, rfl⟩⟩
  · exact .refl s

theorem moves_startWaitTimer (i : Fin 24) (s : State) : Moves s (startWaitTimer i s) := by
  unfold startWaitTimer
  split
  · next g hg =>
    split
    · refine moves_setSlot hg ?_
      split <;> exact ⟨rfl, rfl, .inl ⟨rfl, rfl⟩⟩
    · exact .refl s
  · exact .refl s

theorem moves_pumpReady (p : Fin 32) (s : State) : Moves s (pumpReady p s) := by
  unfold pumpReady
  split
  · exact (Moves.of_gm (by simp)).trans (moves_modGrant fun g _ => ⟨rfl, rfl, .inl ⟨rfl, rfl⟩⟩)
  · exact .refl s

theorem moves_enterPriming (p : Fin 32) (s : State) : Moves s (enterPriming p s) := by
  unfold enterPriming
  split
  · split
    · exact (Moves.of_gm (by simp)).trans (moves_pumpReady ..)
    · exact .of_gm (by simp)
  · exact .refl s

theorem moves_liftReport (i : Fin 24) (p : Fin 32) (conditions : Bool) (s : State) :
    Moves s (liftReport i p conditions s) := by
  unfold liftReport
  split
  · next g hg =>
    split
    · next armed =>
      split
      · refine Moves.trans (moves_setSlot hg ?_) (moves_enterPriming ..)
        exact ⟨rfl, rfl, .inr ⟨by rw [armed]; rfl, rfl⟩⟩
      · exact .refl s
    · next fueling =>
      split
      · refine Moves.trans (moves_setSlot hg ?_) (moves_enterPriming ..)
        exact ⟨rfl, rfl, .inl ⟨by rw [fueling], rfl⟩⟩
      · exact moves_setSlot hg ⟨rfl, rfl, .inl ⟨rfl, rfl⟩⟩
    all_goals exact .refl s
  · exact .refl s

theorem moves_reportLift (p : Fin 32) (conditions : Bool) (s : State) : Moves s (reportLift p conditions s) := by
  unfold reportLift
  split
  · exact moves_liftReport ..
  · exact .refl s

theorem moves_foldl {α : Type} {f : State → α → State} (each : ∀ s x, Moves s (f s x)) (xs : List α) (s : State) :
    Moves s (xs.foldl f s) :=
  foldl_keeps (P := Moves s) (fun t x h => h.trans (each t x)) xs s (.refl s)

theorem moves_exhaustLine (l : Fin 4) (slots : List (Fin 24)) (s : State) : Moves s (exhaustLine l slots s) :=
  moves_foldl (f := fun s i => s.modGrant i (·.modAllowance l Allowance.exhaust))
    (fun _ _ => moves_modGrant fun _ _ => ⟨rfl, rfl, .inl ⟨rfl, rfl⟩⟩) slots s

/-! ### Settlement (R6, R31) -/

theorem grantLaw_settleCore (i : Fin 24) {s : State} (law : GrantLaw s) : GrantLaw (settleCore i s) := by
  cases hg : s.grantAt i with
  | none => rw [settleCore_unchanged fun g h => by simp [hg] at h]; exact law
  | some g =>
    by_cases live : g.state = .settled
    · rw [settleCore_unchanged fun h e => by simp_all]; exact law
    obtain ⟨range, tags, lanes, pendingOnce, pending, settledOnce, settled⟩ := law
    have stands := settleCore_grantAt hg live
    have old : ∀ {j : Fin 24} {h : Grant}, (settleCore i s).grantAt j = some h →
        j = i ∧ h = g.settledForm ∨ j ≠ i ∧ s.grantAt j = some h := by
      intro j h hj
      rw [stands] at hj
      split at hj
      · exact .inl ⟨‹_›, (Option.some.inj hj).symm⟩
      · exact .inr ⟨‹_›, hj⟩
    refine ⟨?_, ?_, ?_, ?_, ?_, ?_, ?_⟩
    · intro j h hj
      rcases old hj with ⟨rfl, rfl⟩ | ⟨_, hj⟩
      · exact range j g hg
      · exact range j h hj
    · intro j k a b ha hb e
      rcases old ha with ⟨rfl, rfl⟩ | ⟨_, ha'⟩ <;> rcases old hb with ⟨rfl, rfl⟩ | ⟨_, hb'⟩
      · rfl
      · exact tags j k g b hg hb' e
      · exact tags j k a g ha' hg e
      · exact tags j k a b ha' hb' e
    · intro j k a b ha hb la lb e
      rcases old ha with ⟨rfl, rfl⟩ | ⟨_, ha⟩
      · exact absurd la (by simp [Grant.settledForm, Grant.isLive])
      rcases old hb with ⟨rfl, rfl⟩ | ⟨_, hb⟩
      · exact absurd lb (by simp [Grant.settledForm, Grant.isLive])
      · exact lanes j k a b ha hb la lb e
    · rw [settleCore_pendingTags hg live]; exact pendingOnce.filter _
    · intro tag
      rw [settleCore_pendingTags hg live, List.mem_filter, pending, bne_iff_ne]
      constructor
      · rintro ⟨⟨j, h, hj, rfl, waits⟩, other⟩
        have ne : j ≠ i := by rintro rfl; rw [hg] at hj; exact other (Option.some.inj hj ▸ rfl)
        exact ⟨j, h, by rw [stands, if_neg ne, hj], rfl, waits⟩
      · rintro ⟨j, h, hj, rfl, waits⟩
        rcases old hj with ⟨rfl, rfl⟩ | ⟨ne, hj⟩
        · exact absurd waits.1 (by simp [Grant.settledForm])
        · exact ⟨⟨j, h, hj, rfl, waits⟩, fun e => ne (tags j i h g hj hg e)⟩
    · rw [settleCore_settledTags hg live]
      refine settledOnce.append (List.nodup_singleton _) ?_
      rw [List.disjoint_singleton, settled]
      rintro ⟨j, h, hj, e, ended⟩
      obtain rfl := tags j i h g hj hg e
      rw [hg] at hj
      exact live (Option.some.inj hj ▸ ended)
    · intro tag
      rw [settleCore_settledTags hg live, List.mem_append, List.mem_singleton, settled]
      constructor
      · rintro (⟨j, h, hj, rfl, ended⟩ | rfl)
        · have ne : j ≠ i := by rintro rfl; rw [hg] at hj; exact live (Option.some.inj hj ▸ ended)
          exact ⟨j, h, by rw [stands, if_neg ne, hj], rfl, ended⟩
        · exact ⟨i, g.settledForm, by rw [stands, if_pos rfl], rfl, rfl⟩
      · rintro ⟨j, h, hj, rfl, ended⟩
        rcases old hj with ⟨rfl, rfl⟩ | ⟨ne, hj⟩
        · exact .inr rfl
        · exact .inl ⟨j, h, hj, rfl, ended⟩

theorem grantLaw_settle (i : Fin 24) {s : State} (law : GrantLaw s) : GrantLaw (settle i s) :=
  (grantLaw_settleCore i law).of_gm (by simp [settle])

theorem grantLaw_completionTest (i : Fin 24) {s : State} (law : GrantLaw s) : GrantLaw (completionTest i s) := by
  rcases completionTest_cases i s with h | ⟨_, h⟩ <;> rw [h]
  · exact law
  · exact grantLaw_settle i law

theorem grantLaw_endNow (i : Fin 24) (r : EndReason) {s : State} (law : GrantLaw s) : GrantLaw (endNow i r s) :=
  grantLaw_settle i (law.moves (moves_modGrant fun _ _ => ⟨rfl, rfl, .inl ⟨rfl, rfl⟩⟩))

theorem grantLaw_enterClosing {i : Fin 24} (r : EndReason) {s : State} (law : GrantLaw s)
    (draws : ∀ g, s.grantAt i = some g → g.state.drawsOnLine = true) : GrantLaw (enterClosing i r s) :=
  grantLaw_completionTest i (law.moves (moves_enterClosingCore r draws))

theorem grantLaw_reportExit (p : Fin 32) {s : State} (law : GrantLaw s) : GrantLaw (reportExit p s) := by
  unfold reportExit
  split
  · exact grantLaw_completionTest _ law
  · exact law

theorem moves_reportHangUp (p : Fin 32) (s : State) : Moves s (reportHangUp p s) := by
  unfold reportHangUp
  split
  · exact moves_startWaitTimer ..
  · exact .refl s

theorem grantLaw_removePoint (i : Fin 24) (p : Fin 32) {s : State} (law : GrantLaw s) : GrantLaw (removePoint i p s) := by
  unfold removePoint
  split
  · next g hg =>
    have removed : GrantLaw (s.setSlot i (some { g with attached := g.attached.filter (· != p) })) :=
      law.moves (moves_setSlot hg ⟨rfl, rfl, .inl ⟨rfl, rfl⟩⟩)
    dsimp only
    split
    · split
      · exact removed
      · exact removed.moves (moves_startWaitTimer ..)
    · exact grantLaw_completionTest i removed
    all_goals exact removed
  · exact law

/-! ### A grant on its way from PENDING to its arming or settlement -/

/-- The state with the grant of slot `i` counted as under way: between leaving the pending queue and its arming or
settlement a grant is PENDING but in no queue, and this state is the one that the laws describe. -/
def underWay (i : Fin 24) (s : State) : State := s.modGrant i fun g => { g with state := .armed }

theorem underWay_grantAt (i j : Fin 24) (s : State) :
    (underWay i s).grantAt j = if j = i then (s.grantAt j).map fun g => { g with state := .armed } else s.grantAt j :=
  modGrant_grantAt ..

theorem setSlot_grantAt_self (s : State) (i : Fin 24) (x : Option Grant) : (s.setSlot i x).grantAt i = x := by simp

theorem setSlot_setSlot (s : State) (i : Fin 24) (x y : Option Grant) : (s.setSlot i x).setSlot i y = s.setSlot i y := by
  simp [State.setSlot]

/-- Settlement does not see which of the live states a grant is in. -/
theorem settleCore_underWay {i : Fin 24} {g : Grant} {s : State} (hg : s.grantAt i = some g)
    (live : g.state ≠ .settled) : settleCore i (underWay i s) = settleCore i s := by
  have stands : (underWay i s).grantAt i = some { g with state := .armed } := by simp [underWay_grantAt, hg]
  have slot : ∀ y, (underWay i s).setSlot i y = s.setSlot i y := fun y => setSlot_setSlot ..
  have live' : ({ g with state := .armed } : Grant).state ≠ .settled := by simp
  have form : ({ g with state := .armed } : Grant).settledForm = g.settledForm := rfl
  unfold settleCore
  simp only [stands, hg, if_neg live, if_neg live', slot, form]
  rfl

theorem moves_underWay {i : Fin 24} {s t : State} (others : ∀ j, j ≠ i → t.grantAt j = s.grantAt j)
    {g g' : Grant} (hg : s.grantAt i = some g) (hg' : t.grantAt i = some g') (tag : g'.tag = g.tag)
    (lane : g'.lane = g.lane) (pending : t.gm.pendingTags = s.gm.pendingTags)
    (settled : t.gm.settledTags = s.gm.settledTags) : Moves (underWay i s) (underWay i t) := by
  refine ⟨fun j => ?_, pending, settled⟩
  rw [underWay_grantAt, underWay_grantAt]
  by_cases e : j = i
  · subst e
    simp only [hg, hg', if_true, Option.map_some]
    exact .some ⟨tag, lane, .inr ⟨rfl, rfl⟩⟩
  · simp only [e, if_false, others j e]
    exact optionRel_refl

/-- A grant that came to be armed is where the state under way has it. -/
theorem moves_of_underWay {i : Fin 24} {s : State} {g : Grant} (hg : s.grantAt i = some g)
    (draws : g.state.drawsOnLine = true) : Moves (underWay i s) s := by
  refine ⟨fun j => ?_, rfl, rfl⟩
  rw [underWay_grantAt]
  split
  · next e => subst e; rw [hg]; exact .some ⟨rfl, rfl, .inr ⟨rfl, draws⟩⟩
  · exact optionRel_refl

theorem grantLaw_settle_underWay {i : Fin 24} {s : State} {g : Grant} (hg : s.grantAt i = some g)
    (live : g.state ≠ .settled) (law : GrantLaw (underWay i s)) : GrantLaw (settle i s) := by
  have settled := grantLaw_settleCore i law
  rw [settleCore_underWay hg live] at settled
  exact settled.of_gm (by simp [settle])

theorem grantLaw_endNow_underWay {i : Fin 24} {s : State} {g : Grant} (r : EndReason) (hg : s.grantAt i = some g)
    (live : g.state ≠ .settled) (law : GrantLaw (underWay i s)) : GrantLaw (endNow i r s) := by
  have recorded : (s.modGrant i (·.recordOutcome r)).grantAt i = some (g.recordOutcome r) := by simp [hg]
  exact grantLaw_settle_underWay recorded live
    (law.moves (moves_underWay (fun j ne => by simp [ne]) hg recorded rfl rfl rfl rfl))

theorem grantLaw_armingEnd {i : Fin 24} {s : State} {g : Grant} (hg : s.grantAt i = some g)
    (live : g.state ≠ .settled) (law : GrantLaw (underWay i s)) : GrantLaw (armingEnd i s) := by
  have armed : GrantLaw (s.setSlot i (some { g with state := .armed, liftTimer := Timer.start s.cp.timers.lift })) := by
    have stands := setSlot_grantAt_self s i (some { g with state := .armed, liftTimer := Timer.start s.cp.timers.lift })
    exact (law.moves (moves_underWay (fun j ne => by simp [ne]) hg stands rfl rfl rfl rfl)).moves
      (moves_of_underWay stands rfl)
  unfold armingEnd
  simp only [hg]
  split
  · exact grantLaw_endNow_underWay _ hg live law
  split
  · exact grantLaw_endNow_underWay _ hg live law
  split
  · exact armed
  · exact armed.of_gm (queueNotice_gm ..)

theorem arming_eq {i : Fin 24} {s : State} {g : Grant} (hg : s.grantAt i = some g) :
    arm i s = armingEnd i (attachAll g.tag (armedForm s g).attached (s.setSlot i (some (armedForm s g)))) := by
  simp [arm, hg]

theorem grantLaw_arm {i : Fin 24} {s : State} {g : Grant} (hg : s.grantAt i = some g)
    (live : g.state ≠ .settled) (law : GrantLaw (underWay i s)) : GrantLaw (arm i s) := by
  have formed : (attachAll g.tag (armedForm s g).attached (s.setSlot i (some (armedForm s g)))).grantAt i
      = some (armedForm s g) := by simp
  rw [arming_eq hg]
  exact grantLaw_armingEnd formed live
    (law.moves (moves_underWay (fun j ne => by simp [ne]) hg formed rfl rfl (by simp) (by simp)))

/-! ### Grants that join and leave -/

theorem GrantLaw.leavesPending {s t : State} (law : GrantLaw s) {i : Fin 24} {g g' : Grant}
    (hg : s.grantAt i = some g) (waits : g.state = .pending) (hg' : t.grantAt i = some g')
    (others : ∀ j, j ≠ i → t.grantAt j = s.grantAt j) (tag : g'.tag = g.tag) (lane : g'.lane = g.lane)
    (live' : g'.state ≠ .settled) (left : ¬ (g'.state = .pending ∧ g'.served = false))
    (pendingTags : t.gm.pendingTags = s.gm.pendingTags.filter (· != g.tag))
    (settledTags : t.gm.settledTags = s.gm.settledTags) : GrantLaw t := by
  obtain ⟨range, tags, lanes, pendingOnce, pending, settledOnce, settled⟩ := law
  have old : ∀ {j : Fin 24} {h : Grant}, t.grantAt j = some h → j = i ∧ h = g' ∨ j ≠ i ∧ s.grantAt j = some h := by
    intro j h hj
    by_cases e : j = i
    · subst e; exact .inl ⟨rfl, Option.some.inj (hj.symm.trans hg')⟩
    · exact .inr ⟨e, others j e ▸ hj⟩
  have live : g.isLive = true := by simp [Grant.isLive, waits]
  refine ⟨?_, ?_, ?_, ?_, ?_, ?_, ?_⟩
  · intro j h hj
    rcases old hj with ⟨rfl, rfl⟩ | ⟨_, hj⟩
    · rw [tag]; exact range j g hg
    · exact range j h hj
  · intro j k a b ha hb e
    rcases old ha with ⟨rfl, rfl⟩ | ⟨_, ha'⟩ <;> rcases old hb with ⟨rfl, rfl⟩ | ⟨_, hb'⟩
    · rfl
    · exact tags j k g b hg hb' (tag ▸ e)
    · exact tags j k a g ha' hg (tag ▸ e)
    · exact tags j k a b ha' hb' e
  · intro j k a b ha hb la lb e
    rcases old ha with ⟨rfl, rfl⟩ | ⟨_, ha'⟩ <;> rcases old hb with ⟨rfl, rfl⟩ | ⟨_, hb'⟩
    · rfl
    · exact lanes j k g b hg hb' live lb (lane ▸ e)
    · exact lanes j k a g ha' hg la live (lane ▸ e)
    · exact lanes j k a b ha' hb' la lb e
  · rw [pendingTags]; exact pendingOnce.filter _
  · intro x
    rw [pendingTags, List.mem_filter, pending, bne_iff_ne]
    constructor
    · rintro ⟨⟨j, h, hj, rfl, w⟩, other⟩
      have ne : j ≠ i := by rintro rfl; rw [hg] at hj; exact other (Option.some.inj hj ▸ rfl)
      exact ⟨j, h, by rw [others j ne, hj], rfl, w⟩
    · rintro ⟨j, h, hj, rfl, w⟩
      rcases old hj with ⟨rfl, rfl⟩ | ⟨ne, hj⟩
      · exact absurd w left
      · exact ⟨⟨j, h, hj, rfl, w⟩, fun e => ne (tags j i h g hj hg e)⟩
  · rw [settledTags]; exact settledOnce
  · intro x
    rw [settledTags, settled]
    constructor
    · rintro ⟨j, h, hj, rfl, ended⟩
      have ne : j ≠ i := by rintro rfl; rw [hg] at hj; simp [← Option.some.inj hj, waits] at ended
      exact ⟨j, h, by rw [others j ne, hj], rfl, ended⟩
    · rintro ⟨j, h, hj, rfl, ended⟩
      rcases old hj with ⟨rfl, rfl⟩ | ⟨ne, hj⟩
      · exact absurd ended live'
      · exact ⟨j, h, hj, rfl, ended⟩

theorem GrantLaw.joins {s t : State} (law : GrantLaw s) {i : Fin 24} {g : Grant} (free : s.grantAt i = none)
    (laneFree : s.laneBusy g.lane = false) (hg : t.grantAt i = some g)
    (others : ∀ j, j ≠ i → t.grantAt j = s.grantAt j) (tag : g.tag = s.nextTag) (live : g.state ≠ .settled)
    (pendingOnce : t.gm.pendingTags.Nodup)
    (pendingTags : ∀ x, x ∈ t.gm.pendingTags ↔
      x ∈ s.gm.pendingTags ∨ x = s.nextTag ∧ g.state = .pending ∧ g.served = false)
    (settledTags : t.gm.settledTags = s.gm.settledTags) : GrantLaw t := by
  obtain ⟨range, tags, lanes, _, pending, settledOnce, settled⟩ := law
  have old : ∀ {j : Fin 24} {h : Grant}, t.grantAt j = some h → j = i ∧ h = g ∨ j ≠ i ∧ s.grantAt j = some h := by
    intro j h hj
    by_cases e : j = i
    · subst e; exact .inl ⟨rfl, Option.some.inj (hj.symm.trans hg)⟩
    · exact .inr ⟨e, others j e ▸ hj⟩
  have kept : ∀ {j : Fin 24} {h : Grant}, s.grantAt j = some h → t.grantAt j = some h := by
    intro j h hj
    have ne : j ≠ i := by rintro rfl; simp [free] at hj
    rw [others j ne, hj]
  have alone : ∀ {j : Fin 24} {h : Grant}, s.grantAt j = some h → h.isLive = true → h.lane ≠ g.lane := by
    intro j h hj lives same
    have none := List.any_eq_false.mp laneFree h (mem_grants.mpr ⟨j, hj⟩)
    simp [same, lives] at none
  refine ⟨?_, ?_, ?_, pendingOnce, ?_, ?_, ?_⟩
  · intro j h hj
    rcases old hj with ⟨rfl, rfl⟩ | ⟨_, hj⟩
    · rw [tag]; exact nextTag_range s
    · exact range j h hj
  · intro j k a b ha hb e
    rcases old ha with ⟨rfl, rfl⟩ | ⟨_, ha'⟩ <;> rcases old hb with ⟨rfl, rfl⟩ | ⟨_, hb'⟩
    · rfl
    · exact absurd (e.symm.trans tag) (nextTag_not_held hb')
    · exact absurd (e.trans tag) (nextTag_not_held ha')
    · exact tags j k a b ha' hb' e
  · intro j k a b ha hb la lb e
    rcases old ha with ⟨rfl, rfl⟩ | ⟨_, ha'⟩ <;> rcases old hb with ⟨rfl, rfl⟩ | ⟨_, hb'⟩
    · rfl
    · exact absurd e.symm (alone hb' lb)
    · exact absurd e (alone ha' la)
    · exact lanes j k a b ha' hb' la lb e
  · intro x
    rw [pendingTags, pending]
    constructor
    · rintro (⟨j, h, hj, rfl, w⟩ | ⟨rfl, w⟩)
      · exact ⟨j, h, kept hj, rfl, w⟩
      · exact ⟨i, g, hg, tag, w⟩
    · rintro ⟨j, h, hj, rfl, w⟩
      rcases old hj with ⟨rfl, rfl⟩ | ⟨_, hj⟩
      · exact .inr ⟨tag, w⟩
      · exact .inl ⟨j, h, hj, rfl, w⟩
  · rw [settledTags]; exact settledOnce
  · intro x
    rw [settledTags, settled]
    constructor
    · rintro ⟨j, h, hj, rfl, ended⟩
      exact ⟨j, h, kept hj, rfl, ended⟩
    · rintro ⟨j, h, hj, rfl, ended⟩
      rcases old hj with ⟨rfl, rfl⟩ | ⟨_, hj⟩
      · exact absurd ended live
      · exact ⟨j, h, hj, rfl, ended⟩

end Sys2Proof.Machine
end

section
/-! PROOFS. The law of the grant table, row by row. -/

namespace Sys2Proof.Machine

/-! ### The rows of the grants -/

theorem leavePending_eq {i : Fin 24} {s : State} {g : Grant} (hg : s.grantAt i = some g) :
    leavePending i s =
      (s.setSlot i (some { g with decisionTimer := .stopped })).modGm fun m =>
        { m with pendingTags := m.pendingTags.filter (· != g.tag) } := by
  simp [leavePending, hg]

theorem leavePending_grantAt {i : Fin 24} {s : State} {g : Grant} (hg : s.grantAt i = some g) (j : Fin 24) :
    (leavePending i s).grantAt j = if j = i then some { g with decisionTimer := .stopped } else s.grantAt j := by
  rw [leavePending_eq hg, modGm_grantAt _ _ rfl, setSlot_grantAt]

theorem leavePending_pendingTags {i : Fin 24} {s : State} {g : Grant} (hg : s.grantAt i = some g) :
    (leavePending i s).gm.pendingTags = s.gm.pendingTags.filter (· != g.tag) := by
  rw [leavePending_eq hg]; rfl

theorem leavePending_settledTags (i : Fin 24) (s : State) : (leavePending i s).gm.settledTags = s.gm.settledTags := by
  unfold leavePending; split <;> rfl

theorem grantLaw_leavePending {i : Fin 24} {s : State} {g : Grant} (law : GrantLaw s) (hg : s.grantAt i = some g)
    (waits : g.state = .pending) : GrantLaw (underWay i (leavePending i s)) := by
  refine law.leavesPending hg waits (g' := { g with decisionTimer := .stopped, state := .armed }) ?_ ?_ rfl rfl
    (by simp) (by simp) (leavePending_pendingTags hg) (leavePending_settledTags i s)
  · simp [underWay_grantAt, leavePending_grantAt hg]
  · intro j ne; simp [underWay_grantAt, leavePending_grantAt hg, ne]

theorem grantLaw_approve {i : Fin 24} {s : State} {g : Grant} (es : List LimitEntry) (law : GrantLaw s)
    (hg : s.grantAt i = some g) (waits : g.state = .pending) : GrantLaw (approve i es s) := by
  have limited : (s.modGrant i (·.withLimits es)).grantAt i = some (g.withLimits es) := by simp [hg]
  have law' : GrantLaw (s.modGrant i (·.withLimits es)) :=
    law.moves (moves_modGrant fun _ _ => ⟨rfl, rfl, .inl ⟨rfl, rfl⟩⟩)
  have left := leavePending_grantAt limited i
  rw [if_pos rfl] at left
  exact grantLaw_arm left (by simp [Grant.withLimits, waits]) (grantLaw_leavePending law' limited waits)

theorem grantLaw_declineGrant {i : Fin 24} {s : State} {g : Grant} (code : Nat) (law : GrantLaw s)
    (hg : s.grantAt i = some g) (waits : g.state = .pending) : GrantLaw (declineGrant i code s) := by
  have recorded := setSlot_grantAt_self s i
    (some { g.recordOutcome (.declinedHost code) with source := some .host })
  have law' : GrantLaw (s.setSlot i (some { g.recordOutcome (.declinedHost code) with source := some .host })) :=
    law.moves (moves_setSlot hg ⟨rfl, rfl, .inl ⟨rfl, rfl⟩⟩)
  have left := grantLaw_leavePending law' recorded waits
  have stands := leavePending_grantAt recorded i
  rw [if_pos rfl] at stands
  unfold declineGrant
  simp only [hg]
  refine grantLaw_settle_underWay (by rw [queueNotice_grantAt, stands]) (by simp [Grant.recordOutcome, waits]) ?_
  exact left.moves (moves_underWay (fun j ne => by simp) stands (by rw [queueNotice_grantAt, stands]) rfl rfl (by simp) (by simp))

theorem grantLaw_doDecide (tag : Nat) (v : Verdict) {s : State} (law : GrantLaw s) : GrantLaw (doDecide tag v s).1 := by
  unfold doDecide
  split
  · exact law
  split
  · exact law
  split
  · exact law
  next i _ _ g hg =>
  split
  · exact law
  next waits =>
  have waits : g.state = .pending := by simpa using waits
  split
  · split
    · exact grantLaw_approve _ law hg waits
    · exact law
  · exact grantLaw_declineGrant _ law hg waits
  · exact law

theorem createIn_grantAt (i j : Fin 24) (g : Grant) (s : State) :
    (createIn i g s).grantAt j = if j = i then some { g with tag := s.nextTag } else s.grantAt j := by
  rw [createIn, modGm_grantAt _ _ rfl, setSlot_grantAt]

/-- A created grant is under way at once when it is armed in the same step. -/
theorem grantLaw_createIn {i : Fin 24} {s : State} {g : Grant} (law : GrantLaw s) (free : s.grantAt i = none)
    (laneFree : s.laneBusy g.lane = false) : GrantLaw (underWay i (createIn i g s)) := by
  refine law.joins free (g := { g with tag := s.nextTag, state := .armed }) laneFree ?_ ?_ rfl (by simp) law.2.2.2.1
    (by simp [underWay, createIn]) rfl
  · simp [underWay_grantAt, createIn_grantAt]
  · intro j ne; simp [underWay_grantAt, createIn_grantAt, ne]

theorem grantLaw_createArmed {i : Fin 24} {s : State} {g : Grant} (law : GrantLaw s) (free : s.grantAt i = none)
    (laneFree : s.laneBusy g.lane = false) (live : g.state ≠ .settled) : GrantLaw (arm i (createIn i g s)) := by
  have stands := createIn_grantAt i i g s
  rw [if_pos rfl] at stands
  exact grantLaw_arm stands live (grantLaw_createIn law free laneFree)

theorem grantLaw_doOpenGrant (lane : Nat) (es : List LimitEntry) {s : State} (law : GrantLaw s) :
    GrantLaw (doOpenGrant lane es s).1 := by
  unfold doOpenGrant
  split
  · exact law
  split
  · exact law
  split
  · exact law
  split
  · exact law
  next n _ _ _ laneFree =>
  split
  · exact law
  next i free =>
  split
  · exact law
  · exact grantLaw_createArmed law (freeSlot_eq_some free) (by rw [Bool.not_eq_true] at laneFree; exact laneFree)
      (by simp [attendantGrant, Grant.blank])

theorem grantLaw_doService {s : State} (law : GrantLaw s) : GrantLaw (doService s).1 := by
  unfold doService
  split
  · exact law
  next tag rest queue =>
  obtain ⟨_, tags, _, pendingOnce, pending, _, _⟩ := id law
  rw [queue] at pendingOnce pending
  obtain ⟨k, h, hk, rfl, waits⟩ := (pending tag).mp List.mem_cons_self
  have rest_eq : rest = (h.tag :: rest).filter (· != h.tag) := by
    have : ∀ x ∈ rest, (x != h.tag) = true := fun x hx => by
      rw [bne_iff_ne]; rintro rfl; exact (List.nodup_cons.mp pendingOnce).1 hx
    simp [List.filter_eq_self.mpr this]
  rw [law.findTag hk]
  refine law.leavesPending hk waits.1 (g' := { h with served := true }) ?_ ?_ rfl rfl (by simp [waits.1]) (by simp) ?_ rfl
  · rw [modGm_grantAt _ _ rfl]; simp [hk]
  · intro j ne; rw [modGm_grantAt _ _ rfl]; simp [ne]
  · rw [queue]; exact rest_eq

theorem grantLaw_doCollect {s : State} (law : GrantLaw s) : GrantLaw (doCollect s).1 := by
  unfold doCollect
  split
  · exact law
  next tag rest queue =>
  obtain ⟨range, tags, lanes, pendingOnce, pending, settledOnce, settled⟩ := id law
  rw [queue] at settledOnce settled
  obtain ⟨k, h, hk, rfl, ended⟩ := (settled tag).mp List.mem_cons_self
  rw [law.findTag hk]
  have old : ∀ {j : Fin 24} {x : Grant},
      ((s.setSlot k none).modGm fun m => { m with settledTags := rest }).grantAt j = some x ↔
        j ≠ k ∧ s.grantAt j = some x := by
    intro j x
    rw [modGm_grantAt _ _ rfl, setSlot_grantAt]
    by_cases e : j = k <;> simp [e]
  refine ⟨?_, ?_, ?_, pendingOnce, ?_, (List.nodup_cons.mp settledOnce).2, ?_⟩
  · intro j x hj; exact range j x (old.mp hj).2
  · intro i j a b ha hb; exact tags i j a b (old.mp ha).2 (old.mp hb).2
  · intro i j a b ha hb; exact lanes i j a b (old.mp ha).2 (old.mp hb).2
  · intro x
    refine (pending x).trans ⟨?_, ?_⟩
    · rintro ⟨j, g, hj, e, waits⟩
      have ne : j ≠ k := by rintro rfl; rw [hk] at hj; simp [← Option.some.inj hj, ended] at waits
      exact ⟨j, g, old.mpr ⟨ne, hj⟩, e, waits⟩
    · rintro ⟨j, g, hj, e, waits⟩; exact ⟨j, g, (old.mp hj).2, e, waits⟩
  · intro x
    have first := (List.nodup_cons.mp settledOnce).1
    have mem : x ∈ rest ↔ x ≠ h.tag ∧ x ∈ h.tag :: rest := by
      rw [List.mem_cons]
      refine ⟨fun hx => ⟨fun e => first (e ▸ hx), .inr hx⟩, fun ⟨ne, hx⟩ => hx.resolve_left ne⟩
    refine mem.trans ?_
    rw [settled x]
    constructor
    · rintro ⟨other, j, g, hj, rfl, e⟩
      have ne : j ≠ k := by rintro rfl; rw [hk] at hj; exact other (Option.some.inj hj ▸ rfl)
      exact ⟨j, g, old.mpr ⟨ne, hj⟩, rfl, e⟩
    · rintro ⟨j, g, hj, rfl, e⟩
      obtain ⟨ne, hj⟩ := old.mp hj
      exact ⟨fun same => ne (tags j k g h hj hk same), j, g, hj, rfl, e⟩

theorem draws_of_any {s : State} {i : Fin 24} {x : GrantState} (h : (s.grantAt i).any (·.state == x) = true)
    (draws : x.drawsOnLine = true) : ∀ g, s.grantAt i = some g → g.state.drawsOnLine = true := by
  intro g hg
  rw [hg, Option.any_some, beq_iff_eq] at h
  rw [h, draws]

theorem grantLaw_doHold (tag : Nat) {s : State} (law : GrantLaw s) : GrantLaw (doHold tag s).1 := by
  unfold doHold
  split
  · exact law
  split
  · next fueling => exact law.moves (moves_enterHeld (draws_of_any fueling rfl))
  · exact law

theorem moves_resumeReports (i : Fin 24) (ps : List (Fin 32)) (s : State) : Moves s (resumeReports i ps s) := by
  refine moves_foldl (fun s p => ?_) ps s
  split
  · exact moves_liftReport ..
  · exact .refl s

theorem moves_resumeGrant {i : Fin 24} {s : State} (draws : ∀ g, s.grantAt i = some g → g.state.drawsOnLine = true) :
    Moves s (resumeGrant i s) := by
  unfold resumeGrant
  split
  · next g hg =>
    refine Moves.trans (moves_setSlot hg ?_) ((moves_resumeReports ..).trans (moves_startWaitTimer ..))
    exact ⟨rfl, rfl, .inr ⟨draws g hg, rfl⟩⟩
  · exact .refl s

theorem grantLaw_doResume (tag : Nat) {s : State} (law : GrantLaw s) : GrantLaw (doResume tag s).1 := by
  unfold doResume
  split
  · exact law
  split
  · next held => exact law.moves (moves_resumeGrant (draws_of_any held rfl))
  · exact law

theorem draws_of_map {s : State} {i : Fin 24} {x : GrantState} (h : (s.grantAt i).map Grant.state = some x)
    (draws : x.drawsOnLine = true) : ∀ g, s.grantAt i = some g → g.state.drawsOnLine = true := by
  intro g hg
  rw [hg, Option.map_some] at h
  rw [Option.some.inj h, draws]

theorem grantLaw_doStop (tag : Nat) {s : State} (law : GrantLaw s) : GrantLaw (doStop tag s).1 := by
  unfold doStop
  split
  · exact law
  split
  · exact grantLaw_endNow _ _ law
  · exact grantLaw_endNow _ _ law
  · next fueling => exact grantLaw_enterClosing _ law (draws_of_map fueling rfl)
  · next held => exact grantLaw_enterClosing _ law (draws_of_map held rfl)
  all_goals exact law

theorem draws_of_state {s : State} {i : Fin 24} {g : Grant} {x : GrantState} (hg : s.grantAt i = some g)
    (h : g.state = x) (draws : x.drawsOnLine = true) : ∀ g, s.grantAt i = some g → g.state.drawsOnLine = true := by
  intro k hk
  rw [hg] at hk
  rw [← Option.some.inj hk, h, draws]

theorem grantLaw_doCancel (lane : Fin 8) (tag : Nat) {s : State} (law : GrantLaw s) :
    GrantLaw (doCancel lane tag s).1 := by
  unfold doCancel
  split
  · exact law
  split
  · exact law
  next i _ _ g hg =>
  split
  · exact law
  split
  · exact grantLaw_endNow _ _ law
  · exact grantLaw_endNow _ _ law
  · next fueling => exact grantLaw_enterClosing _ law (draws_of_state hg fueling rfl)
  · next held => exact grantLaw_enterClosing _ law (draws_of_state hg held rfl)
  all_goals exact law

theorem grantLaw_decisionExpiry (tag : Nat) {s : State} (law : GrantLaw s) : GrantLaw (decisionExpiry tag s) := by
  unfold decisionExpiry
  split
  · exact law
  split
  · exact law
  next i _ _ g hg =>
  split
  · exact law
  next waits =>
  have waits : g.state = .pending := by simp only [not_or, not_not] at waits; exact waits.2
  have left := grantLaw_leavePending law hg waits
  have stands := leavePending_grantAt hg i
  rw [if_pos rfl] at stands
  have live : g.state ≠ .settled := by simp [waits]
  have declined : GrantLaw (endNow i .declinedTimeout (leavePending i s)) := grantLaw_endNow_underWay _ stands live left
  dsimp only
  split
  · exact declined
  split
  · exact declined
  split
  · next c _ _ p _ _ _ =>
    have limited : (((leavePending i s).modSu (·.book c.pan p.id)).modGrant i
        (·.withStandin .standinTimeout (standinLimit s p))).grantAt i =
          some (({ g with decisionTimer := .stopped } : Grant).withStandin .standinTimeout (standinLimit s p)) := by
      rw [modGrant_grantAt, if_pos rfl, modSu_grantAt, stands, Option.map_some]
    exact grantLaw_arm limited live
      (left.moves (moves_underWay (fun j ne => by simp [ne]) stands limited rfl rfl rfl rfl))
  · exact declined
  · exact grantLaw_endNow_underWay (s := (leavePending i s).raiseTallyFull) _ stands live left

theorem grantLaw_liftExpiry (tag : Nat) {s : State} (law : GrantLaw s) : GrantLaw (liftExpiry tag s) := by
  unfold liftExpiry
  split
  · exact law
  split
  · exact law
  next i _ _ g hg =>
  split
  · split
    · exact grantLaw_endNow _ _ law
    · next fueling => exact grantLaw_enterClosing _ law (draws_of_state hg fueling rfl)
    all_goals exact law
  · exact law

theorem any_and_right {α : Type} {x : Option α} {a b : α → Bool} (h : (x.any fun g => a g && b g) = true) :
    x.any b = true := by
  cases x with
  | none => exact h
  | some g => simp only [Option.any_some, Bool.and_eq_true] at h ⊢; exact h.2

theorem grantLaw_idleEndExpiry (tag : Nat) {s : State} (law : GrantLaw s) : GrantLaw (idleEndExpiry tag s) := by
  unfold idleEndExpiry
  split
  · exact law
  split
  · next due => exact grantLaw_enterClosing _ law (draws_of_any (any_and_right due) rfl)
  · exact law

theorem grantLaw_holdExpiry (tag : Nat) {s : State} (law : GrantLaw s) : GrantLaw (holdExpiry tag s) := by
  unfold holdExpiry
  split
  · exact law
  split
  · next due => exact grantLaw_enterClosing _ law (draws_of_any (any_and_right due) rfl)
  · exact law

/-! ### Screening -/

theorem screen_passed {lane : Fin 8} {r : AuthRequest} {s : State} {p : Program} {products : List (Fin 4)}
    (h : screen lane r s = .passed p products) : s.laneBusy lane = false := by
  unfold screen at h
  repeat' split at h
  all_goals simp_all

theorem grantLaw_acceptOnline {i : Fin 24} {g : Grant} {s : State} (law : GrantLaw s) (free : s.grantAt i = none)
    (laneFree : s.laneBusy g.lane = false) (waits : g.state = .pending ∧ g.served = false) :
    GrantLaw (acceptOnline i g s).1 := by
  have fresh : s.nextTag ∉ s.gm.pendingTags := by
    rw [law.2.2.2.2.1]
    rintro ⟨j, h, hj, e, _⟩
    exact nextTag_not_held hj e
  refine law.joins free
    (g := { g with decisionTimer := Timer.start s.cp.timers.decision, tag := s.nextTag }) laneFree ?_ ?_ rfl
    (by simp [waits]) ?_ ?_ rfl
  · rw [acceptOnline, modGm_grantAt _ _ rfl, createIn_grantAt, if_pos rfl]
  · intro j ne; rw [acceptOnline, modGm_grantAt _ _ rfl, createIn_grantAt, if_neg ne]
  · exact law.2.2.2.1.append (List.nodup_singleton _) (by simpa using fresh)
  · intro x; simp [acceptOnline, createIn, waits]

theorem grantLaw_doAuthRequest (lane : Fin 8) (request : Option AuthRequest) {s : State} (law : GrantLaw s) :
    GrantLaw (doAuthRequest lane request s).1 := by
  unfold doAuthRequest
  split
  · exact law
  split
  · exact law
  next passed =>
  have laneFree := screen_passed passed
  unfold admitRequest
  split
  · exact law
  next i free =>
  have free := freeSlot_eq_some free
  split
  · exact grantLaw_acceptOnline law free laneFree ⟨rfl, rfl⟩
  · split
    · exact grantLaw_createArmed (s := s.modSu _) (law.of_gm rfl) free laneFree (by simp [Grant.withStandin, cardGrant, Grant.blank])
    · exact law
    · exact law.of_gm rfl

/-! ### Nozzles and points -/

theorem grantLaw_nozzleLift (p : Fin 32) {s : State} (law : GrantLaw s) : GrantLaw (nozzleLift p s) := by
  have set : GrantLaw (setNozzle p true s) := law.of_gm rfl
  unfold nozzleLift
  split
  · exact law.of_gm rfl
  split
  · exact law
  unfold liftFollowed
  split
  · exact (set.of_gm (by simp)).moves (moves_reportLift ..)
  · exact set.moves (moves_reportLift ..)
  all_goals exact set

theorem grantLaw_nozzleHangUp (p : Fin 32) {s : State} (law : GrantLaw s) : GrantLaw (nozzleHangUp p s) := by
  have set : GrantLaw (setNozzle p false s) := law.of_gm rfl
  unfold nozzleHangUp
  split
  · exact law.of_gm rfl
  split
  swap
  · exact law
  unfold hangUpFollowed
  split
  · exact grantLaw_reportExit p ((set.of_gm (by simp)).moves (moves_reportHangUp ..))
  · exact (set.of_gm (by simp)).moves (moves_reportHangUp ..)
  · exact (set.of_gm (by simp)).moves (moves_reportHangUp ..)
  · exact (set.of_gm (by simp)).moves (moves_reportHangUp ..)
  · exact set.moves (moves_reportHangUp ..)
  all_goals exact set

theorem grantLaw_noFlowExpiry (p : Fin 32) {s : State} (law : GrantLaw s) : GrantLaw (noFlowExpiry p s) := by
  unfold noFlowExpiry
  split
  swap
  · exact law
  dsimp only
  split
  · split
    · next fueling => exact grantLaw_enterClosing _ (law.of_gm rfl) (draws_of_any fueling rfl)
    · exact law.of_gm rfl
  · exact law.of_gm rfl

theorem moves_startExpiry (l : Fin 4) (s : State) : Moves s (startExpiry l s) := by
  unfold startExpiry
  split
  · exact (Moves.of_gm (by simp)).trans (moves_foldl (fun s p => moves_pumpReady p s) _ _)
  · exact .refl s

/-! ### Faults -/

theorem grantLaw_outOfService (p : Fin 32) {s : State} (law : GrantLaw s) : GrantLaw (outOfService p s) := by
  have left : GrantLaw (leaveGrant p (withdrawOwn p (s.setPoint p (s.point p).takenOut))) := by
    unfold leaveGrant
    split
    · exact grantLaw_removePoint _ _ (law.of_gm (by simp))
    · exact law.of_gm (by simp)
  exact left.of_gm (by simp [outOfService])

theorem draws_of_three {s : State} {i : Fin 24}
    (h : ((s.grantAt i).any fun g => g.state == .armed || g.state == .fueling || g.state == .held) = true) :
    ∀ g, s.grantAt i = some g → g.state.drawsOnLine = true := by
  intro g hg
  simp only [hg, Option.any_some, Bool.or_eq_true, beq_iff_eq] at h
  rcases h with (h | h) | h <;> rw [h] <;> rfl

theorem grantLaw_unauthorizedFlow (p : Fin 32) {s : State} (law : GrantLaw s) : GrantLaw (unauthorizedFlow p s) := by
  refine grantLaw_outOfService p ?_
  split
  · split
    · next due => exact grantLaw_enterClosing _ law (draws_of_three due)
    · exact law
  · exact law

theorem grantLaw_lockoutGrant (i : Fin 24) {s : State} (law : GrantLaw s) : GrantLaw (lockoutGrant i s) := by
  unfold lockoutGrant
  split
  · next g hg =>
    split
    · next due =>
      refine grantLaw_enterClosing _ law (draws_of_three ?_)
      rw [Bool.and_eq_true] at due
      rw [hg]; exact due.2
    · exact law
  · exact law

theorem grantLaw_lockout (l : Fin 4) {s : State} (law : GrantLaw s) : GrantLaw (lockout l s) := by
  unfold lockout
  split
  · exact law
  refine GrantLaw.of_gm ?_ (raiseLineLockout_gm ..)
  refine foldl_keeps (P := GrantLaw) (fun t i h => grantLaw_lockoutGrant i h) _ _ ?_
  have locked : GrantLaw (lineLockedOut l s) := law.of_gm (by simp [lineLockedOut, forcedStop])
  exact (locked.moves (moves_exhaustLine ..)).of_gm rfl

theorem grantLaw_creepWatch (p : Fin 32) (c : PointConfig) (n : Int) {s : State} (law : GrantLaw s) :
    GrantLaw (creepWatch p c n s) := by
  unfold creepWatch creepExcess
  split
  · dsimp only
    split
    · exact grantLaw_lockout _ (law.of_gm rfl)
    · exact grantLaw_unauthorizedFlow _ (law.of_gm rfl)
  · exact law.of_gm rfl

theorem draws_of_point {s : State} {p : Fin 32} {x : GrantState} (h : s.grantStateOfPoint p = some x)
    (draws : x.drawsOnLine = true) {i : Fin 24} (slot : s.slotOfPoint p = some i) :
    ∀ g, s.grantAt i = some g → g.state.drawsOnLine = true := by
  refine draws_of_map ?_ draws
  simpa [State.grantStateOfPoint, slot] using h

theorem grantLaw_pulserFault (p : Fin 32) {s : State} (law : GrantLaw s) : GrantLaw (pulserFault p s) := by
  have held : s.grantStateOfPoint p = some .fueling → GrantLaw (faultHold p s) := by
    intro fueling
    unfold faultHold
    split
    · next slot => exact (law.moves (moves_enterHeld (draws_of_point fueling rfl slot))).of_gm (by simp)
    · exact law
  have ended : s.grantStateOfPoint p = some .held → GrantLaw (compoundFault p s) := by
    intro held
    refine grantLaw_outOfService p ?_
    split
    · next slot => exact grantLaw_enterClosing _ law (draws_of_point held rfl slot)
    · exact law
  unfold pulserFault
  split
  · exact law
  · exact law
  · split
    · exact held ‹_›
    · exact law
  · split
    · exact held ‹_›
    · exact law
  all_goals
    split
    · exact ended ‹_›
    · exact grantLaw_outOfService p law

/-! ### Period ends -/

theorem grantLaw_evaluate (i : Fin 24) (l : Fin 4) {s : State} (law : GrantLaw s) : GrantLaw (evaluate i l s) := by
  unfold evaluate
  split
  swap
  · exact law
  split
  swap
  · exact law
  split
  · exact law
  split
  · unfold exhaustAllowance exhaustionReport
    have exhausted : GrantLaw (s.modGrant i (·.modAllowance l Allowance.exhaust)) :=
      law.moves (moves_modGrant fun _ _ => ⟨rfl, rfl, .inl ⟨rfl, rfl⟩⟩)
    have closed := fun ps => exhausted.moves (moves_closeOrders ps _)
    split
    · next g hg =>
      split
      · next due =>
        refine grantLaw_enterClosing _ (closed _) (draws_of_three ?_)
        rw [Bool.and_eq_true] at due
        rw [hg, Option.any_some, Bool.or_assoc, due.2, Bool.or_true]
      · exact closed _
    · exact closed _
  split
  · exact law.of_gm (by simp)
  · exact law

theorem grantLaw_saleStep (p : Fin 32) (c : PointConfig) (n : Int) {s : State} (law : GrantLaw s) :
    GrantLaw (saleStep p c n s) := by
  unfold saleStep
  split
  · exact grantLaw_evaluate _ _ (law.moves (moves_modGrant fun _ _ => ⟨rfl, rfl, .inl ⟨rfl, rfl⟩⟩))
  · exact law

theorem grantLaw_windowEnd (p : Fin 32) {s : State} (law : GrantLaw s) : GrantLaw (windowEnd p s) := by
  unfold windowEnd
  dsimp only
  split
  · exact (grantLaw_reportExit p (law.of_gm (by simp))).moves (moves_reportLift ..)
  · exact grantLaw_reportExit p (law.of_gm (by simp))

theorem grantLaw_pointTimers (p : Fin 32) (was : PointState) (n : Int) {s : State} (law : GrantLaw s) :
    GrantLaw (pointTimers p was n s) := by
  unfold pointTimers
  split
  · split
    · exact grantLaw_windowEnd p law
    · exact law.of_gm rfl
  split
  · exact law.of_gm rfl
  · exact law

theorem grantLaw_if {c : Prop} [Decidable c] {s t : State} (yes : GrantLaw s) (no : GrantLaw t) :
    GrantLaw (if c then s else t) := by
  split
  · exact yes
  · exact no

theorem grantLaw_periodEnd (p : Fin 32) {s : State} (law : GrantLaw s) : GrantLaw (periodEnd p s) := by
  unfold periodEnd
  split
  · exact law
  · next c _ =>
    have latched : GrantLaw (s.setPoint p (s.point p).latched) := law.of_gm rfl
    have sold := grantLaw_if (c := (s.point p).state.metersSale = true)
      (grantLaw_saleStep p c (s.point p).net latched) latched
    have timed := grantLaw_pointTimers p (s.point p).state (s.point p).net sold
    have watched := grantLaw_if (c := (s.point p).state.creepWatched = true)
      (grantLaw_creepWatch p c (s.point p).net timed) timed
    exact grantLaw_if (grantLaw_pulserFault p watched) watched

/-! ### The site -/

theorem grantLaw_haltGrant (i : Fin 24) {s : State} (law : GrantLaw s) : GrantLaw (haltGrant i s) := by
  have recorded : GrantLaw (s.modGrant i (·.recordOutcome .halt)) :=
    law.moves (moves_modGrant fun _ _ => ⟨rfl, rfl, .inl ⟨rfl, rfl⟩⟩)
  unfold haltGrant
  split
  swap
  · exact law
  next g hg =>
  have closing : g.state.drawsOnLine = true → GrantLaw (if (enterClosingCore i .halt s).completionDue i = true then
      settleCore i (enterClosingCore i .halt s) else enterClosingCore i .halt s) := by
    intro draws
    have core := law.moves (moves_enterClosingCore .halt (draws_of_state hg rfl draws))
    split
    · exact grantLaw_settleCore i core
    · exact core
  split
  · exact grantLaw_settleCore i recorded
  · exact grantLaw_settleCore i recorded
  · next fueling => exact closing (by rw [fueling]; rfl)
  · next held => exact closing (by rw [held]; rfl)
  all_goals exact law

theorem stopForecourt_gm (s : State) : (stopForecourt s).gm = s.gm := by
  unfold stopForecourt
  rw [foldl_unchanged (fun s => s.gm) (f := fun s l => forcedStop l s) (fun _ _ => rfl), closeOrders_gm]

theorem grantLaw_enterHalting {s : State} (law : GrantLaw s) : GrantLaw (enterHalting s) := by
  have halted : GrantLaw (haltGrants (stopForecourt s)) :=
    foldl_keeps (P := GrantLaw) (fun t i h => grantLaw_haltGrant i h) _ _ (law.of_gm (stopForecourt_gm s))
  exact halted.of_gm (by simp [enterHalting])

theorem grantLaw_doSiteHalt {s : State} (law : GrantLaw s) : GrantLaw (doSiteHalt s).1 := by
  unfold doSiteHalt
  split
  · dsimp only
    exact grantLaw_enterHalting law
  · exact law

theorem grantLaw_estopAssert {s : State} (law : GrantLaw s) : GrantLaw (estopAssert s) := by
  unfold estopAssert
  split
  · exact grantLaw_enterHalting (law.of_gm rfl)
  · exact law.of_gm rfl

theorem afterReset_grantAt (pins : Pins) (selection : Selection) (draws : Nat) (pending : List Instr) (i : Fin 24) :
    (State.afterReset pins selection draws pending).grantAt i = none := by
  simp only [State.grantAt, State.afterReset, Vector.getElem_replicate]

theorem grantLaw_afterReset (pins : Pins) (selection : Selection) (draws : Nat) (pending : List Instr) :
    GrantLaw (State.afterReset pins selection draws pending) := by
  simp only [GrantLaw, afterReset_grantAt, reduceCtorEq, false_implies, implies_true, false_and, exists_false,
    iff_false, true_and]
  exact ⟨List.nodup_nil, fun _ => List.not_mem_nil, List.nodup_nil, fun _ => List.not_mem_nil⟩

/-! ### The tick and the commands of the other blocks -/

theorem tickLine_gm (s : State) (l : Fin 4) : (tickLine s l).gm = s.gm := rfl

theorem tickTimers_gm (s : State) :
    (tickTimers s).gm = (allSlots.foldl (fun s i => s.modGrant i (·.tick)) s).gm := by
  unfold tickTimers
  generalize allSlots.foldl (fun s i => s.modGrant i (·.tick)) s = u
  rw [foldl_unchanged (fun s => s.gm) tickLine_gm]
  exact foldl_unchanged (fun s => s.gm)
    (f := fun s p => s.setPoint p { s.point p with noFlow := (s.point p).noFlow.tick }) (fun _ _ => rfl) allPoints u

theorem tick_gm (s : State) : (tick s).gm = (tickTimers s).gm := by simp only [tick]

theorem moves_tick (s : State) : Moves s (tick s) := by
  have grants : Moves s (allSlots.foldl (fun s i => s.modGrant i (·.tick)) s) :=
    moves_foldl (f := fun s i => s.modGrant i (·.tick))
      (fun _ _ => moves_modGrant fun _ _ => ⟨rfl, rfl, .inl ⟨rfl, rfl⟩⟩) allSlots s
  exact grants.trans (.of_gm ((tick_gm s).trans (tickTimers_gm s)))

theorem doPointSet_gm (n : Nat) (arg : PointArg) (s : State) : (doPointSet n arg s).1.gm = s.gm := by
  unfold doPointSet
  repeat' split
  all_goals rfl

theorem doPointEnable_gm (n : Nat) (s : State) : (doPointEnable n s).1.gm = s.gm := by
  unfold doPointEnable
  repeat' split
  all_goals rfl

theorem changeRotation_sameForecourt (l : Fin 4) (before after : Bool) (s : State) :
    SameForecourt s (changeRotation l before after s) := by
  unfold changeRotation enterRotation leaveRotation
  split
  · dsimp only
    split
    · exact (sameForecourt_setProbe l _ s).trans (sameForecourt_chooseChannel _)
    · exact sameForecourt_setProbe ..
  · exact (sameForecourt_setProbe l _ s).trans (sameForecourt_modTu ..)
  · exact .refl s

theorem doLineSet_gm (n : Nat) (arg : LineArg) (s : State) : (doLineSet n arg s).1.gm = s.gm := by
  unfold doLineSet
  repeat' split
  all_goals first | rfl | exact (changeRotation_sameForecourt ..).gm

theorem doPriceSet_gm (n price : Nat) (s : State) : (doPriceSet n price s).1.gm = s.gm := by
  unfold doPriceSet
  repeat' split
  all_goals rfl

theorem doLineRestore_gm (n : Nat) (s : State) : (doLineRestore n s).1.gm = s.gm := by
  unfold doLineRestore
  repeat' split
  all_goals rfl

theorem doSiteResume_gm (s : State) : (doSiteResume s).1.gm = s.gm := by
  unfold doSiteResume
  repeat' split
  all_goals rfl

theorem grantLaw_command {act : State → State × Response} (command : ForecourtCommand act) {s : State}
    (law : GrantLaw s) : GrantLaw (act s).1 := by
  cases command with
  | service => exact grantLaw_doService law
  | decide tag v => exact grantLaw_doDecide tag v law
  | openGrant lane es => exact grantLaw_doOpenGrant lane es law
  | hold tag => exact grantLaw_doHold tag law
  | resume tag => exact grantLaw_doResume tag law
  | stop tag => exact grantLaw_doStop tag law
  | collect => exact grantLaw_doCollect law
  | pointSet n arg => exact law.of_gm (doPointSet_gm n arg s)
  | pointEnable n => exact law.of_gm (doPointEnable_gm n s)
  | lineSet n arg => exact law.of_gm (doLineSet_gm n arg s)
  | priceSet n price => exact law.of_gm (doPriceSet_gm n price s)
  | lineRestore n => exact law.of_gm (doLineRestore_gm n s)
  | siteHalt => exact grantLaw_doSiteHalt law
  | siteResume => exact law.of_gm (doSiteResume_gm s)

theorem runOnExpiry_gm (l : Fin 4) (s : State) : (runOnExpiry l s).gm = s.gm := by
  unfold runOnExpiry; split <;> rfl

theorem pulserStep_gm (p : Fin 32) (phase : Fin 4) (s : State) : (pulserStep p phase s).gm = s.gm := by
  unfold pulserStep; split <;> rfl

theorem grantLaw_step {s t : State} (law : GrantLaw s) (h : ForecourtStep s t) : GrantLaw t := by
  cases h with
  | same same => exact law.of_gm same.gm
  | command command after => exact (grantLaw_command command law).of_gm after.gm
  | auth before after => exact (grantLaw_doAuthRequest _ _ (law.of_gm before.gm)).of_gm after.gm
  | cancel before after => exact (grantLaw_doCancel _ _ (law.of_gm before.gm)).of_gm after.gm
  | reset => exact grantLaw_afterReset ..
  | lift p => exact grantLaw_nozzleLift p law
  | hangUp p => exact grantLaw_nozzleHangUp p law
  | pulser p phase => exact law.of_gm (pulserStep_gm p phase s)
  | estopAssertion => exact grantLaw_estopAssert law
  | periodEnd p => exact grantLaw_periodEnd p law
  | decisionTimer tag => exact grantLaw_decisionExpiry tag law
  | liftTimer tag => exact grantLaw_liftExpiry tag law
  | idleEndTimer tag => exact grantLaw_idleEndExpiry tag law
  | holdTimer tag => exact grantLaw_holdExpiry tag law
  | noFlowTimer p => exact grantLaw_noFlowExpiry p law
  | startTimer l => exact law.moves (moves_startExpiry l s)
  | runOnTimer l => exact law.of_gm (runOnExpiry_gm l s)
  | duty p => exact law.of_gm rfl
  | tick => exact law.moves (moves_tick s)

/-- Settles O58: each row moves grants between the states of a sale under way, settles them, or makes or drops one,
and each of these keeps the law. -/
theorem stepKeepsGrantLaw : Obligations.StepKeepsGrantLaw := by
  intro s t law h
  obtain ⟨s₀, same, row⟩ := step_forecourtStep h
  exact grantLaw_step (law.of_gm same.gm) row

end Sys2Proof.Machine
end

section
/-! PROOFS. The law of attachment and delivery (R18, R26, R30, R68, R83, R84): the law with named parts, and the changes
that keep it whatever row makes them. -/

namespace Sys2Proof.Machine

/-! ### The law with its parts named -/

/-- The grant has an armed allowance of line `l` that counts the pulses of point `p`. -/
def Grant.meters (g : Grant) (l : Fin 4) (p : Fin 32) : Prop :=
  ∃ a t, g.allowanceOn l = some a ∧ a.armed = some t ∧ p ∈ t.records.map (·.point)

/-- `DeliveryLaw`, part by part. -/
structure Delivers (s : State) : Prop where
  grants : GrantLaw s
  valves : ValveLaw s
  tags : ∀ p tag, (s.point p).tag = some tag ↔ ∃ i g, s.grantAt i = some g ∧ g.tag = tag ∧ p ∈ g.attached
  unarmed : ∀ i g, s.grantAt i = some g → g.state = .pending ∨ g.state = .settled → g.attached = []
  ties : ∀ i g, s.grantAt i = some g → ∀ p ∈ g.attached,
    p.val / 4 = g.lane.val ∧ ∃ c, (s.point p).config = some c ∧ g.meters c.line p
  busy : ∀ p, (s.point p).state.isOpenOrPriming = true →
    ∃ i g c, s.grantAt i = some g ∧ p ∈ g.attached ∧ g.state = .fueling
      ∧ (s.point p).config = some c ∧ g.openOn c.line = true
  settling : ∀ p, (s.point p).state = .settling →
    ∃ i g, s.grantAt i = some g ∧ p ∈ g.attached ∧ (g.state = .fueling ∨ g.state = .held ∨ g.state = .closing)

theorem deliveryLaw_iff {s : State} : DeliveryLaw s ↔ Delivers s := by
  constructor
  · rintro ⟨grants, valves, tags, forms, busy, settling⟩
    refine ⟨grants, valves, tags, fun i g hg => (forms i g hg).1, fun i g hg p hp => ?_, busy, settling⟩
    obtain ⟨lane, c, a, t, config, rest⟩ := (forms i g hg).2 p hp
    exact ⟨lane, c, config, a, t, rest⟩
  · rintro ⟨grants, valves, tags, unarmed, ties, busy, settling⟩
    refine ⟨grants, valves, tags, fun i g hg => ⟨unarmed i g hg, fun p hp => ?_⟩, busy, settling⟩
    obtain ⟨lane, c, config, a, t, rest⟩ := ties i g hg p hp
    exact ⟨lane, c, a, t, config, rest⟩

/-- A point is attached to one grant at most. -/
theorem Delivers.owner_unique {s : State} (law : Delivers s) {i j : Fin 24} {g h : Grant} {p : Fin 32}
    (hg : s.grantAt i = some g) (hp : p ∈ g.attached) (hh : s.grantAt j = some h) (hp' : p ∈ h.attached) : i = j := by
  have first := (law.tags p g.tag).mpr ⟨i, g, hg, rfl, hp⟩
  have second := (law.tags p h.tag).mpr ⟨j, h, hh, rfl, hp'⟩
  exact law.grants.2.1 i j g h hg hh (Option.some.inj (first.symm.trans second))

theorem Delivers.tag_of_attached {s : State} (law : Delivers s) {i : Fin 24} {g : Grant} {p : Fin 32}
    (hg : s.grantAt i = some g) (hp : p ∈ g.attached) : (s.point p).tag = some g.tag :=
  (law.tags p g.tag).mpr ⟨i, g, hg, rfl, hp⟩

theorem Delivers.slotOfPoint {s : State} (law : Delivers s) {i : Fin 24} {g : Grant} {p : Fin 32}
    (hg : s.grantAt i = some g) (hp : p ∈ g.attached) : s.slotOfPoint p = some i := by
  simp [State.slotOfPoint, law.tag_of_attached hg hp, law.grants.findTag hg]

theorem Delivers.attached_of_slot {s : State} (law : Delivers s) {i : Fin 24} {p : Fin 32}
    (h : s.slotOfPoint p = some i) : ∃ g, s.grantAt i = some g ∧ p ∈ g.attached := by
  obtain ⟨tag, ht, found⟩ := Option.bind_eq_some_iff.mp h
  obtain ⟨j, g, hg, rfl, hp⟩ := (law.tags p tag).mp ht
  rw [law.grants.findTag hg] at found
  exact ⟨g, Option.some.inj found ▸ hg, hp⟩

theorem Delivers.tag_of_no_slot {s : State} (law : Delivers s) {p : Fin 32} (h : s.slotOfPoint p = none) :
    (s.point p).tag = none := by
  cases ht : (s.point p).tag with
  | none => rfl
  | some tag =>
    obtain ⟨j, g, hg, rfl, hp⟩ := (law.tags p tag).mp ht
    rw [law.slotOfPoint hg hp] at h
    exact absurd h (by simp)

theorem blocksSettlement_iff (x : PointState) :
    x.blocksSettlement = true ↔ x.isOpenOrPriming = true ∨ x = .settling := by
  cases x <;> simp [PointState.blocksSettlement, PointState.isOpenOrPriming]

/-- Only a grant that delivers, is held or is closing has a busy point. -/
theorem Delivers.quiet {s : State} (law : Delivers s) {i : Fin 24} {g : Grant} (hg : s.grantAt i = some g)
    (state : g.state ≠ .fueling ∧ g.state ≠ .held ∧ g.state ≠ .closing) :
    ∀ p ∈ g.attached, (s.point p).state.blocksSettlement = false := by
  intro p hp
  rw [Bool.eq_false_iff]
  intro blocks
  have owner : ∃ j h, s.grantAt j = some h ∧ p ∈ h.attached
      ∧ (h.state = .fueling ∨ h.state = .held ∨ h.state = .closing) := by
    rcases (blocksSettlement_iff _).mp blocks with busy | settling
    · obtain ⟨j, h, c, hh, hp', fueling, _⟩ := law.busy p busy
      exact ⟨j, h, hh, hp', .inl fueling⟩
    · exact law.settling p settling
  obtain ⟨j, h, hh, hp', under⟩ := owner
  obtain rfl := law.owner_unique hg hp hh hp'
  obtain rfl := Option.some.inj (hg.symm.trans hh)
  tauto

/-! ### Changes that only ease the forecourt -/

/-- What may become of a point without its grant's leave: it keeps its tag, and its configuration where it has one; its
valve does not open unless it primed or was open; it does not settle unless it was open, primed or settling. -/
structure Point.Eases (x x' : Point) : Prop where
  tag : x'.tag = x.tag
  config : x.tag ≠ none → x'.config = x.config
  duties : (x.state.isOpen = false → x.stageDuty = 0 ∧ x.dutyInForce = 0) →
    x'.state.isOpen = false → x'.stageDuty = 0 ∧ x'.dutyInForce = 0
  lifted : (x.state = .lifted → x.nozzle = true) → x'.state = .lifted → x'.nozzle = true
  busy : x'.state.isOpenOrPriming = true → x.state.isOpenOrPriming = true ∧ (x.nozzle = true → x'.nozzle = true)
  settling : x'.state = .settling → x.state = .settling ∨ x.state.isOpenOrPriming = true

theorem Point.Eases.refl (x : Point) : x.Eases x :=
  ⟨rfl, fun _ => rfl, id, id, fun h => ⟨h, id⟩, .inl⟩

theorem Point.Eases.trans {x y z : Point} (a : x.Eases y) (b : y.Eases z) : x.Eases z where
  tag := b.tag.trans a.tag
  config h := (b.config (a.tag ▸ h)).trans (a.config h)
  duties h := b.duties (a.duties h)
  lifted h := b.lifted (a.lifted h)
  busy h := ⟨(a.busy (b.busy h).1).1, fun n => (b.busy h).2 ((a.busy (b.busy h).1).2 n)⟩
  settling h := by
    rcases b.settling h with h | h
    · exact a.settling h
    · exact .inr (a.busy h).1

/-- A point that keeps tag, configuration, state, nozzle and duties. -/
theorem Point.Eases.of_same {x x' : Point} (tag : x'.tag = x.tag) (config : x'.config = x.config)
    (state : x'.state = x.state) (nozzle : x'.nozzle = x.nozzle) (stage : x'.stageDuty = x.stageDuty)
    (duty : x'.dutyInForce = x.dutyInForce) : x.Eases x' where
  tag := tag
  config _ := config
  duties h := by rw [state, stage, duty]; exact h
  lifted h := by rw [state, nozzle]; exact h
  busy h := ⟨state ▸ h, by rw [nozzle]; exact id⟩
  settling h := .inl (state ▸ h)

/-- A point whose valve is closed and that neither primes nor settles. -/
theorem Point.Eases.of_quiet {x x' : Point} (tag : x'.tag = x.tag) (config : x.tag ≠ none → x'.config = x.config)
    (quiet : x'.state.blocksSettlement = false)
    (duties : (x.state.isOpen = false → x.stageDuty = 0 ∧ x.dutyInForce = 0) → x'.stageDuty = 0 ∧ x'.dutyInForce = 0)
    (lifted : x'.state = .lifted → x'.nozzle = true) : x.Eases x' where
  tag := tag
  config := config
  duties h _ := duties h
  lifted _ := lifted
  busy h := by rw [(blocksSettlement_iff _).mpr (.inl h)] at quiet; exact absurd quiet (by simp)
  settling h := by rw [(blocksSettlement_iff _).mpr (.inr h)] at quiet; exact absurd quiet (by simp)

theorem Point.Eases.settlingFrom {x : Point} (n : Nat) (busy : x.state.isOpenOrPriming = true) :
    x.Eases (x.settlingFrom n) where
  tag := rfl
  config _ := rfl
  duties _ _ := ⟨rfl, by simp [Point.settlingFrom, Point.withStage]⟩
  lifted _ h := absurd h (by simp)
  busy h := absurd h (by simp)
  settling _ := .inr busy

theorem Point.Eases.opened {x : Point} (primes : x.state.isOpenOrPriming = true) (residual : Int)
    (margin full slow code : Nat) : x.Eases (x.opened residual margin full slow code) := by
  have isOpen := opened_isOpen x residual margin full slow code
  refine ⟨?_, fun _ => ?_, fun _ h => ?_, fun _ h => ?_, fun _ => ⟨primes, ?_⟩, fun h => ?_⟩
  · unfold Point.opened; split <;> rfl
  · unfold Point.opened; split <;> rfl
  · exact absurd (isOpen.symm.trans h) (by simp)
  · rw [h] at isOpen; exact absurd isOpen (by decide)
  · unfold Point.opened; split <;> exact id
  · rw [h] at isOpen; exact absurd isOpen (by decide)

/-- What may become of a grant while its points are as state `s` has them: it keeps its attached points and their
records, is not armed again, and stays FUELING and OPEN where one of its points primes or delivers. -/
structure Grant.Serves (s : State) (g g' : Grant) : Prop where
  follows : g.Follows g'
  attached : g'.attached = g.attached
  meters : ∀ l p, g.meters l p → g'.meters l p
  rearmed : g'.state = .armed → g.state = .armed
  busy : ∀ p ∈ g.attached, (s.point p).state.isOpenOrPriming = true → g.state = .fueling →
    g'.state = .fueling ∧ ∀ c, (s.point p).config = some c → g.openOn c.line = true → g'.openOn c.line = true

/-- A grant that keeps tag, lane, state, service, allowances and attached points. -/
theorem Grant.Serves.of_same {s : State} {g g' : Grant} (tag : g'.tag = g.tag) (lane : g'.lane = g.lane)
    (state : g'.state = g.state) (served : g'.served = g.served) (allowances : g'.allowances = g.allowances)
    (attached : g'.attached = g.attached) : g.Serves s g' where
  follows := ⟨tag, lane, .inl ⟨state, served⟩⟩
  attached := attached
  meters l p h := by unfold Grant.meters Grant.allowanceOn; rw [allowances]; exact h
  rearmed h := state ▸ h
  busy p _ _ fueling :=
    ⟨state.trans fueling, fun c _ h => by unfold Grant.openOn Grant.allowanceOn; rw [allowances]; exact h⟩

theorem Grant.Serves.refl (s : State) (g : Grant) : g.Serves s g := .of_same rfl rfl rfl rfl rfl rfl

/-- A change of state between arming and settlement, while no attached point primes or delivers. -/
theorem Grant.Serves.of_state {s : State} {g g' : Grant} (tag : g'.tag = g.tag) (lane : g'.lane = g.lane)
    (allowances : g'.allowances = g.allowances) (attached : g'.attached = g.attached)
    (draws : g.state.drawsOnLine = true) (draws' : g'.state.drawsOnLine = true)
    (rearmed : g'.state = .armed → g.state = .armed)
    (closed : g.state = .fueling → ∀ p ∈ g.attached, (s.point p).state.isOpenOrPriming = false) : g.Serves s g' where
  follows := ⟨tag, lane, .inr ⟨draws, draws'⟩⟩
  attached := attached
  meters l p h := by unfold Grant.meters Grant.allowanceOn; rw [allowances]; exact h
  rearmed := rearmed
  busy p hp primes fueling := absurd (closed fueling p hp) (by simp [primes])

/-- From `s` to `t` every point is eased, every grant serves on, and an open or priming point still has a running site
and a line that is not locked out. -/
structure Eases (s t : State) : Prop where
  grants : ∀ i, Option.Rel (Grant.Serves t) (s.grantAt i) (t.grantAt i)
  pendingTags : t.gm.pendingTags = s.gm.pendingTags
  settledTags : t.gm.settledTags = s.gm.settledTags
  points : ∀ p, (s.point p).Eases (t.point p)
  site : ∀ p, (t.point p).state.isOpenOrPriming = true → s.ss.site = .running → t.ss.site = .running
  lines : ∀ p c, (t.point p).state.isOpenOrPriming = true → (t.point p).config = some c →
    (s.line c.line).state ≠ .lockedOut → (t.line c.line).state ≠ .lockedOut

theorem Eases.moves {s t : State} (h : Eases s t) : Moves s t := by
  refine ⟨fun i => ?_, h.pendingTags, h.settledTags⟩
  have rel := h.grants i
  generalize s.grantAt i = x, t.grantAt i = y at rel
  cases rel with
  | none => exact .none
  | some serves => exact .some serves.follows

theorem Eases.back {s t : State} (h : Eases s t) {i : Fin 24} {g' : Grant} (hg : t.grantAt i = some g') :
    ∃ g, s.grantAt i = some g ∧ g.Serves t g' := by
  have rel := h.grants i
  rw [hg] at rel
  generalize s.grantAt i = x at rel ⊢
  cases rel with | some f => exact ⟨_, rfl, f⟩

theorem Eases.forth {s t : State} (h : Eases s t) {i : Fin 24} {g : Grant} (hg : s.grantAt i = some g) :
    ∃ g', t.grantAt i = some g' ∧ g.Serves t g' := by
  have rel := h.grants i
  rw [hg] at rel
  generalize t.grantAt i = x at rel ⊢
  cases rel with | some f => exact ⟨_, rfl, f⟩

theorem sale_follows {g g' : Grant} {s : State} (h : g.Serves s g')
    (state : g.state = .fueling ∨ g.state = .held ∨ g.state = .closing) :
    g'.state = .fueling ∨ g'.state = .held ∨ g'.state = .closing := by
  have not_armed : g'.state ≠ .armed := fun e => by rw [h.rearmed e] at state; simp at state
  obtain ⟨_, _, ⟨same, _⟩ | ⟨_, draws⟩⟩ := h.follows
  · rw [same]; exact state
  · generalize g'.state = x at *
    cases x <;> simp_all [GrantState.drawsOnLine]

theorem Delivers.eases {s t : State} (law : Delivers s) (h : Eases s t) : Delivers t where
  grants := law.grants.moves h.moves
  valves p := by
    obtain ⟨duties, primes, lifted⟩ := law.valves p
    refine ⟨(h.points p).duties duties, fun busy => ?_, (h.points p).lifted lifted⟩
    obtain ⟨before, nozzle⟩ := (h.points p).busy busy
    obtain ⟨down, running, c, config, unlocked⟩ := primes before
    obtain ⟨i, g, _, hg, hp, _⟩ := law.busy p before
    have same := (h.points p).config (by rw [law.tag_of_attached hg hp]; simp)
    exact ⟨nozzle down, h.site p busy running, c, same.trans config, h.lines p c busy (same.trans config) unlocked⟩
  tags p tag := by
    rw [(h.points p).tag, law.tags p tag]
    constructor
    · rintro ⟨i, g, hg, rfl, hp⟩
      obtain ⟨g', hg', serves⟩ := h.forth hg
      exact ⟨i, g', hg', serves.follows.1, serves.attached ▸ hp⟩
    · rintro ⟨i, g', hg', rfl, hp⟩
      obtain ⟨g, hg, serves⟩ := h.back hg'
      exact ⟨i, g, hg, serves.follows.1.symm, serves.attached ▸ hp⟩
  unarmed i g' hg' state := by
    obtain ⟨g, hg, serves⟩ := h.back hg'
    rw [serves.attached]
    obtain ⟨_, _, ⟨same, _⟩ | ⟨_, draws⟩⟩ := serves.follows
    · exact law.unarmed i g hg (same ▸ state)
    · rcases state with e | e <;> rw [e] at draws <;> exact absurd draws (by decide)
  ties i g' hg' p hp := by
    obtain ⟨g, hg, serves⟩ := h.back hg'
    rw [serves.attached] at hp
    obtain ⟨lane, c, config, meters⟩ := law.ties i g hg p hp
    have same := (h.points p).config (by rw [law.tag_of_attached hg hp]; simp)
    exact ⟨serves.follows.2.1 ▸ lane, c, same.trans config, serves.meters _ _ meters⟩
  busy p busy := by
    obtain ⟨i, g, c, hg, hp, fueling, config, isOpen⟩ := law.busy p ((h.points p).busy busy).1
    obtain ⟨g', hg', serves⟩ := h.forth hg
    have same := (h.points p).config (by rw [law.tag_of_attached hg hp]; simp)
    obtain ⟨fueling', opens⟩ := serves.busy p hp busy fueling
    exact ⟨i, g', c, hg', serves.attached ▸ hp, fueling', same.trans config, opens c (same.trans config) isOpen⟩
  settling p settling := by
    have owner : ∃ i g, s.grantAt i = some g ∧ p ∈ g.attached
        ∧ (g.state = .fueling ∨ g.state = .held ∨ g.state = .closing) := by
      rcases (h.points p).settling settling with e | e
      · exact law.settling p e
      · obtain ⟨i, g, c, hg, hp, fueling, _⟩ := law.busy p e
        exact ⟨i, g, hg, hp, .inl fueling⟩
    obtain ⟨i, g, hg, hp, state⟩ := owner
    obtain ⟨g', hg', serves⟩ := h.forth hg
    exact ⟨i, g', hg', serves.attached ▸ hp, sale_follows serves state⟩

/-! ### Single changes that ease -/

theorem optionRel_serves (s : State) (g : Option Grant) : Option.Rel (Grant.Serves s) g g := by
  cases g with
  | none => exact .none
  | some g => exact .some (.refl s g)

/-- The grants and the points as they were, a running site still running, and no line newly locked out. -/
theorem Eases.of_lines {s t : State} (gm : t.gm = s.gm) (points : t.points = s.points)
    (site : s.ss.site = .running → t.ss.site = .running) (lines : ∀ l, (t.line l).state = .lockedOut → (s.line l).state = .lockedOut) :
    Eases s t where
  grants i := by rw [grantAt_of_gm gm]; exact optionRel_serves t _
  pendingTags := by rw [gm]
  settledTags := by rw [gm]
  points p := by rw [point_of_points points]; exact .refl _
  site _ _ h := site h
  lines p c _ _ h e := h (lines c.line e)

theorem Eases.of_sameForecourt {s t : State} (h : SameForecourt s t) : Eases s t :=
  .of_lines h.gm h.points (h.site ▸ id) fun l e => by rwa [h.line] at e

theorem Eases.refl (s : State) : Eases s s := .of_sameForecourt (.refl s)

theorem eases_setPoint {s : State} {p : Fin 32} {x : Point} (h : (s.point p).Eases x) : Eases s (s.setPoint p x) where
  grants i := optionRel_serves _ _
  pendingTags := rfl
  settledTags := rfl
  points q := by
    rw [setPoint_point]
    split
    · next e => subst e; exact h
    · exact .refl _
  site _ _ h := h
  lines _ _ _ _ h := h

theorem eases_modGrant {s : State} {i : Fin 24} {f : Grant → Grant}
    (serves : ∀ g, s.grantAt i = some g → g.Serves s (f g)) : Eases s (s.modGrant i f) where
  grants j := by
    rw [modGrant_grantAt]
    split
    · next e =>
      subst e
      cases hg : s.grantAt j with
      | none => exact .none
      | some g =>
        obtain ⟨follows, attached, meters, rearmed, busy⟩ := serves g hg
        exact .some ⟨follows, attached, meters, rearmed, busy⟩
    · exact optionRel_serves _ _
  pendingTags := rfl
  settledTags := rfl
  points p := .refl _
  site _ _ h := h
  lines _ _ _ _ h := h

theorem setSlot_eq_modGrant {s : State} {i : Fin 24} {g g' : Grant} (hg : s.grantAt i = some g) :
    s.setSlot i (some g') = s.modGrant i fun _ => g' := by
  simp [State.modGrant, hg]

theorem eases_setSlot {s : State} {i : Fin 24} {g g' : Grant} (hg : s.grantAt i = some g) (serves : g.Serves s g') :
    Eases s (s.setSlot i (some g')) := by
  rw [setSlot_eq_modGrant hg]
  refine eases_modGrant fun k hk => ?_
  rw [← Option.some.inj (hg.symm.trans hk)]
  exact serves

theorem delivers_foldl {α : Type} {f : State → α → State} (each : ∀ {s x}, Delivers s → Delivers (f s x)) (xs : List α)
    {s : State} (law : Delivers s) : Delivers (xs.foldl f s) :=
  foldl_keeps (fun _ _ h => each h) xs s law

/-! ### Withdrawals, close orders and slow orders -/

theorem eases_withdrawOwn (p : Fin 32) (s : State) : Eases s (withdrawOwn p s) := by
  refine .of_lines (by simp) (by simp) (by simp) fun l h => ?_
  rw [withdrawOwn_line] at h
  split at h
  · simpa using h
  · exact h

theorem eases_point_close (x : Point) (n : Nat) (c : Prop) [Decidable c] (busy : c → x.state.isOpenOrPriming = true) :
    x.Eases (if c then x.settlingFrom n else x) := by
  split
  · exact .settlingFrom n (busy ‹c›)
  · exact .refl x

theorem eases_closeOrders (ps : List (Fin 32)) (s : State) : Eases s (closeOrders ps s) where
  grants i := by rw [closeOrders_grantAt]; exact optionRel_serves _ _
  pendingTags := by simp
  settledTags := by simp
  points q := by rw [closeOrders_point]; exact eases_point_close _ _ _ fun h => h.2
  site _ _ h := by simpa using h
  lines p c _ _ h := by
    rw [closeOrders_line_kept (·.state) (fun x p => withoutRequest_state x p)]
    exact h

/-- The points a close order reaches are no longer open. -/
theorem closeOrders_closed {ps : List (Fin 32)} {p : Fin 32} (s : State) (hp : p ∈ ps) :
    ((closeOrders ps s).point p).state.isOpenOrPriming = false := by
  rw [closeOrders_point]
  split
  · rfl
  · next h => simpa [hp] using h

theorem withdrawPump_setSlot (p : Fin 32) (l : Fin 4) (i : Fin 24) (x : Option Grant) (s : State) :
    withdrawPump p l (s.setSlot i x) = (withdrawPump p l s).setSlot i x := by
  unfold withdrawPump
  rw [setSlot_line]
  split <;> rfl

theorem closeOrder_setSlot (p : Fin 32) (i : Fin 24) (x : Option Grant) (s : State) :
    closeOrder p (s.setSlot i x) = (closeOrder p s).setSlot i x := by
  unfold closeOrder closeValve withdrawOwn
  rw [setSlot_point]
  split
  · simp only [setPoint_point, if_true, setSlot_cp]
    split
    · exact withdrawPump_setSlot p _ i x (s.setPoint p ((s.point p).settlingFrom s.cp.timers.settle))
    · rfl
  · rfl

/-- Close orders read no grant, so they may be taken before a grant changes. -/
theorem closeOrders_setSlot (ps : List (Fin 32)) (i : Fin 24) (x : Option Grant) (s : State) :
    closeOrders ps (s.setSlot i x) = (closeOrders ps s).setSlot i x := by
  induction ps generalizing s with
  | nil => rfl
  | cons p rest ih =>
    have step : ∀ s, closeOrders (p :: rest) s = closeOrders rest (closeOrder p s) := fun _ => rfl
    rw [step, step, closeOrder_setSlot, ih]

theorem closeOrders_modGrant (ps : List (Fin 32)) (i : Fin 24) (f : Grant → Grant) (s : State) :
    closeOrders ps (s.modGrant i f) = (closeOrders ps s).modGrant i f := by
  unfold State.modGrant
  rw [closeOrders_setSlot, closeOrders_grantAt]

theorem eases_slowOrder (p : Fin 32) (s : State) : Eases s (slowOrder p s) := by
  unfold slowOrder
  split
  · next flowing _ =>
    refine eases_setPoint ⟨rfl, fun _ => rfl, fun _ h => absurd h (by simp [PointState.isOpen]), fun _ h => ?_, fun _ => ?_, fun h => ?_⟩
    · exact absurd h (by simp)
    · rw [flowing]; exact ⟨rfl, id⟩
    · exact absurd h (by simp)
  · exact .refl s

theorem delivers_slowOrders (ps : List (Fin 32)) {s : State} (law : Delivers s) : Delivers (slowOrders ps s) :=
  delivers_foldl (f := fun s p => slowOrder p s) (fun h => h.eases (eases_slowOrder ..)) ps law

/-! ### Settlement, closing and holding -/

theorem delivers_settleCore {i : Fin 24} {s : State} (law : Delivers s)
    (quiet : ∀ g, s.grantAt i = some g → ∀ p ∈ g.attached, (s.point p).state.blocksSettlement = false) :
    Delivers (settleCore i s) := by
  cases hg : s.grantAt i with
  | none => rw [settleCore_unchanged fun g h => by simp [hg] at h]; exact law
  | some g =>
    by_cases live : g.state = .settled
    · rw [settleCore_unchanged fun h e => by simp_all]; exact law
    have still := quiet g hg
    have state : ∀ p, ((settleCore i s).point p).state = (s.point p).state := fun p => by
      rw [settleCore_point hg live]; split <;> rfl
    have config : ∀ p, ((settleCore i s).point p).config = (s.point p).config := fun p => by
      rw [settleCore_point hg live]; split <;> rfl
    -- a grant other than the settled one is where it was, and a busy point is not attached to the settled one
    have kept : ∀ {p : Fin 32} {j : Fin 24} {h : Grant}, (s.point p).state.blocksSettlement = true →
        s.grantAt j = some h → p ∈ h.attached → (settleCore i s).grantAt j = some h := by
      intro p j h blocks hh hp
      have ne : j ≠ i := by
        rintro rfl
        obtain rfl := Option.some.inj (hg.symm.trans hh)
        rw [still p hp] at blocks
        exact absurd blocks (by simp)
      rw [settleCore_grantAt hg live, if_neg ne, hh]
    have old : ∀ {j : Fin 24} {h : Grant}, (settleCore i s).grantAt j = some h →
        j = i ∧ h = g.settledForm ∨ j ≠ i ∧ s.grantAt j = some h := by
      intro j h hj
      rw [settleCore_grantAt hg live] at hj
      split at hj
      · exact .inl ⟨‹_›, (Option.some.inj hj).symm⟩
      · exact .inr ⟨‹_›, hj⟩
    refine ⟨grantLaw_settleCore i law.grants, fun p => ?_, fun p tag => ?_, fun j h hj ended => ?_,
      fun j h hj p hp => ?_, fun p busy => ?_, fun p settling => ?_⟩
    · have valve := law.valves p
      rw [settleCore_point hg live, settleCore_ss]
      simp only [line_of_lines (settleCore_lines i s)]
      split <;> exact valve
    · rw [settleCore_point hg live]
      split
      · next hp =>
        refine ⟨fun h => absurd h (by simp), ?_⟩
        rintro ⟨j, h, hj, _, hp'⟩
        rcases old hj with ⟨_, rfl⟩ | ⟨ne, hj⟩
        · exact absurd hp' (by simp [Grant.settledForm])
        · exact absurd (law.owner_unique hj hp' hg hp) ne
      · next hp =>
        rw [law.tags p tag]
        constructor
        · rintro ⟨j, h, hj, rfl, hp'⟩
          have ne : j ≠ i := by
            rintro rfl
            obtain rfl := Option.some.inj (hg.symm.trans hj)
            exact hp hp'
          exact ⟨j, h, by rw [settleCore_grantAt hg live, if_neg ne, hj], rfl, hp'⟩
        · rintro ⟨j, h, hj, rfl, hp'⟩
          rcases old hj with ⟨_, rfl⟩ | ⟨_, hj⟩
          · exact absurd hp' (by simp [Grant.settledForm])
          · exact ⟨j, h, hj, rfl, hp'⟩
    · rcases old hj with ⟨_, rfl⟩ | ⟨_, hj⟩
      · rfl
      · exact law.unarmed j h hj ended
    · rcases old hj with ⟨_, rfl⟩ | ⟨_, hj⟩
      · exact absurd hp (by simp [Grant.settledForm])
      · rw [config]; exact law.ties j h hj p hp
    · rw [state] at busy
      obtain ⟨j, h, c, hj, hp, rest⟩ := law.busy p busy
      exact ⟨j, h, c, kept ((blocksSettlement_iff _).mpr (.inl busy)) hj hp, hp, by rw [config]; exact rest⟩
    · rw [state] at settling
      obtain ⟨j, h, hj, hp, rest⟩ := law.settling p settling
      exact ⟨j, h, kept ((blocksSettlement_iff _).mpr (.inr settling)) hj hp, hp, rest⟩

theorem eases_haltTest (s : State) : Eases s (haltTest s) := by
  refine .of_lines (by simp) (by simp) ?_ fun l h => by simpa [line_of_lines (haltTest_lines s)] using h
  intro running
  rw [haltTest_unchanged (by simp [running])]
  exact running

theorem delivers_settle {i : Fin 24} {s : State} (law : Delivers s)
    (quiet : ∀ g, s.grantAt i = some g → ∀ p ∈ g.attached, (s.point p).state.blocksSettlement = false) :
    Delivers (settle i s) :=
  (delivers_settleCore law quiet).eases (eases_haltTest _)

theorem quiet_of_completionDue {i : Fin 24} {s : State} (due : s.completionDue i = true) :
    ∀ g, s.grantAt i = some g → ∀ p ∈ g.attached, (s.point p).state.blocksSettlement = false := by
  obtain ⟨g, hg, _, quiet⟩ := completionDue_iff.mp due
  intro k hk
  rw [← Option.some.inj (hg.symm.trans hk)]
  exact quiet

theorem delivers_completionTest (i : Fin 24) {s : State} (law : Delivers s) : Delivers (completionTest i s) := by
  rcases completionTest_cases i s with h | ⟨due, h⟩ <;> rw [h]
  · exact law
  · exact delivers_settle law (quiet_of_completionDue due)

theorem delivers_reportExit (p : Fin 32) {s : State} (law : Delivers s) : Delivers (reportExit p s) := by
  unfold reportExit
  split
  · exact delivers_completionTest _ law
  · exact law

theorem serves_recordOutcome (s : State) (g : Grant) (r : EndReason) : g.Serves s (g.recordOutcome r) :=
  .of_same rfl rfl rfl rfl rfl rfl

theorem delivers_endNow {i : Fin 24} {g : Grant} (r : EndReason) {s : State} (law : Delivers s)
    (hg : s.grantAt i = some g) (state : g.state = .pending ∨ g.state = .armed) : Delivers (endNow i r s) := by
  have recorded : Delivers (s.modGrant i (·.recordOutcome r)) :=
    law.eases (eases_modGrant fun k _ => serves_recordOutcome s k r)
  refine delivers_settle recorded fun k hk => recorded.quiet hk ?_
  simp only [modGrant_grantAt, if_true, hg, Option.map_some, Option.some.injEq] at hk
  rw [← hk]
  rcases state with e | e <;> simp [Grant.recordOutcome, e]

/-- Close orders to all points of a sale and then another of its states. -/
theorem delivers_closing {i : Fin 24} {g g' : Grant} {s : State} (law : Delivers s) (hg : s.grantAt i = some g)
    (tag : g'.tag = g.tag) (lane : g'.lane = g.lane) (allowances : g'.allowances = g.allowances)
    (attached : g'.attached = g.attached) (draws : g.state.drawsOnLine = true) (draws' : g'.state.drawsOnLine = true)
    (rearmed : g'.state = .armed → g.state = .armed) : Delivers (closeOrders g.attached (s.setSlot i (some g'))) := by
  rw [closeOrders_setSlot]
  refine (law.eases (eases_closeOrders g.attached s)).eases (eases_setSlot (by rw [closeOrders_grantAt, hg]) ?_)
  exact .of_state tag lane allowances attached draws draws' rearmed fun _ p hp => closeOrders_closed s hp

theorem delivers_enterClosingCore {i : Fin 24} (r : EndReason) {s : State} (law : Delivers s)
    (draws : ∀ g, s.grantAt i = some g → g.state.drawsOnLine = true) : Delivers (enterClosingCore i r s) := by
  unfold enterClosingCore
  split
  · next g hg =>
    exact delivers_closing law hg rfl rfl rfl rfl (draws g hg) rfl (by simp [Grant.closingForm])
  · exact law

theorem delivers_enterClosing {i : Fin 24} (r : EndReason) {s : State} (law : Delivers s)
    (draws : ∀ g, s.grantAt i = some g → g.state.drawsOnLine = true) : Delivers (enterClosing i r s) :=
  delivers_completionTest i (delivers_enterClosingCore r law draws)

theorem delivers_enterHeld {i : Fin 24} {s : State} (law : Delivers s)
    (draws : ∀ g, s.grantAt i = some g → g.state.drawsOnLine = true) : Delivers (enterHeld i s) := by
  unfold enterHeld
  split
  · next g hg =>
    exact delivers_closing law hg rfl rfl rfl rfl (draws g hg) rfl (by simp [Grant.heldForm])
  · exact law

theorem eases_startWaitTimer (i : Fin 24) (s : State) : Eases s (startWaitTimer i s) := by
  unfold startWaitTimer
  split
  · next g hg =>
    split
    · refine eases_setSlot hg ?_
      split <;> exact .of_same rfl rfl rfl rfl rfl rfl
    · exact .refl s
  · exact .refl s

theorem eases_reportHangUp (p : Fin 32) (s : State) : Eases s (reportHangUp p s) := by
  unfold reportHangUp
  split
  · exact eases_startWaitTimer ..
  · exact .refl s

/-! ### Priming and opening -/

theorem Delivers.priming {i : Fin 24} {g : Grant} {c : PointConfig} {p : Fin 32} {s : State} (law : Delivers s)
    (hg : s.grantAt i = some g) (hp : p ∈ g.attached) (fueling : g.state = .fueling)
    (config : (s.point p).config = some c) (isOpen : g.openOn c.line = true) (down : (s.point p).nozzle = true)
    (running : s.ss.site = .running) (unlocked : (s.line c.line).state ≠ .lockedOut)
    (closed : (s.point p).state.isOpen = false) : Delivers (s.setPoint p { s.point p with state := .priming }) where
  grants := law.grants.of_gm rfl
  valves q := by
    rw [setPoint_point]
    split
    · next e =>
      subst e
      exact ⟨fun _ => (law.valves q).1 closed, fun _ => ⟨down, running, c, config, unlocked⟩, fun _ => down⟩
    · exact law.valves q
  tags q tag := by
    rw [setPoint_point]
    split
    · next e => subst e; exact law.tags q tag
    · exact law.tags q tag
  unarmed := law.unarmed
  ties j h hh q hq := by
    rw [setPoint_point]
    split
    · next e => subst e; exact law.ties j h hh q hq
    · exact law.ties j h hh q hq
  busy q busy := by
    rw [setPoint_point] at busy ⊢
    split
    · next e => subst e; exact ⟨i, g, c, hg, hp, fueling, config, isOpen⟩
    · next ne => rw [if_neg ne] at busy; exact law.busy q busy
  settling q settling := by
    rw [setPoint_point] at settling
    split at settling
    · exact absurd settling (by simp)
    · exact law.settling q settling

theorem withRequest_state (x : Line) (p : Fin 32) : (x.withRequest p).state = x.state := by
  unfold Line.withRequest; split <;> rfl

theorem eases_requestPump (p : Fin 32) (l : Fin 4) (s : State) : Eases s (requestPump p l s).1 := by
  refine .of_lines (by simp) (by simp) (by simp) fun k h => ?_
  unfold requestPump at h
  split at h
  · exact h
  · rw [setLine_line] at h
    split at h
    · next e => subst e; rwa [withRequest_state] at h
    · exact h

theorem delivers_pumpReady (p : Fin 32) {s : State} (law : Delivers s) : Delivers (pumpReady p s) := by
  unfold pumpReady
  split
  · next primes _ _ _ =>
    refine (law.eases (eases_setPoint (Point.Eases.opened ?_ _ _ _ _ _))).eases
      (eases_modGrant fun _ _ => .of_same rfl rfl rfl rfl rfl rfl)
    rw [primes]; rfl
  · exact law

theorem Delivers.enterPriming {i : Fin 24} {g : Grant} {p : Fin 32} {s : State} (law : Delivers s)
    (hg : s.grantAt i = some g) (hp : p ∈ g.attached) (fueling : g.state = .fueling)
    (isOpen : ∀ c, (s.point p).config = some c → g.openOn c.line = true ∧ (s.line c.line).state ≠ .lockedOut)
    (down : (s.point p).nozzle = true) (running : s.ss.site = .running)
    (closed : (s.point p).state.isOpen = false) : Delivers (Machine.enterPriming p s) := by
  unfold Machine.enterPriming
  split
  · next c config =>
    have requested := (law.priming hg hp fueling config (isOpen c config).1 down running (isOpen c config).2
      closed).eases (eases_requestPump p c.line _)
    split
    · exact delivers_pumpReady p requested
    · exact requested
  · exact law

end Sys2Proof.Machine
end

section
/-! PROOFS. The law of attachment and delivery where points join and leave a grant: arming, settlement on the way there,
points going out of service, and the lockout of a line. -/

namespace Sys2Proof.Machine

/-! ### A grant without points -/

/-- A slot whose grant has no point, before and after, may change in any way that keeps the grant law. -/
theorem Delivers.unattached {i : Fin 24} {s t : State} (law : Delivers s) (grants : GrantLaw t)
    (others : ∀ j, j ≠ i → t.grantAt j = s.grantAt j) (before : ∀ g, s.grantAt i = some g → g.attached = [])
    (after : ∀ g, t.grantAt i = some g → g.attached = []) (points : t.points = s.points) (lines : t.lines = s.lines)
    (site : t.ss.site = s.ss.site) : Delivers t := by
  have fwd : ∀ {j : Fin 24} {h : Grant} {p : Fin 32}, s.grantAt j = some h → p ∈ h.attached → t.grantAt j = some h := by
    intro j h p hj hp
    have ne : j ≠ i := by
      rintro rfl
      rw [before h hj] at hp
      exact absurd hp List.not_mem_nil
    rw [others j ne, hj]
  have bwd : ∀ {j : Fin 24} {h : Grant} {p : Fin 32}, t.grantAt j = some h → p ∈ h.attached → s.grantAt j = some h := by
    intro j h p hj hp
    have ne : j ≠ i := by
      rintro rfl
      rw [after h hj] at hp
      exact absurd hp List.not_mem_nil
    rw [← others j ne, hj]
  have point := point_of_points points
  refine ⟨grants, fun p => ?_, fun p tag => ?_, fun j h hj state => ?_, fun j h hj p hp => ?_, fun p busy => ?_,
    fun p settling => ?_⟩
  · have valve := law.valves p
    rw [point, site]
    simp only [line_of_lines lines]
    exact valve
  · rw [point, law.tags p tag]
    constructor
    · rintro ⟨j, h, hj, e, hp⟩; exact ⟨j, h, fwd hj hp, e, hp⟩
    · rintro ⟨j, h, hj, e, hp⟩; exact ⟨j, h, bwd hj hp, e, hp⟩
  · by_cases e : j = i
    · subst e; exact after h hj
    · exact law.unarmed j h (others j e ▸ hj) state
  · rw [point]; exact law.ties j h (bwd hj hp) p hp
  · rw [point] at busy
    obtain ⟨j, h, c, hj, hp, rest⟩ := law.busy p busy
    exact ⟨j, h, c, fwd hj hp, hp, by rw [point]; exact rest⟩
  · rw [point] at settling
    obtain ⟨j, h, hj, hp, rest⟩ := law.settling p settling
    exact ⟨j, h, fwd hj hp, hp, rest⟩

theorem underWay_none {i : Fin 24} {s : State} (h : ∀ g, s.grantAt i = some g → g.attached = []) :
    ∀ g, (underWay i s).grantAt i = some g → g.attached = [] := by
  intro g hg
  rw [underWay_grantAt, if_pos rfl] at hg
  obtain ⟨k, hk, rfl⟩ := Option.map_eq_some_iff.mp hg
  exact h k hk

theorem delivers_leavePending {i : Fin 24} {g : Grant} {s : State} (law : Delivers s) (hg : s.grantAt i = some g)
    (waits : g.state = .pending) : Delivers (underWay i (leavePending i s)) := by
  have empty := law.unarmed i g hg (.inl waits)
  refine law.unattached (i := i) (grantLaw_leavePending law.grants hg waits) (fun j ne => ?_) (fun k hk => ?_)
    (underWay_none fun k hk => ?_) (by simp [underWay, State.modGrant, State.setSlot])
    (by simp [underWay]) (by simp [underWay])
  · simp [underWay_grantAt, leavePending_grantAt hg, ne]
  · rw [← Option.some.inj (hg.symm.trans hk)]; exact empty
  · rw [leavePending_grantAt hg, if_pos rfl] at hk
    rw [← Option.some.inj hk]; exact empty

theorem delivers_createIn {i : Fin 24} {g : Grant} {s : State} (law : Delivers s) (free : s.grantAt i = none)
    (laneFree : s.laneBusy g.lane = false) (empty : g.attached = []) : Delivers (underWay i (createIn i g s)) := by
  refine law.unattached (i := i) (grantLaw_createIn law.grants free laneFree) (fun j ne => ?_)
    (fun k hk => by simp [free] at hk) (underWay_none fun k hk => ?_) rfl rfl rfl
  · simp [underWay_grantAt, createIn_grantAt, ne]
  · rw [createIn_grantAt, if_pos rfl] at hk
    rw [← Option.some.inj hk]; exact empty

/-! ### Arming (R17, R18) -/

theorem meters_armedForm {s : State} {g : Grant} {p : Fin 32} (hp : p ∈ (armedForm s g).attached) :
    p.val / 4 = g.lane.val ∧ ∃ c, (s.point p).config = some c ∧ (armedForm s g).meters c.line p := by
  obtain ⟨lane, _, _, c, config, keeps, _⟩ := mem_attachedBy hp
  refine ⟨lane, c, config, ?_⟩
  have found : ((armedForm s g).allowanceOn c.line).isSome = true := by
    rw [Grant.allowanceOn, List.find?_isSome]
    obtain ⟨b, hb, line⟩ := List.any_eq_true.mp keeps
    exact ⟨_, List.mem_map_of_mem hb, line⟩
  obtain ⟨a, ha⟩ := Option.isSome_iff_exists.mp found
  have line : a.line = c.line := by simpa using List.find?_some ha
  obtain ⟨b, hb, rfl⟩ := List.mem_map.mp (List.mem_of_find?_eq_some ha)
  obtain ⟨a₀, _, kept⟩ := List.mem_filterMap.mp hb
  obtain ⟨_, _, _, _, _, armed⟩ := armAllowance_eq_some kept
  refine ⟨_, _, ha, by rw [armed]; rfl, ?_⟩
  refine List.mem_map.mpr ⟨newRecord p c.k, List.mem_filterMap.mpr ⟨p, hp, ?_⟩, rfl⟩
  have line : c.line = b.line := line.symm
  simp [config, line]

/-- Arming a grant whose lane has no other live grant ties its points to it. -/
theorem Delivers.attaches {i : Fin 24} {g : Grant} {s : State} (law : Delivers (underWay i s))
    (hg : s.grantAt i = some g) (empty : g.attached = []) :
    Delivers (underWay i (attachAll g.tag (armedForm s g).attached (s.setSlot i (some (armedForm s g))))) := by
  have hu : (underWay i s).grantAt i = some { g with state := .armed } := by simp [underWay_grantAt, hg]
  have quiet := law.quiet hu (by simp)
  have old : ∀ {j : Fin 24} {h : Grant},
      (underWay i (attachAll g.tag (armedForm s g).attached (s.setSlot i (some (armedForm s g))))).grantAt j = some h ↔
        j = i ∧ h = { armedForm s g with state := .armed } ∨ j ≠ i ∧ (underWay i s).grantAt j = some h := by
    intro j h
    by_cases e : j = i
    · subst e; simp [underWay_grantAt, eq_comm]
    · simp [underWay_grantAt, e]
  have point : ∀ p,
      (underWay i (attachAll g.tag (armedForm s g).attached (s.setSlot i (some (armedForm s g))))).point p =
        if p ∈ (armedForm s g).attached then { s.point p with tag := some g.tag } else s.point p := fun p => by
    rw [underWay, modGrant_point, attachAll_point, setSlot_point]
  have state : ∀ p, ((underWay i (attachAll g.tag (armedForm s g).attached
      (s.setSlot i (some (armedForm s g))))).point p).state = (s.point p).state := fun p => by
    rw [point]; split <;> rfl
  have config : ∀ p, ((underWay i (attachAll g.tag (armedForm s g).attached
      (s.setSlot i (some (armedForm s g))))).point p).config = (s.point p).config := fun p => by
    rw [point]; split <;> rfl
  -- no point of the lane belongs to another grant
  have alone : ∀ {j : Fin 24} {h : Grant} {p : Fin 32}, (underWay i s).grantAt j = some h → p ∈ h.attached →
      j ≠ i ∧ p ∉ (armedForm s g).attached := by
    intro j h p hj hp
    have ne : j ≠ i := by
      rintro rfl
      rw [← Option.some.inj (hu.symm.trans hj)] at hp
      rw [empty] at hp
      exact absurd hp List.not_mem_nil
    refine ⟨ne, fun hp' => ?_⟩
    have live : h.isLive = true := by
      rw [Grant.isLive, bne_iff_ne]
      intro settled
      rw [law.unarmed j h hj (.inr settled)] at hp
      exact absurd hp List.not_mem_nil
    have same : h.lane = g.lane := Fin.ext ((law.ties j h hj p hp).1.symm.trans (meters_armedForm hp').1)
    exact ne (law.grants.2.2.1 j i h _ hj hu live rfl same)
  have grants : GrantLaw (underWay i (attachAll g.tag (armedForm s g).attached (s.setSlot i (some (armedForm s g))))) :=
    law.grants.moves (moves_underWay (fun j ne => by simp [ne]) hg (g' := armedForm s g) (by simp) rfl rfl (by simp)
      (by simp))
  refine ⟨grants, fun p => ?_, fun p tag => ?_, fun j h hj ended => ?_, fun j h hj p hp => ?_, fun p busy => ?_,
    fun p settling => ?_⟩
  · have valve := law.valves p
    rw [point]
    simp only [underWay, modGrant_ss, attachAll_ss, setSlot_ss, modGrant_line,
      line_of_lines (attachAll_lines g.tag (armedForm s g).attached (s.setSlot i (some (armedForm s g)))), setSlot_line]
    split <;> exact valve
  · have tags := law.tags p tag
    rw [point]
    split
    · next hp =>
      constructor
      · intro e
        exact ⟨i, _, old.mpr (.inl ⟨rfl, rfl⟩), Option.some.inj e, hp⟩
      · rintro ⟨j, h, hj, rfl, hp'⟩
        rcases old.mp hj with ⟨_, rfl⟩ | ⟨_, hj⟩
        · rfl
        · exact absurd hp (alone hj hp').2
    · next hp =>
      refine tags.trans ⟨?_, ?_⟩
      · rintro ⟨j, h, hj, e, hp'⟩
        exact ⟨j, h, old.mpr (.inr ⟨(alone hj hp').1, hj⟩), e, hp'⟩
      · rintro ⟨j, h, hj, e, hp'⟩
        rcases old.mp hj with ⟨_, rfl⟩ | ⟨_, hj⟩
        · exact absurd hp' hp
        · exact ⟨j, h, hj, e, hp'⟩
  · rcases old.mp hj with ⟨_, rfl⟩ | ⟨_, hj⟩
    · simp at ended
    · exact law.unarmed j h hj ended
  · rw [config]
    rcases old.mp hj with ⟨_, rfl⟩ | ⟨_, hj⟩
    · exact meters_armedForm hp
    · exact law.ties j h hj p hp
  · rw [state] at busy
    obtain ⟨j, h, c, hj, hp, rest⟩ := law.busy p busy
    exact ⟨j, h, c, old.mpr (.inr ⟨(alone hj hp).1, hj⟩), hp, by rw [config]; exact rest⟩
  · rw [state] at settling
    obtain ⟨j, h, hj, hp, rest⟩ := law.settling p settling
    exact ⟨j, h, old.mpr (.inr ⟨(alone hj hp).1, hj⟩), hp, rest⟩

theorem eases_underWay {i : Fin 24} {s t : State} {g g' : Grant} (hg : s.grantAt i = some g)
    (hg' : t.grantAt i = some g') (others : ∀ j, j ≠ i → t.grantAt j = s.grantAt j) (tag : g'.tag = g.tag)
    (lane : g'.lane = g.lane) (allowances : g'.allowances = g.allowances) (attached : g'.attached = g.attached)
    (pending : t.gm.pendingTags = s.gm.pendingTags) (settled : t.gm.settledTags = s.gm.settledTags)
    (points : t.points = s.points) (lines : t.lines = s.lines) (site : t.ss.site = s.ss.site) :
    Eases (underWay i s) (underWay i t) where
  grants j := by
    rw [underWay_grantAt, underWay_grantAt]
    by_cases e : j = i
    · subst e
      simp only [hg, hg', if_true, Option.map_some]
      exact .some (.of_state tag lane allowances attached rfl rfl (fun _ => rfl) fun h => absurd h (by simp))
    · simp only [e, if_false, others j e]
      exact optionRel_serves _ _
  pendingTags := pending
  settledTags := settled
  points p := by
    have : (underWay i t).point p = (underWay i s).point p := point_of_points points p
    rw [this]; exact .refl _
  site _ _ h := site.trans h
  lines _ c _ _ h := by
    have : (underWay i t).line c.line = (underWay i s).line c.line := line_of_lines lines c.line
    rw [this]; exact h

theorem delivers_of_underWay {i : Fin 24} {s : State} {g : Grant} (hg : s.grantAt i = some g)
    (armed : g.state = .armed) (law : Delivers (underWay i s)) : Delivers s := by
  have same : underWay i s = s := by
    have : ({ g with state := .armed } : Grant) = g := by rw [← armed]
    simp only [underWay, State.modGrant, hg, Option.map_some, this, State.setSlot]
    simp only [State.grantAt] at hg
    rw [← hg]
    simp
  rwa [same] at law

theorem delivers_settle_underWay {i : Fin 24} {s : State} {g : Grant} (hg : s.grantAt i = some g)
    (live : g.state ≠ .settled) (law : Delivers (underWay i s)) : Delivers (settle i s) := by
  have stands : (underWay i s).grantAt i = some { g with state := .armed } := by simp [underWay_grantAt, hg]
  have settled := delivers_settleCore law fun k hk => law.quiet hk (by
    rw [← Option.some.inj (stands.symm.trans hk)]; simp)
  rw [settleCore_underWay hg live] at settled
  exact settled.eases (eases_haltTest _)

theorem delivers_endNow_underWay {i : Fin 24} {s : State} {g : Grant} (r : EndReason) (hg : s.grantAt i = some g)
    (live : g.state ≠ .settled) (law : Delivers (underWay i s)) : Delivers (endNow i r s) := by
  have recorded : (s.modGrant i (·.recordOutcome r)).grantAt i = some (g.recordOutcome r) := by simp [hg]
  exact delivers_settle_underWay recorded live
    (law.eases (eases_underWay hg recorded (fun j ne => by simp [ne]) rfl rfl rfl rfl rfl rfl rfl rfl rfl))

theorem delivers_armingEnd {i : Fin 24} {s : State} {g : Grant} (hg : s.grantAt i = some g)
    (live : g.state ≠ .settled) (law : Delivers (underWay i s)) : Delivers (armingEnd i s) := by
  have armed : Delivers (s.setSlot i (some { g with state := .armed, liftTimer := Timer.start s.cp.timers.lift })) := by
    have stands := setSlot_grantAt_self s i (some { g with state := .armed, liftTimer := Timer.start s.cp.timers.lift })
    exact delivers_of_underWay stands rfl
      (law.eases (eases_underWay hg stands (fun j ne => by simp [ne]) rfl rfl rfl rfl rfl rfl rfl rfl rfl))
  unfold armingEnd
  simp only [hg]
  split
  · exact delivers_endNow_underWay _ hg live law
  split
  · exact delivers_endNow_underWay _ hg live law
  split
  · exact armed
  · exact armed.eases (.of_sameForecourt ⟨by simp, by simp, by simp, by simp⟩)

theorem delivers_arm {i : Fin 24} {s : State} {g : Grant} (hg : s.grantAt i = some g) (live : g.state ≠ .settled)
    (empty : g.attached = []) (law : Delivers (underWay i s)) : Delivers (arm i s) := by
  rw [arming_eq hg]
  exact delivers_armingEnd (g := armedForm s g) (by simp) live (law.attaches hg empty)

/-! ### A point leaves its grant (R26) -/

/-- A point that is not busy leaves its grant: its tag and its place in the attached set go together. -/
theorem Delivers.detaches {i : Fin 24} {g : Grant} {p : Fin 32} {s : State} (law : Delivers s)
    (hg : s.grantAt i = some g) (hp : p ∈ g.attached) (quiet : (s.point p).state.blocksSettlement = false) :
    Delivers ((detach p s).setSlot i (some { g with attached := g.attached.filter (· != p) })) := by
  have old : ∀ {j : Fin 24} {h : Grant},
      ((detach p s).setSlot i (some { g with attached := g.attached.filter (· != p) })).grantAt j = some h →
        ∃ k, s.grantAt j = some k ∧ h = { k with attached := h.attached } ∧ ∀ q, q ∈ h.attached ↔ q ∈ k.attached ∧ q ≠ p := by
    intro j h hj
    rw [setSlot_grantAt] at hj
    split at hj
    · next e =>
      subst e
      obtain rfl := Option.some.inj hj
      exact ⟨g, hg, rfl, fun q => by simp⟩
    · next ne =>
      refine ⟨h, hj, rfl, fun q => ⟨fun hq => ⟨hq, ?_⟩, And.left⟩⟩
      rintro rfl
      exact ne (law.owner_unique hj hq hg hp)
  have new : ∀ {j : Fin 24} {k : Grant}, s.grantAt j = some k → ∃ h,
      ((detach p s).setSlot i (some { g with attached := g.attached.filter (· != p) })).grantAt j = some h
        ∧ h = { k with attached := h.attached } ∧ ∀ q, q ∈ h.attached ↔ q ∈ k.attached ∧ q ≠ p := by
    intro j k hk
    obtain ⟨h, hh⟩ : ∃ h, ((detach p s).setSlot i
        (some { g with attached := g.attached.filter (· != p) })).grantAt j = some h := by
      rw [setSlot_grantAt]
      split
      · exact ⟨_, rfl⟩
      · exact ⟨k, hk⟩
    obtain ⟨k', hk', rest⟩ := old hh
    obtain rfl := Option.some.inj (hk.symm.trans hk')
    exact ⟨h, hh, rest⟩
  have point : ∀ q, ((detach p s).setSlot i (some { g with attached := g.attached.filter (· != p) })).point q =
      if q = p then { s.point p with tag := none } else s.point q := fun q => by
    rw [setSlot_point, detach, setPoint_point]
  have away : ∀ {q : Fin 32}, (s.point q).state.blocksSettlement = true → q ≠ p := by
    rintro q blocks rfl
    rw [quiet] at blocks
    exact absurd blocks (by simp)
  have state : ∀ q, (((detach p s).setSlot i
      (some { g with attached := g.attached.filter (· != p) })).point q).state = (s.point q).state := fun q => by
    rw [point]; split <;> simp [*]
  have config : ∀ q, (((detach p s).setSlot i
      (some { g with attached := g.attached.filter (· != p) })).point q).config = (s.point q).config := fun q => by
    rw [point]; split <;> simp [*]
  have grants : GrantLaw ((detach p s).setSlot i (some { g with attached := g.attached.filter (· != p) })) :=
    (law.grants.of_gm (t := detach p s) rfl).moves (moves_setSlot hg ⟨rfl, rfl, .inl ⟨rfl, rfl⟩⟩)
  refine ⟨grants, fun q => ?_, fun q tag => ?_, fun j h hj ended => ?_, fun j h hj q hq => ?_, fun q busy => ?_,
    fun q settling => ?_⟩
  · have valve := law.valves q
    rw [point]
    split
    · next e => subst e; exact valve
    · exact valve
  · rw [point]
    split
    · next e =>
      subst e
      refine ⟨fun h => absurd h (by simp), ?_⟩
      rintro ⟨j, h, hj, _, hq⟩
      obtain ⟨k, _, _, mem⟩ := old hj
      exact absurd rfl ((mem q).mp hq).2
    · next ne =>
      rw [law.tags q tag]
      constructor
      · rintro ⟨j, k, hk, rfl, hq⟩
        obtain ⟨h, hh, form, mem⟩ := new hk
        exact ⟨j, h, hh, by rw [form], (mem q).mpr ⟨hq, ne⟩⟩
      · rintro ⟨j, h, hj, rfl, hq⟩
        obtain ⟨k, hk, form, mem⟩ := old hj
        exact ⟨j, k, hk, by rw [form], ((mem q).mp hq).1⟩
  · obtain ⟨k, hk, form, mem⟩ := old hj
    have none := law.unarmed j k hk (by rw [form] at ended; exact ended)
    exact List.eq_nil_iff_forall_not_mem.mpr fun q hq => by
      have := ((mem q).mp hq).1
      rw [none] at this
      exact absurd this List.not_mem_nil
  · obtain ⟨k, hk, form, mem⟩ := old hj
    rw [config, form]
    exact law.ties j k hk q ((mem q).mp hq).1
  · rw [state] at busy
    obtain ⟨j, k, c, hk, hq, rest⟩ := law.busy q busy
    obtain ⟨h, hh, form, mem⟩ := new hk
    exact ⟨j, h, c, hh, (mem q).mpr ⟨hq, away ((blocksSettlement_iff _).mpr (.inl busy))⟩, by rw [config, form]; exact rest⟩
  · rw [state] at settling
    obtain ⟨j, k, hk, hq, rest⟩ := law.settling q settling
    obtain ⟨h, hh, form, mem⟩ := new hk
    exact ⟨j, h, hh, (mem q).mpr ⟨hq, away ((blocksSettlement_iff _).mpr (.inr settling))⟩, by rw [form]; exact rest⟩

theorem delivers_leaveGrant {p : Fin 32} {s : State} (law : Delivers s)
    (quiet : (s.point p).state.blocksSettlement = false) : Delivers (leaveGrant p s) := by
  unfold leaveGrant
  split
  · next i slot =>
    obtain ⟨g, hg, hp⟩ := law.attached_of_slot slot
    have removed := law.detaches hg hp quiet
    have stands : (detach p s).grantAt i = some g := hg
    unfold removePoint
    simp only [stands]
    split
    · split
      · exact removed
      · exact removed.eases (eases_startWaitTimer ..)
    · exact delivers_completionTest i removed
    all_goals exact removed
  · next slot =>
    refine law.eases (eases_setPoint (.of_same ?_ rfl rfl rfl rfl rfl))
    exact (law.tag_of_no_slot slot).symm

theorem takenOut_eases (x : Point) : x.Eases x.takenOut :=
  .of_quiet rfl (fun _ => rfl) rfl (fun _ => ⟨rfl, by simp [Point.takenOut, Point.withStage]⟩) (by simp [Point.takenOut])

theorem delivers_outOfService (p : Fin 32) {s : State} (law : Delivers s) : Delivers (outOfService p s) := by
  have out := (law.eases (eases_setPoint (takenOut_eases (s.point p)))).eases (eases_withdrawOwn p _)
  have left := delivers_leaveGrant (p := p) out (by simp [Point.takenOut, PointState.blocksSettlement])
  refine (left.eases (eases_setPoint (p := p) (x := { (leaveGrant p _).point p with creep := 0 }) ?_)).eases
    (.of_sameForecourt ⟨rfl, rfl, rfl, rfl⟩)
  exact .of_same rfl rfl rfl rfl rfl rfl

end Sys2Proof.Machine
end

section
/-! PROOFS. The law of attachment and delivery, row by row. -/

namespace Sys2Proof.Machine

/-! ### Reports of the Point Interface -/

/-- A lift reported to the point's own grant: where the report says that the conditions are met, they are. -/
theorem delivers_liftReport {i : Fin 24} {g : Grant} {p : Fin 32} {conditions : Bool} {s : State} (law : Delivers s)
    (hg : s.grantAt i = some g) (hp : p ∈ g.attached)
    (met : conditions = true → s.liftConditions p = true ∧ (s.point p).state = .lifted) :
    Delivers (liftReport i p conditions s) := by
  have enters : ∀ {g' : Grant}, conditions = true → s.drawsOnOpen g p = true → Delivers (s.setSlot i (some g')) →
      g'.state = .fueling → g'.attached = g.attached → g'.allowances = g.allowances →
      Delivers (enterPriming p (s.setSlot i (some g'))) := by
    intro g' admitted drawn law' fueling attached allowances
    obtain ⟨conditions, lifted⟩ := met admitted
    simp only [State.liftConditions, Bool.and_eq_true, beq_iff_eq] at conditions
    refine law'.enterPriming (setSlot_grantAt_self ..) (attached ▸ hp) fueling (fun c config => ⟨?_, ?_⟩)
      ((law.valves p).2.2 lifted) conditions.1.1 (by rw [setSlot_point, lifted]; rfl)
    · have config : (s.point p).config = some c := config
      simpa [State.drawsOnOpen, config, Grant.openOn, Grant.allowanceOn, allowances] using drawn
    · have config : (s.point p).config = some c := config
      have available := conditions.1.2
      simp only [config, Option.any_some, beq_iff_eq] at available
      rw [setSlot_line, available]
      simp
  unfold liftReport
  simp only [hg]
  split
  · next armed =>
    split
    · next admitted =>
      rw [Bool.and_eq_true] at admitted
      refine enters admitted.1 admitted.2 (law.eases (eases_setSlot hg ?_)) rfl rfl rfl
      exact .of_state rfl rfl rfl rfl (by rw [armed]; rfl) rfl (by simp) (by simp [armed])
    · exact law
  · next fueling =>
    have timers : Delivers (s.setSlot i (some { g with liftTimer := .stopped, idleEndTimer := .stopped })) :=
      law.eases (eases_setSlot hg (.of_same rfl rfl rfl rfl rfl rfl))
    split
    · next admitted =>
      rw [Bool.and_eq_true] at admitted
      have := enters (g' := { g with liftTimer := .stopped, idleEndTimer := .stopped }) admitted.1 admitted.2 timers
        fueling rfl rfl
      simpa only [fueling] using this
    · simpa only [fueling] using timers
  all_goals exact law

theorem delivers_reportLift {p : Fin 32} {conditions : Bool} {s : State} (law : Delivers s)
    (met : conditions = true → s.liftConditions p = true ∧ (s.point p).state = .lifted) :
    Delivers (reportLift p conditions s) := by
  unfold reportLift
  split
  · next i slot =>
    obtain ⟨g, hg, hp⟩ := law.attached_of_slot slot
    exact delivers_liftReport law hg hp met
  · exact law

/-! ### Nozzles and points -/

theorem eases_setNozzlePin (p : Fin 32) (level : Bool) (s : State) : Eases s (setNozzlePin p level s) :=
  .of_sameForecourt ⟨rfl, rfl, rfl, rfl⟩

theorem eases_setNozzle_up (p : Fin 32) (s : State) : Eases s (setNozzle p true s) := by
  have pin := eases_setPoint (s := setNozzlePin p true s) (p := p) (x := { s.point p with nozzle := true })
    ⟨rfl, fun _ => rfl, id, fun _ _ => rfl, fun h => ⟨h, fun _ => rfl⟩, .inl⟩
  obtain ⟨grants, pending, settled, points, site, lines⟩ := pin
  exact ⟨grants, pending, settled, points, site, lines⟩

theorem delivers_nozzleLift (p : Fin 32) {s : State} (law : Delivers s) : Delivers (nozzleLift p s) := by
  have set : Delivers (setNozzle p true s) := law.eases (eases_setNozzle_up p s)
  unfold nozzleLift
  split
  · exact law.eases (eases_setNozzlePin ..)
  split
  · exact law
  unfold liftFollowed
  split
  · next idle =>
    refine delivers_reportLift (set.eases (eases_setPoint (.of_quiet rfl (fun _ => rfl) rfl ?_ ?_)))
      fun met => ⟨met, by simp⟩
    · rw [idle]; exact fun duties => duties rfl
    · intro _; simp [setNozzle]
  · exact delivers_reportLift set (by simp)
  all_goals exact set

/-- The state of a hung-up point compared with the point before the nozzle came down. -/
theorem eases_hungUp {p : Fin 32} {x : Point} {s : State} (h : (s.point p).Eases x) :
    Eases s ((setNozzle p false s).setPoint p x) where
  grants i := optionRel_serves _ _
  pendingTags := rfl
  settledTags := rfl
  points q := by
    rw [setPoint_point, setNozzle, setPoint_point]
    split
    · next e => subst e; exact h
    · exact .refl _
  site _ _ h := h
  lines _ _ _ _ h := h

theorem setNozzle_eq_setPoint (p : Fin 32) (level : Bool) (s : State) :
    setNozzle p level s = (setNozzle p level s).setPoint p { s.point p with nozzle := level } := by
  simp [setNozzle, State.setPoint]

theorem delivers_nozzleHangUp (p : Fin 32) {s : State} (law : Delivers s) : Delivers (nozzleHangUp p s) := by
  have x : (setNozzle p false s).point p = { s.point p with nozzle := false } := by simp [setNozzle]
  have down : (s.point p).state.isOpenOrPriming = false → (s.point p).state ≠ .lifted →
      Delivers (setNozzle p false s) := by
    intro closed lowered
    rw [setNozzle_eq_setPoint]
    refine law.eases (eases_hungUp ⟨rfl, fun _ => rfl, id, fun _ h => absurd h lowered, fun h => ?_, .inl⟩)
    exact absurd (closed.symm.trans h) (by simp)
  have idled : (s.point p).state.isOpen = false →
      Delivers ((setNozzle p false s).setPoint p { (setNozzle p false s).point p with state := .idle }) := by
    intro closed
    rw [x]
    exact law.eases (eases_hungUp (.of_quiet rfl (fun _ => rfl) rfl (fun duties => duties closed) (by simp)))
  have closes : (s.point p).state.isOpenOrPriming = true → Delivers (closeValve p (setNozzle p false s)) := by
    intro busy
    unfold closeValve
    rw [x]
    refine (law.eases (eases_hungUp (x := _) ?_)).eases (eases_withdrawOwn p _)
    obtain ⟨tag, config, duties, _, _, _⟩ := Point.Eases.settlingFrom s.cp.timers.settle busy
    exact ⟨tag, config, duties, fun _ h => absurd h (by simp), fun h => absurd h (by simp), fun _ => .inr busy⟩
  unfold nozzleHangUp
  split
  · exact law.eases (eases_setNozzlePin ..)
  split
  swap
  · exact law
  unfold hangUpFollowed
  rw [show ((setNozzle p false s).point p).state = (s.point p).state by rw [x]]
  split
  · next h =>
    exact delivers_reportExit p
      (((idled (by rw [h]; rfl)).eases (eases_withdrawOwn p _)).eases (eases_reportHangUp p _))
  · next h => exact (idled (by rw [h]; rfl)).eases (eases_reportHangUp p _)
  · next h => exact (closes (by rw [h]; rfl)).eases (eases_reportHangUp p _)
  · next h => exact (closes (by rw [h]; rfl)).eases (eases_reportHangUp p _)
  · next h => exact (down (by rw [h]; rfl) (by simp [h])).eases (eases_reportHangUp p _)
  all_goals next h => exact down (by rw [h]; rfl) (by simp [h])

theorem eases_noFlow (s : State) (p : Fin 32) (timer : Timer) : Eases s (s.setPoint p { s.point p with noFlow := timer }) :=
  eases_setPoint (.of_same rfl rfl rfl rfl rfl rfl)

theorem delivers_noFlowExpiry (p : Fin 32) {s : State} (law : Delivers s) : Delivers (noFlowExpiry p s) := by
  have stopped := law.eases (eases_noFlow s p .stopped)
  unfold noFlowExpiry
  split
  swap
  · exact law
  dsimp only
  split
  · split
    · next fueling => exact delivers_enterClosing _ stopped (draws_of_any fueling rfl)
    · exact stopped
  · exact stopped

theorem stepped_eases (x : Point) (phase : Fin 4) : x.Eases (x.stepped phase) := by
  unfold Point.stepped
  repeat' split
  all_goals exact .of_same rfl rfl rfl rfl rfl rfl

theorem delivers_pulserStep (p : Fin 32) (phase : Fin 4) {s : State} (law : Delivers s) :
    Delivers (pulserStep p phase s) := by
  unfold pulserStep
  split
  · exact law.eases (.of_sameForecourt ⟨rfl, rfl, rfl, rfl⟩)
  · exact (law.eases (eases_setPoint (stepped_eases (s.point p) phase))).eases
      (.of_sameForecourt ⟨rfl, rfl, rfl, rfl⟩)

theorem eases_dutyTakesForce (p : Fin 32) (s : State) : Eases s (dutyTakesForce p s) := by
  refine eases_setPoint ⟨rfl, fun _ => rfl, fun duties closed => ?_, id, fun h => ⟨h, id⟩, .inl⟩
  exact ⟨(duties closed).1, (duties closed).1⟩

theorem delivers_startExpiry (l : Fin 4) {s : State} (law : Delivers s) : Delivers (startExpiry l s) := by
  unfold startExpiry
  split
  · refine delivers_foldl (f := fun s p => pumpReady p s) (fun h => delivers_pumpReady _ h) _ (law.eases ?_)
    refine .of_lines rfl rfl id fun k h => ?_
    rw [setLine_line] at h
    split at h
    · next e => subst e; exact h
    · exact h
  · exact law

theorem eases_runOnExpiry (l : Fin 4) (s : State) : Eases s (runOnExpiry l s) := by
  unfold runOnExpiry
  split
  · refine .of_lines rfl rfl id fun k h => ?_
    rw [setLine_line] at h
    split at h
    · next e => subst e; exact h
    · exact h
  · exact .refl s

theorem eases_doPointSet (n : Nat) (arg : PointArg) (s : State) : Eases s (doPointSet n arg s).1 := by
  have settable : ∀ {x : Point}, x.settable = true → x.tag = none ∧ (x.state = .idle ∨ x.state = .disabled) := by
    intro x h
    simpa [Point.settable] using h
  unfold doPointSet
  split
  · exact .refl s
  · exact .refl s
  · split
    · next p h =>
      obtain ⟨tag, state⟩ := settable h
      refine eases_setPoint (.of_quiet rfl (fun h => absurd tag h) rfl (fun duties => duties ?_) ?_)
      · rcases state with e | e <;> rw [e] <;> rfl
      · simp [Point.disabledBy]
    · exact .refl s
  · split
    · exact .refl s
    split
    · next p _ _ _ _ _ _ c _ h =>
      obtain ⟨tag, state⟩ := settable h
      refine eases_setPoint ?_
      unfold Point.configured
      split
      · next off =>
        refine .of_quiet rfl (fun h => absurd tag h) ?_ (fun duties => duties (by rw [off]; rfl)) ?_
        · dsimp only; split <;> rfl
        · dsimp only; split
          · intro _; assumption
          · simp
      · next on =>
        have idle := state.resolve_right on
        refine .of_quiet rfl (fun h => absurd tag h) ?_ (fun duties => duties (by rw [idle]; rfl)) ?_
        · simp [Point.countersCleared, idle, PointState.blocksSettlement]
        · simp [Point.countersCleared, idle]
    · exact .refl s

theorem eases_doPointEnable (n : Nat) (s : State) : Eases s (doPointEnable n s).1 := by
  unfold doPointEnable
  split
  · exact .refl s
  split
  · exact .refl s
  next out =>
  have out : (s.point ‹Fin 32›).state = .outOfService := by simpa using out
  split
  · exact .refl s
  split
  · exact .refl s
  · exact eases_setPoint (.of_quiet rfl (fun _ => rfl) rfl (fun duties => duties (by rw [out]; rfl)) (by simp))

/-! ### Lines -/

theorem eases_setLine {s : State} {l : Fin 4} {x : Line} (h : x.state = .lockedOut → (s.line l).state = .lockedOut) :
    Eases s (s.setLine l x) := by
  refine .of_lines rfl rfl id fun k e => ?_
  rw [setLine_line] at e
  split at e
  · next same => subst same; exact h e
  · exact e

theorem delivers_doLineSet (n : Nat) (arg : LineArg) {s : State} (law : Delivers s) : Delivers (doLineSet n arg s).1 := by
  unfold doLineSet
  split
  · exact law
  · exact law
  · split
    · exact law
    · refine Delivers.eases (Delivers.eases ?_ (eases_setLine ?_)) (.of_sameForecourt (changeRotation_sameForecourt ..))
      · exact law.eases (eases_setLine (by simp))
      · simp [Line.stopped]
  · split
    · exact law
    split
    · exact law
    · exact (law.eases (eases_setLine (by simp))).eases (.of_sameForecourt (changeRotation_sameForecourt ..))

theorem eases_doPriceSet (n price : Nat) (s : State) : Eases s (doPriceSet n price s).1 := by
  unfold doPriceSet
  split
  · exact .refl s
  split
  · exact eases_setLine id
  · exact .refl s

theorem eases_doLineRestore (n : Nat) (s : State) : Eases s (doLineRestore n s).1 := by
  unfold doLineRestore
  split
  · exact .refl s
  split
  · refine eases_setLine ?_
    dsimp only
    split <;> simp
  · exact .refl s

end Sys2Proof.Machine
end

section
/-! PROOFS. The law of attachment and delivery under faults, period ends, the grant rows, the site and the tick. -/

namespace Sys2Proof.Machine

/-! ### Exhaustion of an allowance -/

theorem allowanceOn_modAllowance (g : Grant) (l k : Fin 4) {f : Allowance → Allowance} (line : ∀ a, (f a).line = a.line) :
    (g.modAllowance l f).allowanceOn k = (g.allowanceOn k).map fun a => if a.line = l then f a else a := by
  unfold Grant.allowanceOn Grant.modAllowance
  dsimp only
  rw [List.find?_map]
  congr 2
  funext a
  simp only [Function.comp]
  split <;> simp [line]

theorem allowanceOn_line {g : Grant} {l : Fin 4} {a : Allowance} (h : g.allowanceOn l = some a) : a.line = l := by
  simpa using List.find?_some h

/-- A change of one line's allowance that keeps its records keeps what every allowance meters. -/
theorem meters_modAllowance {g : Grant} {l k : Fin 4} {p : Fin 32} {f : Allowance → Allowance}
    (line : ∀ a, (f a).line = a.line)
    (records : ∀ a t, a.armed = some t → ∃ t', (f a).armed = some t' ∧ t'.records.map (·.point) = t.records.map (·.point))
    (h : g.meters k p) : (g.modAllowance l f).meters k p := by
  obtain ⟨a, t, found, armed, mem⟩ := h
  have changed : (g.modAllowance l f).allowanceOn k = some (if a.line = l then f a else a) := by
    rw [allowanceOn_modAllowance g l k line, found, Option.map_some]
  by_cases e : a.line = l
  · obtain ⟨t', armed', same⟩ := records a t armed
    exact ⟨f a, t', by rw [changed, if_pos e], armed', same ▸ mem⟩
  · exact ⟨a, t, by rw [changed, if_neg e], armed, mem⟩

theorem openOn_modAllowance_other {g : Grant} {l k : Fin 4} {f : Allowance → Allowance} (line : ∀ a, (f a).line = a.line)
    (ne : k ≠ l) : (g.modAllowance l f).openOn k = g.openOn k := by
  unfold Grant.openOn
  rw [allowanceOn_modAllowance g l k line]
  cases found : g.allowanceOn k with
  | none => rfl
  | some a => simp [allowanceOn_line found, ne]

theorem openOn_modAllowance_kept (g : Grant) (l k : Fin 4) {f : Allowance → Allowance} (line : ∀ a, (f a).line = a.line)
    (isOpen : ∀ a, (f a).isOpen = a.isOpen) : (g.modAllowance l f).openOn k = g.openOn k := by
  unfold Grant.openOn
  rw [allowanceOn_modAllowance g l k line]
  cases g.allowanceOn k with
  | none => rfl
  | some a => simp only [Option.map_some, Option.any_some]; split <;> simp [isOpen]

/-- Exhausting a line's allowance serves on where no attached point on that line primes or delivers. -/
theorem serves_exhaust {s : State} {g : Grant} {l : Fin 4}
    (closed : ∀ p ∈ g.attached, (s.point p).state.isOpenOrPriming = true →
      ∀ c, (s.point p).config = some c → c.line ≠ l) : g.Serves s (g.modAllowance l Allowance.exhaust) where
  follows := ⟨rfl, rfl, .inl ⟨rfl, rfl⟩⟩
  attached := rfl
  meters k p h := by
    refine meters_modAllowance (fun _ => rfl) (fun a t armed => ?_) h
    exact ⟨{ t with exhausted := true }, by simp [Allowance.exhaust, armed], rfl⟩
  rearmed h := h
  busy p hp primes fueling :=
    ⟨fueling, fun c config isOpen => by
      rwa [openOn_modAllowance_other (f := Allowance.exhaust) (fun _ => rfl) (closed p hp primes c config)]⟩

/-! ### Line lockout (R149, R150) -/

theorem mem_pointsOnLine {s : State} {l : Fin 4} {p : Fin 32} {c : PointConfig} (config : (s.point p).config = some c)
    (line : c.line = l) : p ∈ s.pointsOnLine l := by
  simp [State.pointsOnLine, allPoints, config, line]

theorem lineLockedOut_point (l : Fin 4) (p : Fin 32) (s : State) :
    (lineLockedOut l s).point p =
      if p ∈ s.pointsOnLine l ∧ (s.point p).state.isOpenOrPriming = true then
        (s.point p).settlingFrom s.cp.timers.settle
      else s.point p := by
  rw [lineLockedOut, closeOrders_point]
  rfl

theorem lineLockedOut_closed {l : Fin 4} {p : Fin 32} {s : State} {c : PointConfig}
    (busy : ((lineLockedOut l s).point p).state.isOpenOrPriming = true)
    (config : ((lineLockedOut l s).point p).config = some c) : c.line ≠ l := by
  intro line
  rw [lineLockedOut_point] at busy config
  split at busy
  · exact absurd busy (by simp)
  · next h =>
    rw [if_neg h] at config
    exact h ⟨mem_pointsOnLine config line, busy⟩

theorem eases_lineLockedOut (l : Fin 4) (s : State) : Eases s (lineLockedOut l s) where
  grants i := by
    rw [show (lineLockedOut l s).grantAt i = s.grantAt i from grantAt_of_gm (by simp [lineLockedOut, forcedStop]) i]
    exact optionRel_serves _ _
  pendingTags := by simp [lineLockedOut, forcedStop]
  settledTags := by simp [lineLockedOut, forcedStop]
  points p := by rw [lineLockedOut_point]; exact eases_point_close _ _ _ fun h => h.2
  site _ _ h := by simpa [lineLockedOut, forcedStop] using h
  lines p c busy config h := by
    have ne := lineLockedOut_closed busy config
    rw [lineLockedOut, closeOrders_line_kept (·.state) (fun x p => withoutRequest_state x p)]
    simpa [forcedStop, ne] using h

theorem delivers_exhaustLine {l : Fin 4} {slots : List (Fin 24)} {s : State} (law : Delivers s)
    (closed : ∀ p c, (s.point p).state.isOpenOrPriming = true → (s.point p).config = some c → c.line ≠ l) :
    Delivers (exhaustLine l slots s) := by
  have both := foldl_keeps
    (P := fun t => Delivers t ∧ ∀ p c, (t.point p).state.isOpenOrPriming = true → (t.point p).config = some c → c.line ≠ l)
    (f := fun t i => t.modGrant i (·.modAllowance l Allowance.exhaust))
    (fun t i h => ⟨h.1.eases (eases_modGrant fun g _ => serves_exhaust fun p _ busy c => h.2 p c busy), h.2⟩)
    slots s ⟨law, closed⟩
  exact both.1

theorem delivers_lockoutGrant (i : Fin 24) {s : State} (law : Delivers s) : Delivers (lockoutGrant i s) := by
  unfold lockoutGrant
  split
  · next g hg =>
    split
    · next due =>
      refine delivers_enterClosing _ law (draws_of_three ?_)
      rw [Bool.and_eq_true] at due
      rw [hg]; exact due.2
    · exact law
  · exact law

theorem eases_raiseLineLockout (l : Fin 4) (s : State) : Eases s (s.raiseLineLockout l) :=
  .of_sameForecourt ⟨rfl, rfl, rfl, rfl⟩

theorem eases_raisePointFault (p : Fin 32) (s : State) : Eases s (s.raisePointFault p) :=
  .of_sameForecourt ⟨rfl, rfl, rfl, rfl⟩

theorem delivers_lockout (l : Fin 4) {s : State} (law : Delivers s) : Delivers (lockout l s) := by
  unfold lockout
  split
  · exact law
  dsimp only
  refine Delivers.eases ?_ (eases_raiseLineLockout ..)
  refine delivers_foldl (f := fun s i => lockoutGrant i s) (fun h => delivers_lockoutGrant _ h) _ ?_
  refine Delivers.eases ?_ (.of_sameForecourt (s := exhaustLine l _ (lineLockedOut l s)) ⟨rfl, rfl, rfl, rfl⟩)
  exact delivers_exhaustLine (law.eases (eases_lineLockedOut l s)) fun p c => lineLockedOut_closed

/-! ### Creep and pulser faults -/

theorem delivers_unauthorizedFlow (p : Fin 32) {s : State} (law : Delivers s) : Delivers (unauthorizedFlow p s) := by
  refine delivers_outOfService p ?_
  split
  · split
    · next due => exact delivers_enterClosing _ law (draws_of_three due)
    · exact law
  · exact law

theorem eases_creep (s : State) (p : Fin 32) (n : Nat) : Eases s (s.setPoint p { s.point p with creep := n }) :=
  eases_setPoint (.of_same rfl rfl rfl rfl rfl rfl)

theorem delivers_creepWatch (p : Fin 32) (c : PointConfig) (n : Int) {s : State} (law : Delivers s) :
    Delivers (creepWatch p c n s) := by
  unfold creepWatch creepExcess
  split
  · dsimp only
    split
    · exact delivers_lockout _ (law.eases (eases_creep ..))
    · exact delivers_unauthorizedFlow _ (law.eases (eases_creep ..))
  · exact law.eases (eases_creep ..)

theorem delivers_pulserFault (p : Fin 32) {s : State} (law : Delivers s) : Delivers (pulserFault p s) := by
  have held : s.grantStateOfPoint p = some .fueling → Delivers (faultHold p s) := by
    intro fueling
    unfold faultHold
    split
    · next slot =>
      exact (delivers_enterHeld law (draws_of_point fueling rfl slot)).eases (eases_raisePointFault ..)
    · exact law
  have ended : s.grantStateOfPoint p = some .held → Delivers (compoundFault p s) := by
    intro held
    refine delivers_outOfService p ?_
    split
    · next slot => exact delivers_enterClosing _ law (draws_of_point held rfl slot)
    · exact law
  unfold pulserFault
  split
  · exact law
  · exact law
  · split
    · exact held ‹_›
    · exact law
  · split
    · exact held ‹_›
    · exact law
  all_goals
    split
    · exact ended ‹_›
    · exact delivers_outOfService p law

/-! ### Period ends -/

theorem serves_metered (s : State) (g : Grant) (l : Fin 4) (p : Fin 32) (n f : Int) (degrades : Bool) :
    g.Serves s (g.metered l p n f degrades) where
  follows := ⟨rfl, rfl, .inl ⟨rfl, rfl⟩⟩
  attached := rfl
  meters k q h := by
    refine meters_modAllowance (f := fun a => { a with armed := a.armed.map fun t => t.accumulate p n f })
      (fun _ => rfl) (fun a t armed => ⟨t.accumulate p n f, by simp [armed], ?_⟩) h
    simp only [Armed.accumulate, Armed.recompute, List.map_map]
    refine List.map_congr_left fun r _ => ?_
    simp only [Function.comp]
    split <;> rfl
  rearmed h := h
  busy q _ _ fueling := ⟨fueling, fun c _ isOpen => (openOn_modAllowance_kept g l c.line
    (f := fun a => { a with armed := a.armed.map fun t => t.accumulate p n f }) (fun _ => rfl) fun a => by
      cases h : a.armed <;> simp [Allowance.isOpen, h, Armed.accumulate, Armed.recompute]).trans isOpen⟩

theorem mem_attachedPoints {g : Grant} {t : Armed} {p : Fin 32} :
    p ∈ t.attachedPoints g ↔ p ∈ t.records.map (·.point) ∧ p ∈ g.attached := by
  simp [Armed.attachedPoints]

theorem delivers_evaluate (i : Fin 24) (l : Fin 4) {s : State} (law : Delivers s) : Delivers (evaluate i l s) := by
  unfold evaluate
  split
  swap
  · exact law
  next g hg =>
  split
  swap
  · exact law
  next t terms =>
  split
  · exact law
  split
  · have closed : Delivers (closeOrders (t.attachedPoints g) (s.modGrant i (·.modAllowance l Allowance.exhaust))) := by
      rw [closeOrders_modGrant]
      refine (law.eases (eases_closeOrders ..)).eases (eases_modGrant fun k hk => serves_exhaust ?_)
      rw [closeOrders_grantAt] at hk
      obtain rfl := Option.some.inj (hg.symm.trans hk)
      rintro p hp busy c config rfl
      rw [closeOrders_point_config] at config
      obtain ⟨_, c', config', a, t', found, armed, mem⟩ := law.ties i g hg p hp
      obtain rfl := Option.some.inj (config.symm.trans config')
      simp only [found, Option.bind_some, armed, Option.some.injEq] at terms
      subst terms
      have := closeOrders_closed (ps := t'.attachedPoints g) s (mem_attachedPoints.mpr ⟨mem, hp⟩)
      exact absurd (this.symm.trans busy) (by simp)
    unfold exhaustAllowance exhaustionReport
    split
    · next k hk =>
      split
      · next due =>
        refine delivers_enterClosing _ closed (draws_of_three ?_)
        rw [Bool.and_eq_true] at due
        rw [hk, Option.any_some, Bool.or_assoc, due.2, Bool.or_true]
      · exact closed
    · exact closed
  split
  · exact delivers_slowOrders _ law
  · exact law

theorem delivers_saleStep (p : Fin 32) (c : PointConfig) (n : Int) {s : State} (law : Delivers s) :
    Delivers (saleStep p c n s) := by
  unfold saleStep
  split
  · exact delivers_evaluate _ _ (law.eases (eases_modGrant fun g _ => serves_metered s g ..))
  · exact law


/-! ### A closed point's period end -/

/-- The point's valve is not open. -/
def ShutAt (p : Fin 32) (s : State) : Prop := (s.point p).state.isOpen = false

theorem shutAt_closeOrders {p : Fin 32} {s : State} (h : ShutAt p s) (ps : List (Fin 32)) : ShutAt p (closeOrders ps s) := by
  unfold ShutAt
  rw [closeOrders_point]
  split
  · rfl
  · exact h

theorem shutAt_slowOrders {p : Fin 32} {s : State} (h : ShutAt p s) (ps : List (Fin 32)) : ShutAt p (slowOrders ps s) := by
  refine foldl_keeps (P := ShutAt p) (f := fun s q => slowOrder q s) (fun t q h => ?_) ps s h
  unfold ShutAt slowOrder at *
  split
  · next flowing _ =>
    rw [setPoint_point]
    split
    · next e => subst e; rw [flowing] at h; exact absurd h (by decide)
    · exact h
  · exact h

theorem shutAt_settle {p : Fin 32} {s : State} (h : ShutAt p s) (i : Fin 24) : ShutAt p (settle i s) := by
  unfold ShutAt at *
  rw [settle, haltTest_point]
  cases hg : s.grantAt i with
  | none => rw [settleCore_unchanged fun g e => by simp [hg] at e]; exact h
  | some g =>
    by_cases live : g.state = .settled
    · rw [settleCore_unchanged fun k e => by simp_all]; exact h
    · rw [settleCore_point hg live]; split <;> exact h

theorem shutAt_enterClosing {p : Fin 32} {s : State} (h : ShutAt p s) (i : Fin 24) (r : EndReason) :
    ShutAt p (enterClosing i r s) := by
  have core : ShutAt p (enterClosingCore i r s) := by
    unfold enterClosingCore
    split
    · exact shutAt_closeOrders (s := s.setSlot ..) h _
    · exact h
  rcases enterClosing_cases i r s with e | ⟨_, e⟩ <;> rw [e]
  · exact core
  · exact shutAt_settle core i

theorem shutAt_evaluate {p : Fin 32} {s : State} (h : ShutAt p s) (i : Fin 24) (l : Fin 4) : ShutAt p (evaluate i l s) := by
  unfold evaluate
  split
  swap
  · exact h
  split
  swap
  · exact h
  split
  · exact h
  split
  · unfold exhaustAllowance exhaustionReport
    have closed := shutAt_closeOrders (s := s.modGrant i (·.modAllowance l Allowance.exhaust)) h
    split
    · split
      · exact shutAt_enterClosing (closed _) ..
      · exact closed _
    · exact closed _
  split
  · exact shutAt_slowOrders h _
  · exact h

theorem shutAt_saleStep {p : Fin 32} {s : State} (h : ShutAt p s) (q : Fin 32) (c : PointConfig) (n : Int) :
    ShutAt p (saleStep q c n s) := by
  unfold saleStep
  split
  · exact shutAt_evaluate (s := s.modGrant ..) h ..
  · exact h

theorem completionTest_point_state (i : Fin 24) (p : Fin 32) (s : State) :
    ((completionTest i s).point p).state = (s.point p).state := by
  rcases completionTest_cases i s with h | ⟨due, h⟩ <;> rw [h]
  obtain ⟨g, hg, closing, _⟩ := completionDue_iff.mp due
  rw [settle_point hg (by simp [closing])]
  split <;> rfl

theorem reportExit_point_state (p q : Fin 32) (s : State) : ((reportExit p s).point q).state = (s.point q).state := by
  unfold reportExit
  split
  · exact completionTest_point_state ..
  · rfl

theorem delivers_windowEnd (p : Fin 32) {s : State} (law : Delivers s) (shut : ShutAt p s) : Delivers (windowEnd p s) := by
  have left : ∀ state, state = .idle ∨ state = .lifted ∧ (s.point p).nozzle = true →
      Delivers (reportExit p (s.setPoint p { s.point p with state := state, settleLeft := 0, creep := 0 })) := by
    intro state free
    refine delivers_reportExit p (law.eases (eases_setPoint ?_))
    refine .of_quiet rfl (fun _ => rfl) ?_ (fun duties => duties shut) ?_
    · rcases free with rfl | ⟨rfl, _⟩ <;> rfl
    · rcases free with rfl | ⟨rfl, down⟩
      · simp
      · exact fun _ => down
  unfold windowEnd
  dsimp only
  split
  · next down =>
    refine delivers_reportLift (left .lifted (.inr ⟨rfl, down⟩)) fun met => ⟨met, ?_⟩
    rw [reportExit_point_state, setPoint_point, if_pos rfl]
  · exact left .idle (.inl rfl)

theorem delivers_pointTimers (p : Fin 32) (was : PointState) (n : Int) {s : State} (law : Delivers s)
    (shut : was = .settling → ShutAt p s) : Delivers (pointTimers p was n s) := by
  unfold pointTimers
  split
  · next settling =>
    split
    · exact delivers_windowEnd p law (shut settling)
    · exact law.eases (eases_setPoint (.of_same rfl rfl rfl rfl rfl rfl))
  split
  · exact law.eases (eases_noFlow ..)
  · exact law

theorem delivers_if {c : Prop} [Decidable c] {s t : State} (yes : Delivers s) (no : Delivers t) :
    Delivers (if c then s else t) := by
  split
  · exact yes
  · exact no

theorem delivers_periodEnd (p : Fin 32) {s : State} (law : Delivers s) : Delivers (periodEnd p s) := by
  unfold periodEnd
  split
  · exact law
  · next c _ =>
    have latched : Delivers (s.setPoint p (s.point p).latched) :=
      law.eases (eases_setPoint (.of_same rfl rfl rfl rfl rfl rfl))
    have sold := delivers_if (c := (s.point p).state.metersSale = true)
      (delivers_saleStep p c (s.point p).net latched) latched
    have shut : (s.point p).state = .settling → ShutAt p (if (s.point p).state.metersSale = true then
        saleStep p c (s.point p).net (s.setPoint p (s.point p).latched) else s.setPoint p (s.point p).latched) := by
      intro settling
      have : ShutAt p (s.setPoint p (s.point p).latched) := by simp [ShutAt, Point.latched, settling, PointState.isOpen]
      split
      · exact shutAt_saleStep this ..
      · exact this
    have timed := delivers_pointTimers p (s.point p).state (s.point p).net sold shut
    have watched := delivers_if (c := (s.point p).state.creepWatched = true)
      (delivers_creepWatch p c (s.point p).net timed) timed
    exact delivers_if (delivers_pulserFault p watched) watched

/-! ### The grant rows -/

theorem delivers_approve {i : Fin 24} {g : Grant} (es : List LimitEntry) {s : State} (law : Delivers s)
    (hg : s.grantAt i = some g) (waits : g.state = .pending) : Delivers (approve i es s) := by
  have empty := law.unarmed i g hg (.inl waits)
  have limited : (s.modGrant i (·.withLimits es)).grantAt i = some (g.withLimits es) := by simp [hg]
  have grants : GrantLaw (s.modGrant i (·.withLimits es)) :=
    law.grants.moves (moves_modGrant fun _ _ => ⟨rfl, rfl, .inl ⟨rfl, rfl⟩⟩)
  have law' : Delivers (s.modGrant i (·.withLimits es)) := by
    refine law.unattached (i := i) grants (fun j ne => by simp [ne]) (fun k hk => ?_) (fun k hk => ?_) rfl rfl rfl
    · rw [← Option.some.inj (hg.symm.trans hk)]; exact empty
    · rw [← Option.some.inj (limited.symm.trans hk)]; exact empty
  have left := leavePending_grantAt limited i
  rw [if_pos rfl] at left
  exact delivers_arm left (by simp [Grant.withLimits, waits]) empty (delivers_leavePending law' limited waits)

theorem delivers_declineGrant {i : Fin 24} {g : Grant} (code : Nat) {s : State} (law : Delivers s)
    (hg : s.grantAt i = some g) (waits : g.state = .pending) : Delivers (declineGrant i code s) := by
  have recorded := setSlot_grantAt_self s i
    (some { g.recordOutcome (.declinedHost code) with source := some .host })
  have law' : Delivers (s.setSlot i (some { g.recordOutcome (.declinedHost code) with source := some .host })) :=
    law.eases (eases_setSlot hg (.of_same rfl rfl rfl rfl rfl rfl))
  have stands := leavePending_grantAt recorded i
  rw [if_pos rfl] at stands
  have noticed := (delivers_leavePending law' recorded waits).eases
    (eases_underWay (t := queueNotice g.lane (.declined g.tag code) _) stands (by rw [queueNotice_grantAt, stands])
      (fun j _ => queueNotice_grantAt ..) rfl rfl rfl rfl (by simp) (by simp) (by simp) (by simp) (by simp))
  unfold declineGrant
  simp only [hg]
  exact delivers_settle_underWay (by rw [queueNotice_grantAt, stands]) (by simp [Grant.recordOutcome, waits]) noticed

theorem delivers_doDecide (tag : Nat) (v : Verdict) {s : State} (law : Delivers s) : Delivers (doDecide tag v s).1 := by
  unfold doDecide
  split
  · exact law
  split
  · exact law
  split
  · exact law
  next i _ _ g hg =>
  split
  · exact law
  next waits =>
  have waits : g.state = .pending := by simpa using waits
  split
  · split
    · exact delivers_approve _ law hg waits
    · exact law
  · exact delivers_declineGrant _ law hg waits
  · exact law

theorem delivers_createArmed {i : Fin 24} {s : State} {g : Grant} (law : Delivers s) (free : s.grantAt i = none)
    (laneFree : s.laneBusy g.lane = false) (live : g.state ≠ .settled) (empty : g.attached = []) :
    Delivers (arm i (createIn i g s)) := by
  have stands := createIn_grantAt i i g s
  rw [if_pos rfl] at stands
  exact delivers_arm stands live empty (delivers_createIn law free laneFree empty)

theorem delivers_doOpenGrant (lane : Nat) (es : List LimitEntry) {s : State} (law : Delivers s) :
    Delivers (doOpenGrant lane es s).1 := by
  unfold doOpenGrant
  split
  · exact law
  split
  · exact law
  split
  · exact law
  split
  · exact law
  next n _ _ _ laneFree =>
  split
  · exact law
  next i free =>
  split
  · exact law
  · exact delivers_createArmed law (freeSlot_eq_some free) (by rw [Bool.not_eq_true] at laneFree; exact laneFree)
      (by simp [attendantGrant, Grant.blank]) rfl

theorem delivers_doService {s : State} (law : Delivers s) : Delivers (doService s).1 := by
  have grants := grantLaw_doService law.grants
  unfold doService at grants ⊢
  split at grants
  · exact law
  next tag rest queue =>
  obtain ⟨k, h, hk, rfl, waits⟩ := (law.grants.2.2.2.2.1 tag).mp (by rw [queue]; exact List.mem_cons_self)
  have empty := law.unarmed k h hk (.inl waits.1)
  rw [law.grants.findTag hk] at grants ⊢
  have stands : ∀ j, ((s.modGrant k fun g => { g with served := true }).modGm fun m =>
      { m with pendingTags := rest }).grantAt j = if j = k then some { h with served := true } else s.grantAt j := by
    intro j
    rw [modGm_grantAt _ _ rfl, modGrant_grantAt]
    split
    · next e => subst e; rw [hk, Option.map_some]
    · rfl
  refine law.unattached (i := k) grants (fun j ne => ?_) (fun x hx => ?_) (fun x hx => ?_) rfl rfl rfl
  · exact (stands j).trans (if_neg ne)
  · rw [← Option.some.inj (hk.symm.trans hx)]; exact empty
  · rw [← Option.some.inj (((stands k).trans (if_pos rfl)).symm.trans hx)]; exact empty

theorem delivers_doCollect {s : State} (law : Delivers s) : Delivers (doCollect s).1 := by
  have grants := grantLaw_doCollect law.grants
  unfold doCollect at grants ⊢
  split at grants
  · exact law
  next tag rest queue =>
  obtain ⟨k, h, hk, rfl, ended⟩ := (law.grants.2.2.2.2.2.2 tag).mp (by rw [queue]; exact List.mem_cons_self)
  have empty := law.unarmed k h hk (.inr ended)
  rw [law.grants.findTag hk] at grants ⊢
  have stands : ∀ j, ((s.setSlot k none).modGm fun m => { m with settledTags := rest }).grantAt j =
      if j = k then none else s.grantAt j := by
    intro j
    rw [modGm_grantAt _ _ rfl, setSlot_grantAt]
  refine law.unattached (i := k) grants (fun j ne => ?_) (fun x hx => ?_) (fun x hx => ?_) rfl rfl rfl
  · exact (stands j).trans (if_neg ne)
  · rw [← Option.some.inj (hk.symm.trans hx)]; exact empty
  · exact absurd (((stands k).trans (if_pos rfl)).symm.trans hx) (by simp)

theorem delivers_doHold (tag : Nat) {s : State} (law : Delivers s) : Delivers (doHold tag s).1 := by
  unfold doHold
  split
  · exact law
  split
  · next fueling => exact delivers_enterHeld law (draws_of_any fueling rfl)
  · exact law

theorem pumpReady_attached (p : Fin 32) (j : Fin 24) (s : State) :
    ((pumpReady p s).grantAt j).map (·.attached) = (s.grantAt j).map (·.attached) := by
  rcases pumpReady_grantAt p j s with h | h <;> rw [h]
  rw [Option.map_map]
  rfl

theorem enterPriming_attached (p : Fin 32) (j : Fin 24) (s : State) :
    ((enterPriming p s).grantAt j).map (·.attached) = (s.grantAt j).map (·.attached) := by
  unfold enterPriming
  split
  · have requested : ∀ c : PointConfig,
        (requestPump p c.line (s.setPoint p { s.point p with state := .priming })).1.grantAt j = s.grantAt j :=
      fun c => grantAt_of_gm (by simp) j
    split
    · rw [pumpReady_attached, requested]
    · rw [requested]
  · rfl

theorem setSlot_attached {i : Fin 24} {g g' : Grant} {s : State} (hg : s.grantAt i = some g)
    (attached : g'.attached = g.attached) (j : Fin 24) :
    ((s.setSlot i (some g')).grantAt j).map (·.attached) = (s.grantAt j).map (·.attached) := by
  rw [setSlot_grantAt]
  split
  · next e => subst e; rw [hg, Option.map_some, Option.map_some, attached]
  · rfl

theorem liftReport_attached (i : Fin 24) (p : Fin 32) (conditions : Bool) (j : Fin 24) (s : State) :
    ((liftReport i p conditions s).grantAt j).map (·.attached) = (s.grantAt j).map (·.attached) := by
  unfold liftReport
  split
  · next g hg =>
    split
    · split
      · rw [enterPriming_attached]; refine setSlot_attached hg ?_ j; rfl
      · rfl
    · split
      · rw [enterPriming_attached]; refine setSlot_attached hg ?_ j; rfl
      · refine setSlot_attached hg ?_ j; rfl
    all_goals rfl
  · rfl

theorem delivers_resumeReports {i : Fin 24} {attached : List (Fin 32)} (ps : List (Fin 32)) {s : State}
    (law : Delivers s) (own : (s.grantAt i).map (·.attached) = some attached) (mine : ∀ p ∈ ps, p ∈ attached) :
    Delivers (resumeReports i ps s) := by
  induction ps generalizing s with
  | nil => exact law
  | cons p rest ih =>
    obtain ⟨g, hg, rfl⟩ := Option.map_eq_some_iff.mp own
    have hp := mine p List.mem_cons_self
    have others : ∀ q ∈ rest, q ∈ g.attached := fun q hq => mine q (List.mem_cons_of_mem p hq)
    have unfolded : resumeReports i (p :: rest) s = resumeReports i rest
        (if (s.point p).state = .lifted then liftReport i p (s.liftConditions p) s else s) := rfl
    rw [unfolded]
    split
    · next lifted =>
      exact ih (delivers_liftReport law hg hp fun met => ⟨met, lifted⟩) (by rw [liftReport_attached, own]) others
    · exact ih law own others

theorem delivers_doResume (tag : Nat) {s : State} (law : Delivers s) : Delivers (doResume tag s).1 := by
  unfold doResume
  split
  · exact law
  split
  · next i _ held =>
    unfold resumeGrant
    split
    · next g hg =>
      refine Delivers.eases ?_ (eases_startWaitTimer ..)
      refine delivers_resumeReports (attached := g.attached) g.attached (law.eases (eases_setSlot hg ?_))
        (by simp) fun _ h => h
      have state : g.state = .held := by simpa [hg] using held
      exact .of_state rfl rfl rfl rfl (by rw [state]; rfl) rfl (by simp) (by simp [state])
    · exact law
  · exact law

theorem pending_or_armed {s : State} {i : Fin 24} {x : GrantState} (h : (s.grantAt i).map Grant.state = some x)
    (state : x = .pending ∨ x = .armed) : ∃ g, s.grantAt i = some g ∧ (g.state = .pending ∨ g.state = .armed) := by
  obtain ⟨g, hg, rfl⟩ := Option.map_eq_some_iff.mp h
  exact ⟨g, hg, state⟩

theorem delivers_doStop (tag : Nat) {s : State} (law : Delivers s) : Delivers (doStop tag s).1 := by
  unfold doStop
  split
  · exact law
  split
  · next state =>
    obtain ⟨g, hg, state⟩ := pending_or_armed state (.inl rfl)
    exact delivers_endNow _ law hg state
  · next state =>
    obtain ⟨g, hg, state⟩ := pending_or_armed state (.inr rfl)
    exact delivers_endNow _ law hg state
  · next fueling => exact delivers_enterClosing _ law (draws_of_map fueling rfl)
  · next held => exact delivers_enterClosing _ law (draws_of_map held rfl)
  all_goals exact law

theorem delivers_doCancel (lane : Fin 8) (tag : Nat) {s : State} (law : Delivers s) :
    Delivers (doCancel lane tag s).1 := by
  unfold doCancel
  split
  · exact law
  split
  · exact law
  next i _ _ g hg =>
  split
  · exact law
  split
  · next pending => exact delivers_endNow _ law hg (.inl pending)
  · next armed => exact delivers_endNow _ law hg (.inr armed)
  · next fueling => exact delivers_enterClosing _ law (draws_of_state hg fueling rfl)
  · next held => exact delivers_enterClosing _ law (draws_of_state hg held rfl)
  all_goals exact law

theorem delivers_decisionExpiry (tag : Nat) {s : State} (law : Delivers s) : Delivers (decisionExpiry tag s) := by
  unfold decisionExpiry
  split
  · exact law
  split
  · exact law
  next i _ _ g hg =>
  split
  · exact law
  next waits =>
  have waits : g.state = .pending := by simp only [not_or, not_not] at waits; exact waits.2
  have empty := law.unarmed i g hg (.inl waits)
  have left := delivers_leavePending law hg waits
  have stands := leavePending_grantAt hg i
  rw [if_pos rfl] at stands
  have live : g.state ≠ .settled := by simp [waits]
  have declined : Delivers (endNow i .declinedTimeout (leavePending i s)) := delivers_endNow_underWay _ stands live left
  have raised : Delivers (underWay i (leavePending i s).raiseTallyFull) :=
    left.eases (.of_sameForecourt ⟨rfl, rfl, rfl, rfl⟩)
  dsimp only
  split
  · exact declined
  split
  · exact declined
  split
  · next c _ _ p _ _ _ =>
    have booked : Delivers (underWay i ((leavePending i s).modSu (·.book c.pan p.id))) :=
      left.eases (.of_sameForecourt ⟨rfl, rfl, rfl, rfl⟩)
    have stands' : ((leavePending i s).modSu (·.book c.pan p.id)).grantAt i = some { g with decisionTimer := .stopped } := stands
    have limited : (((leavePending i s).modSu (·.book c.pan p.id)).modGrant i
        (·.withStandin .standinTimeout (standinLimit s p))).grantAt i =
          some (({ g with decisionTimer := .stopped } : Grant).withStandin .standinTimeout (standinLimit s p)) := by
      rw [modGrant_grantAt, if_pos rfl, stands', Option.map_some]
    refine delivers_arm limited live empty (booked.unattached (i := i)
      (booked.grants.moves (moves_underWay (fun j ne => by simp [ne]) stands' limited rfl rfl rfl rfl))
      (fun j ne => by simp [underWay_grantAt, ne]) (underWay_none fun k hk => ?_) (underWay_none fun k hk => ?_)
      rfl rfl rfl)
    · rw [← Option.some.inj (stands'.symm.trans hk)]; exact empty
    · rw [← Option.some.inj (limited.symm.trans hk)]; exact empty
  · exact declined
  · exact delivers_endNow_underWay (s := (leavePending i s).raiseTallyFull) _ stands live raised

theorem delivers_liftExpiry (tag : Nat) {s : State} (law : Delivers s) : Delivers (liftExpiry tag s) := by
  unfold liftExpiry
  split
  · exact law
  split
  · exact law
  next i _ _ g hg =>
  split
  · split
    · next armed => exact delivers_endNow _ law hg (.inr armed)
    · next fueling => exact delivers_enterClosing _ law (draws_of_state hg fueling rfl)
    all_goals exact law
  · exact law

theorem delivers_idleEndExpiry (tag : Nat) {s : State} (law : Delivers s) : Delivers (idleEndExpiry tag s) := by
  unfold idleEndExpiry
  split
  · exact law
  split
  · next due => exact delivers_enterClosing _ law (draws_of_any (any_and_right due) rfl)
  · exact law

theorem delivers_holdExpiry (tag : Nat) {s : State} (law : Delivers s) : Delivers (holdExpiry tag s) := by
  unfold holdExpiry
  split
  · exact law
  split
  · next due => exact delivers_enterClosing _ law (draws_of_any (any_and_right due) rfl)
  · exact law

theorem delivers_doAuthRequest (lane : Fin 8) (request : Option AuthRequest) {s : State} (law : Delivers s) :
    Delivers (doAuthRequest lane request s).1 := by
  unfold doAuthRequest
  split
  · exact law
  split
  · exact law
  next passed =>
  have laneFree := screen_passed passed
  unfold admitRequest
  split
  · exact law
  next i free =>
  have free := freeSlot_eq_some free
  split
  · refine law.unattached (i := i) (grantLaw_acceptOnline law.grants free laneFree ⟨rfl, rfl⟩) (fun j ne => ?_)
      (fun k hk => by simp [free] at hk) (fun k hk => ?_) rfl rfl rfl
    · rw [acceptOnline, modGm_grantAt _ _ rfl, createIn_grantAt, if_neg ne]
    · rw [acceptOnline, modGm_grantAt _ _ rfl, createIn_grantAt, if_pos rfl] at hk
      rw [← Option.some.inj hk]
      rfl
  · split
    · exact delivers_createArmed (s := s.modSu _) (law.eases (.of_sameForecourt (sameForecourt_modSu ..))) free laneFree
        (by simp [Grant.withStandin, cardGrant, Grant.blank]) rfl
    · exact law
    · exact law.eases (.of_sameForecourt ⟨rfl, rfl, rfl, rfl⟩)

/-! ### The site -/

theorem delivers_haltGrant (i : Fin 24) {s : State} (law : Delivers s) : Delivers (haltGrant i s) := by
  unfold haltGrant
  split
  swap
  · exact law
  next g hg =>
  have ended : g.state = .pending ∨ g.state = .armed →
      Delivers (settleCore i (s.modGrant i (·.recordOutcome .halt))) := by
    intro state
    have recorded : Delivers (s.modGrant i (·.recordOutcome .halt)) :=
      law.eases (eases_modGrant fun k _ => serves_recordOutcome s k .halt)
    refine delivers_settleCore recorded fun k hk => recorded.quiet hk ?_
    simp only [modGrant_grantAt, if_true, hg, Option.map_some, Option.some.injEq] at hk
    rw [← hk]
    rcases state with e | e <;> simp [Grant.recordOutcome, e]
  have closing : g.state.drawsOnLine = true → Delivers (if (enterClosingCore i .halt s).completionDue i = true then
      settleCore i (enterClosingCore i .halt s) else enterClosingCore i .halt s) := by
    intro draws
    have core := delivers_enterClosingCore .halt law (draws_of_state hg rfl draws)
    split
    · next due => exact delivers_settleCore core (quiet_of_completionDue due)
    · exact core
  split
  · next pending => exact ended (.inl pending)
  · next armed => exact ended (.inr armed)
  · next fueling => exact closing (by rw [fueling]; rfl)
  · next held => exact closing (by rw [held]; rfl)
  all_goals exact law

theorem forcedStops_frame (ls : List (Fin 4)) (s : State) :
    (ls.foldl (fun s l => forcedStop l s) s).gm = s.gm ∧ (ls.foldl (fun s l => forcedStop l s) s).points = s.points :=
  ⟨foldl_unchanged (fun s => s.gm) (f := fun s l => forcedStop l s) (fun _ _ => rfl) ls s,
    foldl_unchanged (fun s => s.points) (f := fun s l => forcedStop l s) (fun _ _ => rfl) ls s⟩

theorem stopForecourt_point (p : Fin 32) (s : State) :
    (stopForecourt s).point p =
      if (s.point p).state.isOpenOrPriming = true then (s.point p).settlingFrom s.cp.timers.settle else s.point p := by
  unfold stopForecourt
  rw [point_of_points (forcedStops_frame ..).2, closeOrders_point]
  simp only [allPoints, List.mem_finRange, true_and]
  rfl

theorem stopForecourt_closed (p : Fin 32) (s : State) : ((stopForecourt s).point p).state.isOpenOrPriming = false := by
  rw [stopForecourt_point]
  split
  · rfl
  · next h => simpa using h

theorem eases_stopForecourt (s : State) : Eases s (stopForecourt s) where
  grants i := by rw [grantAt_of_gm (stopForecourt_gm s)]; exact optionRel_serves _ _
  pendingTags := by rw [stopForecourt_gm]
  settledTags := by rw [stopForecourt_gm]
  points p := by rw [stopForecourt_point]; exact eases_point_close _ _ _ id
  site p busy := by rw [stopForecourt_closed] at busy; exact absurd busy (by simp)
  lines p _ busy := by rw [stopForecourt_closed] at busy; exact absurd busy (by simp)

theorem eases_placeSiteNotice (s : State) : Eases s (placeSiteNotice s) := .of_sameForecourt ⟨rfl, rfl, rfl, rfl⟩

theorem delivers_enterHalting {s : State} (law : Delivers s) : Delivers (enterHalting s) := by
  have halted : Delivers (haltGrants (stopForecourt s)) :=
    delivers_foldl (f := fun s i => haltGrant i s) (fun h => delivers_haltGrant _ h) _ (law.eases (eases_stopForecourt s))
  exact (halted.eases (eases_placeSiteNotice _)).eases (eases_haltTest _)

theorem delivers_doSiteHalt {s : State} (law : Delivers s) : Delivers (doSiteHalt s).1 := by
  unfold doSiteHalt
  split
  · dsimp only
    exact delivers_enterHalting law
  · exact law

theorem eases_doSiteResume (s : State) : Eases s (doSiteResume s).1 := by
  unfold doSiteResume
  split
  · exact .refl s
  · exact .refl s
  · split
    · exact .refl s
    · exact .of_lines rfl rfl (fun _ => rfl) fun _ h => h

theorem delivers_estopAssert {s : State} (law : Delivers s) : Delivers (estopAssert s) := by
  have set : Delivers (setEstop true s) := law.eases (.of_sameForecourt ⟨rfl, rfl, rfl, rfl⟩)
  unfold estopAssert
  split
  · exact delivers_enterHalting set
  · exact set

theorem afterReset_point (pins : Pins) (selection : Selection) (draws : Nat) (pending : List Instr) (p : Fin 32) :
    (State.afterReset pins selection draws pending).point p = Point.atReset := by
  simp only [State.point, State.afterReset, Vector.getElem_replicate]

theorem delivers_afterReset (pins : Pins) (selection : Selection) (draws : Nat) (pending : List Instr) :
    Delivers (State.afterReset pins selection draws pending) where
  grants := grantLaw_afterReset ..
  valves p := by rw [afterReset_point]; simp [Point.atReset, PointState.isOpenOrPriming]
  tags p tag := by simp [afterReset_point, afterReset_grantAt, Point.atReset]
  unarmed i g hg := by simp [afterReset_grantAt] at hg
  ties i g hg := by simp [afterReset_grantAt] at hg
  busy p h := by rw [afterReset_point] at h; exact absurd h (by decide)
  settling p h := by rw [afterReset_point] at h; exact absurd h (by decide)

/-! ### The tick and the step -/

theorem eases_tick (s : State) : Eases (tickTimers s) (tick s) := by
  rw [tick]
  generalize tickTimers s = u
  exact .of_sameForecourt ⟨rfl, rfl, rfl, rfl⟩

theorem delivers_tick {s : State} (law : Delivers s) : Delivers (tick s) := by
  have grants := delivers_foldl (f := fun s i => s.modGrant i (·.tick))
    (fun h => h.eases (eases_modGrant fun _ _ => .of_same rfl rfl rfl rfl rfl rfl)) allSlots law
  have points := delivers_foldl (f := fun s p => s.setPoint p { s.point p with noFlow := (s.point p).noFlow.tick })
    (fun h => h.eases (eases_noFlow ..)) allPoints grants
  have lines := delivers_foldl (f := tickLine)
    (fun {s l} h => (h.eases (eases_setLine (l := l)
      (x := { s.line l with startTimer := (s.line l).startTimer.tick, runOnTimer := (s.line l).runOnTimer.tick }) id)).eases
        (.of_sameForecourt (sameForecourt_setProbe ..))) allLines points
  exact Delivers.eases lines (eases_tick s)

theorem delivers_command {act : State → State × Response} (command : ForecourtCommand act) {s : State}
    (law : Delivers s) : Delivers (act s).1 := by
  cases command with
  | service => exact delivers_doService law
  | decide tag v => exact delivers_doDecide tag v law
  | openGrant lane es => exact delivers_doOpenGrant lane es law
  | hold tag => exact delivers_doHold tag law
  | resume tag => exact delivers_doResume tag law
  | stop tag => exact delivers_doStop tag law
  | collect => exact delivers_doCollect law
  | pointSet n arg => exact law.eases (eases_doPointSet n arg s)
  | pointEnable n => exact law.eases (eases_doPointEnable n s)
  | lineSet n arg => exact delivers_doLineSet n arg law
  | priceSet n price => exact law.eases (eases_doPriceSet n price s)
  | lineRestore n => exact law.eases (eases_doLineRestore n s)
  | siteHalt => exact delivers_doSiteHalt law
  | siteResume => exact law.eases (eases_doSiteResume s)

theorem Delivers.same {s t : State} (law : Delivers s) (h : SameForecourt s t) : Delivers t :=
  law.eases (.of_sameForecourt h)

theorem delivers_step {s t : State} (law : Delivers s) (h : ForecourtStep s t) : Delivers t := by
  cases h with
  | same same => exact law.same same
  | command command after => exact (delivers_command command law).same after
  | auth before after => exact (delivers_doAuthRequest _ _ (law.same before)).same after
  | cancel before after => exact (delivers_doCancel _ _ (law.same before)).same after
  | reset => exact delivers_afterReset ..
  | lift p => exact delivers_nozzleLift p law
  | hangUp p => exact delivers_nozzleHangUp p law
  | pulser p phase => exact delivers_pulserStep p phase law
  | estopAssertion => exact delivers_estopAssert law
  | periodEnd p => exact delivers_periodEnd p law
  | decisionTimer tag => exact delivers_decisionExpiry tag law
  | liftTimer tag => exact delivers_liftExpiry tag law
  | idleEndTimer tag => exact delivers_idleEndExpiry tag law
  | holdTimer tag => exact delivers_holdExpiry tag law
  | noFlowTimer p => exact delivers_noFlowExpiry p law
  | startTimer l => exact delivers_startExpiry l law
  | runOnTimer l => exact law.eases (eases_runOnExpiry l s)
  | duty p => exact law.eases (eases_dutyTakesForce p s)
  | tick => exact delivers_tick law

/-- Settles O59: most changes ease the forecourt; points join a grant at arming and enter PRIMING under it, and leave it
at settlement or out of service, and each of these keeps the law. -/
theorem stepKeepsDeliveryLaw : Obligations.StepKeepsDeliveryLaw := by
  intro s t law h
  obtain ⟨s₀, same, row⟩ := step_forecourtStep h
  exact deliveryLaw_iff.mpr (delivers_step ((deliveryLaw_iff.mp law).same same) row)

end Sys2Proof.Machine
end

section
/-! PROOFS. The host commands and timers that hand out, read or end a grant: what each answers and leaves. -/

namespace Sys2Proof.Machine

/-! ### Host commands taken by their owner -/

/-- A host command that may be taken is answered by its owner. -/
theorem exec_taken {i : Instr} {act : State → State × Response} {s : State} (takes : Takes i s)
    (owned : ownerOf i = some act) : exec i s = .next ((act s).1.giveAnswer (act s).2) := by
  rw [exec_of_owner owned, takeCommand_taken takes]

/-- The answer of a command whose owner's outcome is known. -/
theorem exec_answers {i : Instr} {act : State → State × Response} {s t : State} {r : Response} (takes : Takes i s)
    (owned : ownerOf i = some act) (h : act s = (t, r)) : exec i s = .next (t.giveAnswer r) := by
  rw [exec_taken takes owned, h]

theorem HeldIn.tag_eq {s : State} {tag : Nat} {i : Fin 24} {g : Grant} (h : HeldIn s tag i g) : g.tag = tag := by
  obtain ⟨k, hk, tagged⟩ := findTag_eq_some h.1
  rw [Option.some.inj (h.2.symm.trans hk), tagged]

/-! ### SERVICE, READ_GRANT, COLLECT -/

theorem doService_empty {s : State} (h : s.gm.pendingTags = []) : doService s = (s, refusal .empty) := by
  simp [doService, h]

theorem doService_head {s : State} {tag : Nat} {rest : List Nat} {i : Fin 24} {g : Grant}
    (queue : s.gm.pendingTags = tag :: rest) (held : HeldIn s tag i g) :
    doService s =
      ((s.setSlot i (some { g with served := true })).modGm fun m => { m with pendingTags := rest },
        okWith (grantRecord { g with served := true })) := by
  have served : s.modGrant i (fun g => { g with served := true }) = s.setSlot i (some { g with served := true }) := by
    simp [State.modGrant, held.2]
  have stands : ((s.setSlot i (some { g with served := true })).modGm fun m =>
      { m with pendingTags := rest }).grantAt i = some { g with served := true } := by
    rw [modGm_grantAt _ _ rfl, setSlot_grantAt_self]
  unfold doService
  simp only [queue, held.1, served, recordAnswer, stands]

theorem doReadGrant_held {s : State} {tag : Nat} {i : Fin 24} {g : Grant} (held : HeldIn s tag i g) :
    doReadGrant tag s = (s, okWith (grantRecord g)) := by
  simp [doReadGrant, held.1, recordAnswer, held.2]

theorem doReadGrant_unknown {s : State} {tag : Nat} (h : s.findTag tag = none) :
    doReadGrant tag s = (s, refusal .unknownTag) := by
  simp [doReadGrant, h]

theorem doCollect_empty {s : State} (h : s.gm.settledTags = []) : doCollect s = (s, refusal .empty) := by
  simp [doCollect, h]

theorem doCollect_head {s : State} {tag : Nat} {rest : List Nat} {i : Fin 24} {g : Grant}
    (queue : s.gm.settledTags = tag :: rest) (held : HeldIn s tag i g) :
    doCollect s =
      ((s.setSlot i none).modGm fun m => { m with settledTags := rest }, okWith (grantRecord g)) := by
  simp [doCollect, queue, held.1, recordAnswer, held.2]

/-- Settles O10. -/
theorem serviceReadCollect : Obligations.ServiceReadCollect :=
  ⟨fun _ takes h => exec_answers takes rfl (doService_empty h),
    fun _ _ _ _ _ takes queue held => exec_answers takes rfl (doService_head queue held),
    fun _ _ takes h => exec_answers takes rfl (doReadGrant_unknown (findTag_eq_none.mpr h)),
    fun _ _ _ _ takes held => exec_answers takes rfl (doReadGrant_held held),
    fun _ takes h => exec_answers takes rfl (doCollect_empty h),
    fun _ _ _ _ _ takes queue held => exec_answers takes rfl (doCollect_head queue held)⟩

/-! ### The checks of DECIDE (R12) -/

theorem entriesValid_iff {es : List LimitEntry} : entriesValid es = true ↔ GoodEntries es := by
  simp [entriesValid, GoodEntries, Option.isSome_iff_ne_none]

theorem verdictValid_iff {v : Verdict} : verdictValid v = true ↔ GoodVerdict v := by
  cases v with
  | approve es => simp only [verdictValid, GoodVerdict, Bool.and_eq_true, decide_eq_true_eq, entriesValid_iff]
  | decline code => simp [verdictValid, GoodVerdict]
  | unlisted => simp [verdictValid, GoodVerdict]

theorem entriesMatch_iff {g : Grant} {es : List LimitEntry} :
    entriesMatch g es = true ↔ es ≠ [] ∧ ∀ e ∈ es, ∃ a ∈ g.allowances, a.line.val = e.line := by
  simp [entriesMatch]

theorem doDecide_badParam {tag : Nat} {v : Verdict} (s : State) (bad : ¬ GoodVerdict v) :
    doDecide tag v s = (s, refusal .badParam) := by
  have bad : verdictValid v = false := by rw [← Bool.not_eq_true, verdictValid_iff]; exact bad
  simp [doDecide, bad]

theorem doDecide_unknown {tag : Nat} {v : Verdict} {s : State} (good : GoodVerdict v) (h : s.findTag tag = none) :
    doDecide tag v s = (s, refusal .unknownTag) := by
  simp [doDecide, verdictValid_iff.mpr good, h]

theorem doDecide_late {tag : Nat} {v : Verdict} {s : State} {i : Fin 24} {g : Grant} (good : GoodVerdict v)
    (held : HeldIn s tag i g) (late : g.state ≠ .pending) : doDecide tag v s = (s, refusal .late) := by
  simp [doDecide, verdictValid_iff.mpr good, held.1, held.2, late]

theorem doDecide_badClass {tag : Nat} {es : List LimitEntry} {s : State} {i : Fin 24} {g : Grant}
    (good : GoodVerdict (.approve es)) (held : HeldIn s tag i g) (waits : g.state = .pending)
    (bad : entriesMatch g es = false) : doDecide tag (.approve es) s = (s, refusal .badClass) := by
  simp [doDecide, verdictValid_iff.mpr good, held.1, held.2, waits, bad]

theorem doDecide_approve {tag : Nat} {es : List LimitEntry} {s : State} {i : Fin 24} {g : Grant}
    (good : GoodVerdict (.approve es)) (held : HeldIn s tag i g) (waits : g.state = .pending)
    (listed : entriesMatch g es = true) :
    doDecide tag (.approve es) s = (approve i es s, recordAnswer i (approve i es s)) := by
  simp [doDecide, verdictValid_iff.mpr good, held.1, held.2, waits, listed]

theorem doDecide_decline {tag code : Nat} {s : State} {i : Fin 24} {g : Grant}
    (good : GoodVerdict (.decline code)) (held : HeldIn s tag i g) (waits : g.state = .pending) :
    doDecide tag (.decline code) s = (declineGrant i code s, okWith []) := by
  simp [doDecide, verdictValid_iff.mpr good, held.1, held.2, waits]

/-- Settles O12. -/
theorem decideChecks : Obligations.DecideChecks := by
  intro tag v s takes
  refine ⟨fun bad => exec_answers takes rfl (doDecide_badParam s bad),
    fun good h => exec_answers takes rfl (doDecide_unknown good (findTag_eq_none.mpr h)),
    fun i g good held late => exec_answers takes rfl (doDecide_late good held late), ?_⟩
  rintro i g es rfl good held waits bad
  refine exec_answers takes rfl (doDecide_badClass good held waits ?_)
  rw [← Bool.not_eq_true, entriesMatch_iff]
  rintro ⟨nonempty, listed⟩
  rcases bad with rfl | ⟨e, he, none⟩
  · exact nonempty rfl
  · obtain ⟨a, ha, line⟩ := listed e he
    exact none a ha line

/-! ### STOP and CANCEL (R27, R28) -/

theorem endNow_eq {i : Fin 24} {g : Grant} {s : State} (hg : s.grantAt i = some g) (r : EndReason) :
    endNow i r s = settle i (s.setSlot i (some { g with outcome := some (g.outcome.getD r) })) := by
  simp [endNow, State.modGrant, hg, Grant.recordOutcome]

/-- Settles O19. -/
theorem stopEndsByState : Obligations.StopEndsByState := by
  intro tag s takes
  refine ⟨fun h => exec_answers takes rfl (by simp [doStop, findTag_eq_none.mpr h]), fun i g held => ?_⟩
  obtain ⟨found, hg⟩ := held
  have state : (s.grantAt i).map Grant.state = some g.state := by rw [hg, Option.map_some]
  refine ⟨fun h => ?_, fun h => ?_, fun h => ?_, fun h => ?_⟩
  · rw [← endNow_eq hg]
    rcases h with h | h <;> exact exec_answers takes rfl (by simp [doStop, found, state, h])
  · rcases h with h | h <;> exact exec_answers takes rfl (by simp [doStop, found, state, h])
  · exact exec_answers takes rfl (by simp [doStop, found, state, h])
  · exact exec_answers takes rfl (by simp [doStop, found, state, h])

/-- A message that is taken is answered by its block, in the state in which it was taken. -/
theorem answerMessage_taken {s s₁ : State} {lane : Fin 8} {m : LaneMessage} (taken : TakenFrom s lane m s₁)
    (act : State → State × Reply) : answerMessage lane m act s = placeReply lane (act s₁).2 (act s₁).1 := by
  rcases taken with ⟨none, rfl⟩ | ⟨rest, first, rfl⟩
  · simp [answerMessage, IslandBus.taking, none]
  · simp [answerMessage, IslandBus.taking, first, takeOldest]

theorem goOnWith_sameForecourt (rest : List InProcess) (s : State) : SameForecourt s (goOnWith rest s) :=
  ⟨by simp, by simp, by simp, by simp⟩

theorem TakenFrom.sameForecourt {s s₁ : State} {lane : Fin 8} {m : LaneMessage} (taken : TakenFrom s lane m s₁) :
    SameForecourt s s₁ := by
  rcases taken with ⟨_, rfl⟩ | ⟨rest, _, rfl⟩
  · exact sameForecourt_flushLane lane s
  · exact goOnWith_sameForecourt rest s

theorem SameForecourt.findTag {s t : State} (h : SameForecourt s t) (tag : Nat) : t.findTag tag = s.findTag tag :=
  findTag_congr (fun i => by rw [h.grantAt]) tag

theorem SameForecourt.heldIn {s t : State} (h : SameForecourt s t) {tag : Nat} {i : Fin 24} {g : Grant}
    (held : HeldIn s tag i g) : HeldIn t tag i g :=
  ⟨(h.findTag tag).trans held.1, (h.grantAt i).trans held.2⟩

theorem exec_cancel {s s₁ t : State} {lane : Fin 8} {tag : Nat} {r : Reply} (taken : TakenFrom s lane (.cancel tag) s₁)
    (h : doCancel lane tag s₁ = (t, r)) : exec (.cancel lane tag) s = .next (placeReply lane r t) := by
  have row : exec (.cancel lane tag) s = .next (answerMessage lane (.cancel tag) (doCancel lane tag) s) := rfl
  rw [row, answerMessage_taken taken, h]

/-- Settles O20. -/
theorem cancelEndsByState : Obligations.CancelEndsByState := by
  intro lane tag s s₁ taken
  have same := taken.sameForecourt
  refine ⟨fun h => exec_cancel taken ?_, fun i g held => ?_⟩
  · simp [doCancel, same.findTag, findTag_eq_none.mpr h, cancelReply]
  obtain ⟨found, hg⟩ := same.heldIn held
  refine ⟨fun h => exec_cancel taken ?_, fun own h => ?_, fun own h => ?_, fun own h => exec_cancel taken ?_⟩
  · rcases h with h | h
    · simp [doCancel, found, hg, h, cancelReply]
    · by_cases own : g.lane = lane <;> simp [doCancel, found, hg, own, h, cancelReply]
  · rw [← endNow_eq hg]
    rcases h with h | h <;> exact exec_cancel taken (by simp [doCancel, found, hg, own, h, cancelReply])
  · rcases h with h | h <;> exact exec_cancel taken (by simp [doCancel, found, hg, own, h, cancelReply])
  · simp [doCancel, found, hg, own, h, cancelReply]

/-! ### Timers (R22 to R24, R78, R144) -/

theorem mayExpire_eq_false {t : Timer} (h : ∀ n, t ≠ .running n) : t.mayExpire = false := by
  rw [← Bool.not_eq_true, mayExpire_iff]
  rintro ⟨n, e⟩
  exact h n e

/-- Settles O23. -/
theorem timersEndGrants : Obligations.TimersEndGrants := by
  refine ⟨fun tag k s i g held => ?_, fun p s => ?_⟩
  · obtain ⟨found, hg⟩ := held
    have lift : exec (.liftTimerExpiry tag) s = .next (liftExpiry tag s) := rfl
    have idle : exec (.idleEndTimerExpiry tag) s = .next (idleEndExpiry tag s) := rfl
    have hold : exec (.holdTimerExpiry tag) s = .next (holdExpiry tag s) := rfl
    rw [lift, idle, hold]
    refine ⟨fun runs state => ?_, fun runs state => ?_, fun runs state => ?_, fun runs state => ?_, fun off => ?_,
      fun off => ?_, fun off => ?_⟩
    · rw [← endNow_eq hg]
      simp [liftExpiry, found, hg, runs, state, Timer.mayExpire]
    · simp [liftExpiry, found, hg, runs, state, Timer.mayExpire]
    · simp [idleEndExpiry, found, hg, runs, state, Timer.mayExpire]
    · simp [holdExpiry, found, hg, runs, state, Timer.mayExpire]
    · simp [liftExpiry, found, hg, mayExpire_eq_false off]
    · simp [idleEndExpiry, found, hg, mayExpire_eq_false off]
    · simp [holdExpiry, found, hg, mayExpire_eq_false off]
  · have row : exec (.noFlowTimerExpiry p) s = .next (noFlowExpiry p s) := rfl
    rw [row]
    have slot : ∀ tag i g, (s.point p).tag = some tag → HeldIn s tag i g →
        (s.setPoint p { s.point p with noFlow := .stopped }).slotOfPoint p = some i := fun tag i g tagged held =>
      slotOfPoint_held (by rw [setPoint_point, if_pos rfl]; exact tagged) held
    refine ⟨fun k tag i g runs tagged held state => ?_, fun k tag i g runs tagged held state => ?_, fun off => ?_⟩
    · simp [noFlowExpiry, runs, Timer.mayExpire, slot tag i g tagged held, held.2, state]
    · simp [noFlowExpiry, runs, Timer.mayExpire, slot tag i g tagged held, held.2, state]
    · simp [noFlowExpiry, mayExpire_eq_false off]

end Sys2Proof.Machine
end

section
/-! PROOFS. Settlement and closing (R29 to R31, R157), the decline of a grant, and what a reset leaves. -/

namespace Sys2Proof.Machine

/-! ### Notices stand apart from the grants -/

theorem queueNotice_ibi_congr {s t : State} (h : t.ibi = s.ibi) (n : Fin 8) (x : Notice) :
    (queueNotice n x t).ibi = (queueNotice n x s).ibi := by
  unfold queueNotice
  rw [lane_of_ibi h]
  split <;> simp [State.setLane, State.modIbi, h]

theorem queueNotice_setSlot (n : Fin 8) (x : Notice) (s : State) (i : Fin 24) (y : Option Grant) :
    queueNotice n x (s.setSlot i y) = (queueNotice n x s).setSlot i y := by
  unfold queueNotice
  rw [setSlot_lane]
  split <;> rfl

theorem queueNotice_modGm (n : Fin 8) (x : Notice) (s : State) (f : GrantManager → GrantManager) :
    queueNotice n x (s.modGm f) = (queueNotice n x s).modGm f := by
  unfold queueNotice
  rw [modGm_lane]
  split <;> rfl

/-! ### Settlement -/

theorem filter_ne (tags : List Nat) (tag : Nat) : tags.filter (· != tag) = tags.filter (· ≠ tag) :=
  List.filter_congr fun x _ => by simp [bne, beq_eq_decide]


theorem settleCore_eq {i : Fin 24} {g : Grant} {s : State} (hg : s.grantAt i = some g) (live : g.state ≠ .settled) :
    settleCore i s =
      handAmount g
        (queueNotice g.lane g.saleEnd
          (detachAll g.attached
            ((s.setSlot i (some g.settledForm)).modGm fun m =>
              { m with
                pendingTags := m.pendingTags.filter (· != g.tag)
                settledTags := m.settledTags ++ [g.tag] }))) := by
  simp [settleCore, hg, live]

theorem settleCore_ibi {i : Fin 24} {g : Grant} {s : State} (hg : s.grantAt i = some g) (live : g.state ≠ .settled) :
    (settleCore i s).ibi = (queueNotice g.lane g.saleEnd s).ibi := by
  rw [settleCore_eq hg live, handAmount_ibi]
  exact queueNotice_ibi_congr (by simp) ..

theorem handAmount_none {g : Grant} {s : State}
    (h : g.card = none ∨ g.source ≠ some .standinOffline ∧ g.source ≠ some .standinTimeout) : handAmount g s = s := by
  unfold handAmount
  split
  · next source card => rcases h with h | h <;> simp_all
  · next source card => rcases h with h | h <;> simp_all
  · rfl

theorem handAmount_su {g : Grant} {c : Card} {s : State} (card : g.card = some c)
    (source : g.source = some .standinOffline ∨ g.source = some .standinTimeout) :
    (handAmount g s).su = s.su.addAmount c.pan g.totalAmount := by
  unfold handAmount
  rcases source with h | h <;> simp [h, card]

theorem settleCore_su {i : Fin 24} {g : Grant} {s : State} (hg : s.grantAt i = some g) (live : g.state ≠ .settled) :
    (settleCore i s).su = (handAmount g s).su := by
  rw [settleCore_eq hg live]
  unfold handAmount
  split <;> simp

theorem settle_su (i : Fin 24) (s : State) : (settle i s).su = (settleCore i s).su := by simp [settle]

theorem settle_ibi (i : Fin 24) (s : State) : (settle i s).ibi = (settleCore i s).ibi := by simp [settle]

theorem settle_gm (i : Fin 24) (s : State) : (settle i s).gm = (settleCore i s).gm := by simp [settle]

theorem addAmount_frame (u : ScreeningUnit) (pan : Pan) (n : Nat) :
    (u.addAmount pan n).programs = u.programs ∧ (u.addAmount pan n).denied = u.denied
      ∧ (u.addAmount pan n).link = u.link ∧ (u.addAmount pan n).date = u.date := by
  unfold ScreeningUnit.addAmount
  split <;> exact ⟨rfl, rfl, rfl, rfl⟩

theorem addAmount_entryAt (u : ScreeningUnit) (pan : Pan) (n : Nat) (k : Fin 128) :
    (u.addAmount pan n).entryAt k =
      if u.positionOf pan = some k then
        (u.entryAt k).map fun e => { e with amount := min (e.amount + n) Config.tallyAmountTop }
      else u.entryAt k := by
  unfold ScreeningUnit.addAmount
  cases h : u.positionOf pan with
  | none => simp
  | some j =>
    rw [setEntry_entryAt]
    by_cases e : k = j
    · subst e; simp
    · have : some j ≠ some k := fun x => e (Option.some.inj x).symm
      simp [e, this]

/-- After a settlement the halt's test asks whether another grant is CLOSING. -/
theorem settleCore_anyClosing {i : Fin 24} {g : Grant} {s : State} (hg : s.grantAt i = some g)
    (live : g.state ≠ .settled) :
    (settleCore i s).anyClosing = false ↔ ∀ j h, j ≠ i → s.grantAt j = some h → h.state ≠ .closing := by
  rw [← Bool.not_eq_true, anyClosing_iff]
  constructor
  · intro none j h ne hj closing
    exact none ⟨j, h, by rw [settleCore_grantAt hg live, if_neg ne, hj], closing⟩
  · rintro others ⟨j, h, hj, closing⟩
    rw [settleCore_grantAt hg live] at hj
    split at hj
    · rw [← Option.some.inj hj] at closing
      exact absurd closing (by simp [Grant.settledForm])
    · exact others j h ‹_› hj closing

theorem haltTest_eq {s : State} (h : s.ss.site = .halting ∧ s.anyClosing = false) :
    haltTest s = { s with ss := { s.ss with site := .halted } }.raiseHaltComplete := if_pos h

theorem haltTest_idle {s : State} (h : ¬ (s.ss.site = .halting ∧ s.anyClosing = false)) : haltTest s = s := if_neg h

/-- Settles O17. -/
theorem settlementFollowsOrder : Obligations.SettlementFollowsOrder := by
  intro i g s hg live t
  have su : t.su = (handAmount g s).su := by rw [settle_su, settleCore_su hg live]
  have test : (settleCore i s).ss.site = .halting ∧ (settleCore i s).anyClosing = false ↔
      s.ss.site = .halting ∧ ∀ j h, j ≠ i → s.grantAt j = some h → h.state ≠ .closing := by
    rw [settleCore_ss, settleCore_anyClosing hg live]
  refine ⟨?_, fun j ne => ?_, ?_, ?_, ?_, fun p => settle_point hg live p, ?_, fun c card source => ?_, fun h => ?_,
    fun h => ?_, fun h => ?_, ?_⟩
  · rw [settle_grantAt hg live, if_pos rfl]; rfl
  · rw [settle_grantAt hg live, if_neg ne]
  · rw [settle_gm, settleCore_tagCounter]
  · rw [settle_gm, settleCore_pendingTags hg live, filter_ne]
  · rw [settle_gm, settleCore_settledTags hg live]
  · rw [settle_ibi, settleCore_ibi hg live]; rfl
  · rw [su, handAmount_su card source]
    obtain ⟨programs, denied, link, date⟩ := addAmount_frame s.su c.pan g.totalAmount
    exact ⟨programs, denied, link, date, addAmount_entryAt s.su c.pan g.totalAmount⟩
  · rw [su, handAmount_none h]
  · have halted : t = { settleCore i s with ss := { (settleCore i s).ss with site := .halted } }.raiseHaltComplete :=
      haltTest_eq (test.mpr h)
    rw [halted]
    exact ⟨by simp, by simp [State.raiseHaltComplete]⟩
  · have still : t = settleCore i s := haltTest_idle (fun halting => h (test.mp halting))
    rw [still]
    exact ⟨by simp, by simp⟩
  · exact ⟨by simp [t], by simp [t], by simp [t], by simp [t], by simp [t], by simp [t]⟩

/-! ### Entry to CLOSING -/

theorem enterClosingCore_eq {i : Fin 24} {g : Grant} {s : State} (hg : s.grantAt i = some g) (r : EndReason) :
    enterClosingCore i r s = closeOrders g.attached (s.setSlot i (some (g.closingForm r))) := by
  simp [enterClosingCore, hg]

/-- A point that is not busy is one that a close order leaves alone, and the others it leaves settling. -/
theorem closeOrders_blocks (ps : List (Fin 32)) (p : Fin 32) (s : State) :
    ((closeOrders ps s).point p).state.blocksSettlement = (s.point p).state.blocksSettlement := by
  rw [closeOrders_point]
  split
  · next h => rw [(blocksSettlement_iff _).mpr (.inl h.2)]; rfl
  · rfl

theorem enterClosingCore_due {i : Fin 24} {g : Grant} {s : State} (hg : s.grantAt i = some g) (r : EndReason) :
    (enterClosingCore i r s).completionDue i = true ↔ ∀ p ∈ g.attached, (s.point p).state.blocksSettlement = false := by
  have stands := enterClosingCore_grantAt hg r i
  rw [if_pos rfl] at stands
  have blocks : ∀ p ∈ g.attached,
      ((enterClosingCore i r s).point p).state.blocksSettlement = (s.point p).state.blocksSettlement := fun p _ => by
    rw [enterClosingCore_eq hg, closeOrders_blocks]; rfl
  rw [completionDue_iff]
  constructor
  · rintro ⟨k, hk, _, quiet⟩ p hp
    rw [← Option.some.inj (stands.symm.trans hk)] at quiet
    rw [← blocks p hp]
    exact quiet p hp
  · intro quiet
    exact ⟨_, stands, rfl, fun p hp => (blocks p hp).trans (quiet p hp)⟩

theorem blocksSettlement_cases (x : PointState) :
    x.blocksSettlement = true ↔ x = .priming ∨ x = .flowing ∨ x = .slowing ∨ x = .settling := by
  cases x <;> simp [PointState.blocksSettlement]

/-- Settles O18. -/
theorem closingClosesThenSettles : Obligations.ClosingClosesThenSettles := by
  intro i g reason s hg closing busy
  have core : enterClosingCore i reason s = closing := enterClosingCore_eq hg reason
  have due : busy ↔ ¬ closing.completionDue i = true := by
    rw [← core, enterClosingCore_due hg]
    simp [busy, ← blocksSettlement_cases]
  have test : enterClosing i reason s = if closing.completionDue i then settle i closing else closing := by
    rw [enterClosing, core, completionTest]
  refine ⟨fun h => ?_, fun h => ?_⟩
  · rw [test, if_neg (due.mp h)]
  · rw [test, if_pos (not_not.mp fun n => h (due.mpr n))]

/-! ### DECLINE (R14) -/

theorem filter_twice (tags : List Nat) (tag : Nat) :
    (tags.filter (· != tag)).filter (· != tag) = tags.filter (· ≠ tag) := by
  rw [List.filter_filter, ← filter_ne]
  simp

/-- The state of a declined grant before its settlement. -/
theorem declineGrant_eq {i : Fin 24} {g : Grant} {s : State} (hg : s.grantAt i = some g) (code : Nat) :
    declineGrant i code s =
      settle i
        (queueNotice g.lane (.declined g.tag code)
          ((s.setSlot i
              (some { g.recordOutcome (.declinedHost code) with source := some .host, decisionTimer := .stopped })).modGm
            fun m => { m with pendingTags := m.pendingTags.filter (· != g.tag) })) := by
  unfold declineGrant
  simp only [hg]
  rw [leavePending_eq (setSlot_grantAt_self ..), setSlot_setSlot]
  rfl

/-- Settles O13: the grant leaves the pending queue, and its settlement has no point to detach and no tally to add to. -/
theorem declineSettlesGrant : Obligations.DeclineSettlesGrant := by
  intro tag code s i g takes low high held waits unattached undecided running
  obtain rfl := held.tag_eq
  rw [exec_answers takes rfl (doDecide_decline ⟨low, high⟩ held waits), declineGrant_eq held.2]
  have stands : (queueNotice g.lane (.declined g.tag code)
      ((s.setSlot i
          (some { g.recordOutcome (.declinedHost code) with source := some .host, decisionTimer := .stopped })).modGm
        fun m => { m with pendingTags := m.pendingTags.filter (· != g.tag) })).grantAt i =
      some { g.recordOutcome (.declinedHost code) with source := some .host, decisionTimer := .stopped } := by
    rw [queueNotice_grantAt, modGm_grantAt _ _ rfl, setSlot_grantAt_self]
  have still : ∀ t : State, t.ss = s.ss → haltTest t = t := fun t h => haltTest_unchanged (by simp [h, running])
  rw [settle, still _ (by simp), settleCore_eq stands (by simp [Grant.recordOutcome, waits]),
    handAmount_none (.inr (by simp))]
  have empty : ∀ t, detachAll g.attached t = t := fun t => by rw [unattached]; rfl
  simp only [Grant.recordOutcome, undecided, empty, Option.getD_none, ← queueNotice_setSlot, ← queueNotice_modGm,
    ← filter_twice]
  simp [Grant.settledForm, Grant.saleEnd, unattached, State.setSlot, State.modGm]

end Sys2Proof.Machine
end

section
/-! PROOFS. What a reset leaves in each block (R35, R36, R42, R45, R58, R85, R99, R134, R163, R186, R201, R210), and that
the laws hold at power-on. -/

namespace Sys2Proof.Machine

theorem afterReset_line (pins : Pins) (selection : Selection) (draws : Nat) (pending : List Instr) (l : Fin 4) :
    (State.afterReset pins selection draws pending).line l = Line.atReset := by
  simp only [State.line, State.afterReset, Vector.getElem_replicate]

theorem afterReset_probe (pins : Pins) (selection : Selection) (draws : Nat) (pending : List Instr) (l : Fin 4) :
    (State.afterReset pins selection draws pending).probe l = Probe.atReset := by
  simp only [State.probe, State.afterReset, Vector.getElem_replicate]

theorem afterReset_lane (pins : Pins) (selection : Selection) (draws : Nat) (pending : List Instr) (n : Fin 8) :
    (State.afterReset pins selection draws pending).lane n = Lane.atReset := by
  simp only [State.lane, State.afterReset, Vector.getElem_replicate]

theorem afterReset_entryAt (pins : Pins) (selection : Selection) (draws : Nat) (pending : List Instr) (k : Fin 128) :
    (State.afterReset pins selection draws pending).su.entryAt k = none := by
  simp only [ScreeningUnit.entryAt, State.afterReset, Vector.getElem_replicate]

theorem acrossReset_eq (x : Selection) : x.acrossReset = if x = .released then .released else .ignored := by
  cases x <;> rfl

theorem pumpLaw_reset : PumpLaw State.reset := by
  intro l
  have line : State.reset.line l = Line.atReset := afterReset_line ..
  simp [State.relay, line, Line.atReset, PumpForm]

theorem boundLaw_reset : BoundLaw State.reset := by
  have point : ∀ p, State.reset.point p = Point.atReset := afterReset_point _ _ _ _
  have lane : ∀ n, State.reset.lane n = Lane.atReset := afterReset_lane _ _ _ _
  have line : ∀ l, State.reset.line l = Line.atReset := afterReset_line _ _ _ _
  have probe : ∀ l, State.reset.probe l = Probe.atReset := afterReset_probe _ _ _ _
  refine ⟨fun p => ?_, fun n => ?_, by decide, by decide, fun l => ?_⟩
  · simp [point, Point.atReset]
  · simp [lane, Lane.atReset]
  · simp [probe, line, Probe.atReset, Line.atReset, ProbeForm]

theorem tableLaw_reset : TableLaw State.reset := by
  have entries : ∀ k, State.reset.su.entryAt k = none := afterReset_entryAt _ _ _ _
  have programs : State.reset.su.programs = [] := rfl
  have denied : State.reset.su.denied = [] := rfl
  simp [TableLaw, entries, programs, denied]

theorem meterLaw_reset : MeterLaw State.reset := by
  intro i g hg
  have none : State.reset.grantAt i = none := afterReset_grantAt ..
  simp [none] at hg

/-- Settles O54. -/
theorem resetRestores : Obligations.ResetRestores := by
  refine ⟨fun s => ⟨resetPart s, rfl, ?_⟩, deliveryLaw_iff.mpr (delivers_afterReset ..), pumpLaw_reset, boundLaw_reset,
    tableLaw_reset, meterLaw_reset⟩
  have point : ∀ p, (resetPart s).point p = Point.atReset := afterReset_point _ _ _ _
  refine ⟨afterReset_grantAt _ _ _ _, rfl, rfl, rfl, rfl, rfl, afterReset_entryAt _ _ _ _, rfl, rfl, fun p => ?_,
    afterReset_line _ _ _ _, afterReset_probe _ _ _ _, rfl, rfl, rfl, rfl, rfl, rfl, rfl, rfl, rfl, rfl,
    afterReset_lane _ _ _ _, rfl, rfl, acrossReset_eq _, rfl, rfl, rfl, rfl, rfl, rfl, rfl, rfl, rfl, rfl, rfl⟩
  simp [point, Point.atReset]

end Sys2Proof.Machine
end

section
/-! PROOFS. Arming (R17, R18, R19): what it makes of a grant's allowances, points and records, and the two ways it ends. -/

namespace Sys2Proof.Machine

/-! ### The lowest position of a table that passes a test -/

theorem find_finRange {n : Nat} {test : Fin n → Bool} {i : Fin n} (passes : test i = true)
    (lower : ∀ j, j < i → test j = false) : (List.finRange n).find? test = some i := by
  rw [List.find?_eq_some_iff_getElem]
  refine ⟨passes, i.val, by simp, by simp, fun j hj => ?_⟩
  simp only [List.getElem_finRange, Bool.not_eq_eq_eq_not, Bool.not_true]
  exact lower _ (by simpa [Fin.lt_def] using hj)

theorem freeSlot_lowest {s : State} {i : Fin 24} (free : s.grantAt i = none)
    (lower : ∀ j, j < i → s.grantAt j ≠ none) : s.freeSlot = some i :=
  find_finRange (by simp [free]) fun j hj => by simpa [Option.isNone_eq_false_iff, Option.isSome_iff_ne_none] using lower j hj

/-! ### Allowances and records -/

theorem keepsLine_iff {s : State} {l : Fin 4} :
    keepsLine s l = true ↔ ¬ ((s.line l).state = .lockedOut ∨ (s.line l).price = 0) := by
  simp [keepsLine]

theorem armAllowance_kept {s : State} {a : Allowance} (keeps : keepsLine s a.line = true) :
    armAllowance s a =
      some
        { a with
          limit := some (effectiveLimit (a.limit.getD (.volume, 0)) a.ceiling)
          armed :=
            some (armedTerms (effectiveLimit (a.limit.getD (.volume, 0)) a.ceiling) a.ceiling (s.line a.line).price
              (((s.line a.line).config.map (·.basis)).getD .gross)) } := by
  rw [armAllowance, if_neg (keepsLine_iff.mp keeps)]

theorem armAllowance_dropped {s : State} {a : Allowance} (drops : keepsLine s a.line = false) :
    armAllowance s a = none := by
  have locked : (s.line a.line).state = .lockedOut ∨ (s.line a.line).price = 0 := by
    rw [← Bool.not_eq_true, keepsLine_iff, not_not] at drops
    exact drops
  rw [armAllowance, if_pos locked]

theorem limitVolume_eq (limit : LimitKind × Nat) (price : Nat) :
    limitVolume limit price = equivalentVolume limit.1 limit.2 price := by
  obtain ⟨kind, value⟩ := limit
  cases kind <;> rfl

/-- An allowance that is kept is armed from its limit; its records do not enter. -/
theorem armedFrom_armAllowance {s : State} {a b : Allowance} {limit : LimitKind × Nat}
    (h : armAllowance s { a with limit := some limit } = some b) (records : List PointRecord) :
    ArmedFrom s limit a { b with armed := b.armed.map ({ · with records := records }) } := by
  obtain ⟨_, _, line, ceiling, limited, armed⟩ := armAllowance_eq_some h
  refine ⟨line, ceiling, (effectiveLimit limit a.ceiling).1, (effectiveLimit limit a.ceiling).2, _, limited,
    by rw [armed]; rfl, rfl, rfl, fun c config => ?_, ?_, ?_, ?_, rfl, rfl, ?_⟩
  · simp [armedTerms, config]
  · simp [armedTerms, limitVolume_eq]
  · simp [armedTerms, limitVolume_eq]
  · simp [armedTerms]
  · simp [armedTerms]

theorem recordsFor_eq (s : State) (points : List (Fin 32)) (l : Fin 4) :
    recordsFor s points l =
      (points.filter fun p => (s.point p).config.any (·.line == l)).map fun p =>
        { point := p, k := ((s.point p).config.map (·.k)).getD 0, pulses := 0, accumulator := 0, gross := 0,
          compensated := 0, lastIncrement := 0 } := by
  unfold recordsFor
  induction points with
  | nil => rfl
  | cons p rest ih =>
    rw [List.filterMap_cons, ih]
    cases config : (s.point p).config with
    | none => simp [config]
    | some c => by_cases e : c.line = l <;> simp [config, e, newRecord]

/-- Arming a grant whose allowances carry the given limits gives what `ArmedAs` says. -/
theorem armedAs_armedForm {s : State} {limits : Fin 4 → Option (LimitKind × Nat)} {g h : Grant}
    (lane : h.lane = g.lane) (dual : h.dualSide = g.dualSide)
    (limited : h.allowances =
      g.allowances.filterMap fun a => (limits a.line).map fun limit => { a with limit := some limit }) :
    ArmedAs s limits g
      { g with allowances := (armedForm s h).allowances, attached := (armedForm s h).attached } := by
  have lines : ∀ l, (armedForm s h).allowances.any (·.line == l) = (keptAllowances s h).any (·.line == l) := by
    intro l
    simp [armedForm, List.any_map, Function.comp_def]
  refine ⟨?_, ?_, fun b hb t armed => ?_⟩
  · dsimp only [armedForm]
    rw [List.forall₂_map_right_iff, keptAllowances, limited]
    generalize attachedBy s _ h = points
    induction g.allowances with
    | nil => exact .nil
    | cons a rest ih =>
      cases limit : limits a.line with
      | none =>
        rw [List.filter_cons_of_neg (by simp [limit]), List.filterMap_cons_none (by simp [limit])]
        exact ih
      | some x =>
        rw [List.filterMap_cons_some (b := { a with limit := some x }) (by simp [limit])]
        by_cases keeps : keepsLine s a.line = true
        · have kept := armAllowance_kept (s := s) (a := { a with limit := some x }) keeps
          rw [List.filter_cons_of_pos (by simp [limit, keeps]), List.filterMap_cons_some kept]
          exact .cons ⟨x, limit, armedFrom_armAllowance kept _⟩ ih
        · have dropped := armAllowance_dropped (s := s) (a := { a with limit := some x }) (by simpa using keeps)
          rw [List.filter_cons_of_neg (by simp [keeps]), List.filterMap_cons_none dropped]
          exact ih
  · simp only [lines]
    simp only [armedForm, attachedBy, lane, dual]
    rfl
  · obtain ⟨a, _, rfl⟩ := List.mem_map.mp hb
    obtain ⟨u, _, rfl⟩ := Option.map_eq_some_iff.mp armed
    exact recordsFor_eq ..

theorem armedForm_congr {s t : State} (points : t.points = s.points) (lines : t.lines = s.lines) (g : Grant) :
    armedForm t g = armedForm s g := by
  have line : ∀ l, t.line l = s.line l := line_of_lines lines
  have point : ∀ p, t.point p = s.point p := point_of_points points
  have arming : armAllowance t = armAllowance s := funext fun a => by simp only [armAllowance, line]
  have kept : keptAllowances t g = keptAllowances s g := by simp only [keptAllowances, arming]
  have reach : attachedBy t (keptAllowances s g) g = attachedBy s (keptAllowances s g) g := by
    unfold attachedBy
    exact List.filter_congr fun p _ => by simp only [attachable, point]
  have records : recordsFor t = recordsFor s := funext fun ps => funext fun l => by simp only [recordsFor, point]
  simp only [armedForm, kept, reach, records]

/-- A kept allowance is armed and has sold nothing yet. -/
theorem armedForm_fresh {s : State} {g : Grant} {b : Allowance} (hb : b ∈ (armedForm s g).allowances) :
    ∃ t, b.armed = some t ∧ t.volume = 0 ∧ t.amount = 0 := by
  obtain ⟨a, ha, rfl⟩ := List.mem_map.mp hb
  obtain ⟨a₀, _, kept⟩ := List.mem_filterMap.mp ha
  obtain ⟨_, _, _, _, _, armed⟩ := armAllowance_eq_some kept
  exact ⟨_, by rw [armed]; rfl, rfl, rfl⟩

theorem armedForm_caps (s : State) (g : Grant) :
    (armedForm s g).caps =
      (armedForm s g).allowances.map fun a => { line := a.line, cap := (a.armed.map (·.cap)).getD 0 } := by
  unfold Grant.caps
  rw [← List.filterMap_eq_map]
  refine List.filterMap_congr fun b hb => ?_
  obtain ⟨t, armed, _⟩ := armedForm_fresh hb
  simp [armed]

theorem armedForm_saleLines (s : State) (g : Grant) :
    ((armedForm s g).allowances.map fun a => ({ line := a.line, volume := a.volume, amount := a.amount } : SaleLine)) =
      (armedForm s g).allowances.map fun a => { line := a.line, volume := 0, amount := 0 } := by
  refine List.map_congr_left fun b hb => ?_
  obtain ⟨t, armed, volume, amount⟩ := armedForm_fresh hb
  simp [Allowance.volume, Allowance.amount, armed, volume, amount]

theorem armedForm_totalAmount (s : State) (g : Grant) : (armedForm s g).totalAmount = 0 := by
  unfold Grant.totalAmount
  refine List.sum_eq_zero fun x hx => ?_
  obtain ⟨b, hb, rfl⟩ := List.mem_map.mp hx
  obtain ⟨t, armed, _, amount⟩ := armedForm_fresh hb
  simp [Allowance.amount, armed, amount]

/-! ### The two ends of arming -/

/-- The grant armed with nothing OPEN left, as its settlement leaves it. -/
def Grant.unsold (g : Grant) (kept : List Allowance) : Grant :=
  { g with
    allowances := kept
    attached := []
    outcome := some (g.outcome.getD (if kept = [] then EndReason.lineLockout else EndReason.limit))
    state := .settled
    decisionTimer := .stopped
    liftTimer := .stopped
    idleEndTimer := .stopped
    holdTimer := .stopped }

/-- What arming the grant `g` of slot `i` with the kept allowances and points makes of the state `s`. -/
structure Arms (s t : State) (i : Fin 24) (g : Grant) (kept : List Allowance) (points : List (Fin 32)) : Prop where
  others : ∀ j, j ≠ i → t.grantAt j = s.grantAt j
  tagCounter : t.gm.tagCounter = s.gm.tagCounter
  lines : t.lines = s.lines
  tu : t.tu = s.tu
  cp : t.cp = s.cp
  pins : t.pins = s.pins
  draws : t.draws = s.draws
  pending : t.pending = s.pending
  opened : (∃ a ∈ kept, a.isOpen = true) →
    t.grantAt i = some
        { g with allowances := kept, attached := points, state := .armed, liftTimer := Timer.start s.cp.timers.lift }
      ∧ (∀ p, t.point p = if p ∈ points then { s.point p with tag := some g.tag } else s.point p)
      ∧ t.gm.pendingTags = s.gm.pendingTags ∧ t.gm.settledTags = s.gm.settledTags
      ∧ t.su = s.su ∧ t.ss = s.ss ∧ t.au = s.au
      ∧ (g.source = some .standinOffline → t.ibi = s.ibi)
      ∧ (g.source ≠ some .standinOffline → t.ibi =
          (queueNotice g.lane
            (.approved g.tag (kept.map fun a => { line := a.line, cap := (a.armed.map (·.cap)).getD 0 })) s).ibi)
  ended : (∀ a ∈ kept, a.isOpen = false) →
    t.grantAt i = some (g.unsold kept)
      ∧ (∀ p, t.point p = if p ∈ points then { s.point p with tag := none } else s.point p)
      ∧ t.gm.pendingTags = s.gm.pendingTags.filter (· != g.tag) ∧ t.gm.settledTags = s.gm.settledTags ++ [g.tag]
      ∧ ((g.card = none ∨ g.source ≠ some .standinOffline ∧ g.source ≠ some .standinTimeout) → t.su = s.su)
      ∧ (∀ c, g.card = some c → (g.source = some .standinOffline ∨ g.source = some .standinTimeout) →
          t.su = s.su.addAmount c.pan 0)
      ∧ (s.ss.site ≠ .halting → t.ss = s.ss ∧ t.au = s.au)
      ∧ t.ibi =
        (queueNotice g.lane
          (.saleEnd g.tag (g.unsold kept).outcome g.degraded
            (kept.map fun a => { line := a.line, volume := 0, amount := 0 })) s).ibi

/-- The state in which the grant has its armed form and its points their tag. -/
def attachedState (i : Fin 24) (g : Grant) (s : State) : State :=
  attachAll g.tag (armedForm s g).attached (s.setSlot i (some (armedForm s g)))

theorem attachedState_grantAt (i : Fin 24) (g : Grant) (s : State) (j : Fin 24) :
    (attachedState i g s).grantAt j = if j = i then some (armedForm s g) else s.grantAt j := by
  rw [attachedState, attachAll_grantAt, setSlot_grantAt]

theorem attachedState_point (i : Fin 24) (g : Grant) (s : State) (p : Fin 32) :
    (attachedState i g s).point p =
      if p ∈ (armedForm s g).attached then { s.point p with tag := some g.tag } else s.point p := by
  rw [attachedState, attachAll_point, setSlot_point]

theorem allExhausted_iff {g : Grant} : g.allExhausted = true ↔ ∀ a ∈ g.allowances, a.isOpen = false := by
  simp [Grant.allExhausted]

theorem armingEnd_opened {i : Fin 24} {g : Grant} {s : State} (hg : s.grantAt i = some g)
    (opens : ∃ a ∈ g.allowances, a.isOpen = true) :
    armingEnd i s =
      if g.source = some .standinOffline then
        s.setSlot i (some { g with state := .armed, liftTimer := Timer.start s.cp.timers.lift })
      else
        queueNotice g.lane (.approved g.tag g.caps)
          (s.setSlot i (some { g with state := .armed, liftTimer := Timer.start s.cp.timers.lift })) := by
  obtain ⟨a, ha, isOpen⟩ := opens
  have nonempty : g.allowances.isEmpty = false := by
    rw [List.isEmpty_eq_false_iff]
    exact List.ne_nil_of_mem ha
  have left : g.allExhausted = false := by
    rw [← Bool.not_eq_true, allExhausted_iff]
    intro none
    rw [none a ha] at isOpen
    exact absurd isOpen (by simp)
  simp [armingEnd, hg, nonempty, left]

theorem armingEnd_ended {i : Fin 24} {g : Grant} {s : State} (hg : s.grantAt i = some g)
    (none : ∀ a ∈ g.allowances, a.isOpen = false) :
    armingEnd i s = endNow i (if g.allowances = [] then .lineLockout else .limit) s := by
  have exhausted : g.allExhausted = true := allExhausted_iff.mpr none
  unfold armingEnd
  simp only [hg, exhausted, if_true, List.isEmpty_iff]
  split <;> rfl

/-- The grant armed: its lift timer runs. -/
def Grant.nowArmed (g : Grant) (code : Nat) : Grant := { g with state := .armed, liftTimer := Timer.start code }

theorem arming_opened {i : Fin 24} {g : Grant} {s : State} (hg : s.grantAt i = some g)
    (opens : ∃ a ∈ (armedForm s g).allowances, a.isOpen = true) :
    arm i s =
      if g.source = some .standinOffline then
        (attachedState i g s).setSlot i (some ((armedForm s g).nowArmed s.cp.timers.lift))
      else
        queueNotice g.lane (.approved g.tag (armedForm s g).caps)
          ((attachedState i g s).setSlot i (some ((armedForm s g).nowArmed s.cp.timers.lift))) := by
  have stands : (attachedState i g s).grantAt i = some (armedForm s g) := by rw [attachedState_grantAt, if_pos rfl]
  have timers : (attachedState i g s).cp = s.cp := by simp [attachedState]
  rw [arming_eq hg, ← attachedState, armingEnd_opened stands opens, timers]
  rfl

/-- The grant that arming leaves nothing to sell, before its settlement. -/
def undeliverable (s : State) (g : Grant) : Grant :=
  (armedForm s g).recordOutcome (if (armedForm s g).allowances = [] then .lineLockout else .limit)

theorem arming_ended {i : Fin 24} {g : Grant} {s : State} (hg : s.grantAt i = some g)
    (none : ∀ a ∈ (armedForm s g).allowances, a.isOpen = false) :
    arm i s = settle i ((attachedState i g s).setSlot i (some (undeliverable s g))) := by
  have stands : (attachedState i g s).grantAt i = some (armedForm s g) := by rw [attachedState_grantAt, if_pos rfl]
  rw [arming_eq hg, ← attachedState, armingEnd_ended stands none, endNow_eq stands]
  rfl

theorem undeliverable_tag (s : State) (g : Grant) : (undeliverable s g).tag = g.tag := rfl

theorem undeliverable_totalAmount (s : State) (g : Grant) : (undeliverable s g).totalAmount = 0 :=
  armedForm_totalAmount s g

theorem openAllowance_cases (kept : List Allowance) :
    (∃ a ∈ kept, a.isOpen = true) ∨ ∀ a ∈ kept, a.isOpen = false := by
  by_cases h : ∃ a ∈ kept, a.isOpen = true
  · exact .inl h
  · exact .inr fun a ha => by simpa using fun e => h ⟨a, ha, e⟩

theorem arming_others {i j : Fin 24} {g : Grant} {s : State} (hg : s.grantAt i = some g) (live : g.state ≠ .settled)
    (ne : j ≠ i) : (arm i s).grantAt j = s.grantAt j := by
  have others : ∀ x, ((attachedState i g s).setSlot i x).grantAt j = s.grantAt j := fun x => by
    rw [setSlot_grantAt, if_neg ne, attachedState_grantAt, if_neg ne]
  rcases openAllowance_cases (armedForm s g).allowances with opens | none
  · rw [arming_opened hg opens]
    split
    · exact others _
    · rw [queueNotice_grantAt]; exact others _
  · rw [arming_ended hg none, settle_grantAt (g := undeliverable s g) (setSlot_grantAt_self ..) live, if_neg ne]
    exact others _

theorem arming_tagCounter {i : Fin 24} {g : Grant} {s : State} (hg : s.grantAt i = some g) :
    (arm i s).gm.tagCounter = s.gm.tagCounter := by
  rcases openAllowance_cases (armedForm s g).allowances with opens | none
  · rw [arming_opened hg opens]
    split <;> simp [attachedState]
  · rw [arming_ended hg none, settle_gm, settleCore_tagCounter]
    simp [attachedState]

theorem arms_arm {i : Fin 24} {g : Grant} {s : State} (hg : s.grantAt i = some g) (live : g.state ≠ .settled) :
    Arms s (arm i s) i g (armedForm s g).allowances (armedForm s g).attached := by
  refine ⟨fun j ne => arming_others hg live ne, arming_tagCounter hg, by simp, by simp, by simp, by simp, by simp, by simp,
    fun opens => ?_, fun none => ?_⟩
  · have armed := arming_opened hg opens
    rw [armedForm_caps] at armed
    refine ⟨?_, fun p => ?_, ?_, ?_, ?_, ?_, ?_, fun source => ?_, fun source => ?_⟩
    · rw [armed]; split <;> simp [armedForm, Grant.nowArmed]
    · rw [← attachedState_point i g s p, armed]; split <;> simp
    · rw [armed]; split <;> simp [attachedState]
    · rw [armed]; split <;> simp [attachedState]
    · rw [armed]; split <;> simp [attachedState]
    · rw [armed]; split <;> simp [attachedState]
    · rw [armed]; split <;> simp [attachedState]
    · rw [armed, if_pos source]; simp [attachedState]
    · rw [armed, if_neg source]
      exact queueNotice_ibi_congr (by simp [attachedState]) ..
  · have stands := setSlot_grantAt_self (attachedState i g s) i (some (undeliverable s g))
    have settled := settlementFollowsOrder _ _ _ stands live
    have added := settleCore_su stands live
    rw [← settle_su] at added
    rw [← arming_ended hg none] at settled added
    obtain ⟨slot, _, _, pending, done, points, notice, _, free, _, still, _⟩ := settled
    refine ⟨slot, fun p => ?_, ?_, ?_, fun h => ?_, fun c card source => ?_, fun site => ?_, ?_⟩
    · rw [points, setSlot_point, attachedState_point]
      by_cases hp : p ∈ (armedForm s g).attached <;> simp [undeliverable, hp, Grant.recordOutcome]
    · rw [pending, ← filter_ne]; simp [attachedState, undeliverable_tag]
    · rw [done]; simp [attachedState, undeliverable_tag]
    · rw [free h]; simp [attachedState]
    · rw [added, handAmount_su (g := undeliverable s g) card source, undeliverable_totalAmount]
      simp [attachedState]
    · have idle := still fun halting => site (by simpa [attachedState] using halting.1)
      rw [idle.1, idle.2]
      simp [attachedState]
    · rw [notice, queueNotice_ibi_congr (s := s) (by simp [attachedState]), ← armedForm_saleLines]
      rfl

end Sys2Proof.Machine
end

section
/-! PROOFS. The host arms a grant: the approval of a PENDING grant (R13) and OPEN_GRANT (R9). -/

namespace Sys2Proof.Machine

/-! ### The answer with the armed grant's record -/

theorem Arms.slot {s t : State} {i : Fin 24} {g : Grant} {kept : List Allowance} {points : List (Fin 32)}
    (h : Arms s t i g kept points) : ∃ g', t.grantAt i = some g' := by
  rcases openAllowance_cases kept with opens | none
  · obtain ⟨slot, _⟩ := h.opened opens
    exact ⟨_, slot⟩
  · obtain ⟨slot, _⟩ := h.ended none
    exact ⟨_, slot⟩

/-- The command that arms a grant answers with the record the grant then has. -/
theorem Arms.answer {s₀ s t : State} {i : Fin 24} {g : Grant} {kept : List Allowance} {points : List (Fin 32)}
    (h : Arms s t i g kept points) (same : s.cp = s₀.cp) :
    ∃ g', (t.giveAnswer (recordAnswer i t)).grantAt i = some g'
      ∧ (t.giveAnswer (recordAnswer i t)).cp = (s₀.giveAnswer (okWith (grantRecord g'))).cp := by
  obtain ⟨g', slot⟩ := h.slot
  exact ⟨g', slot, by simp [recordAnswer, slot, State.giveAnswer, h.cp, same]⟩

/-- On a site that is not HALTING, arming leaves the site and the events. -/
theorem Arms.site {s t : State} {i : Fin 24} {g : Grant} {kept : List Allowance} {points : List (Fin 32)}
    (h : Arms s t i g kept points) (site : s.ss.site ≠ .halting) : t.ss = s.ss ∧ t.au = s.au := by
  rcases openAllowance_cases kept with opens | none
  · obtain ⟨_, _, _, _, _, ss, au, _⟩ := h.opened opens
    exact ⟨ss, au⟩
  · obtain ⟨_, _, _, _, _, _, rest, _⟩ := h.ended none
    exact rest site

/-- An approval that books nothing leaves the tables. -/
theorem Arms.unbooked {s t : State} {i : Fin 24} {g : Grant} {kept : List Allowance} {points : List (Fin 32)}
    (h : Arms s t i g kept points) (source : g.source ≠ some .standinOffline ∧ g.source ≠ some .standinTimeout) :
    t.su = s.su := by
  rcases openAllowance_cases kept with opens | none
  · obtain ⟨_, _, _, _, su, _⟩ := h.opened opens
    exact su
  · obtain ⟨_, _, _, _, su, _⟩ := h.ended none
    exact su (.inr source)

/-! ### Entries and limits -/

theorem limitOf_of_good {es : List LimitEntry} (good : GoodEntries es) {e : LimitEntry} (he : e ∈ es) :
    ∃ limit, limitOf e = some limit := by
  obtain ⟨kind, h⟩ := Option.ne_none_iff_exists'.mp (good.1 e he).2
  exact ⟨(kind, e.value), by rw [limitOf, h]; rfl⟩

/-- A listed line has a limit. -/
theorem entryFor_limit {es : List LimitEntry} (good : GoodEntries es) (a : Allowance) :
    ((entryFor es a.line).map fun e => { a with limit := limitOf e }) =
      ((entryFor es a.line).bind limitOf).map fun limit => { a with limit := some limit } := by
  cases entry : entryFor es a.line with
  | none => rfl
  | some e =>
    obtain ⟨limit, h⟩ := limitOf_of_good good (List.mem_of_find?_eq_some entry)
    simp [h]

/-! ### APPROVE -/

/-- The grant as the host's verdict gives it, before it is armed. -/
def Grant.approved (g : Grant) (es : List LimitEntry) : Grant := { g.withLimits es with decisionTimer := .stopped }

/-- The state in which that grant, out of the pending queue, is armed. -/
def approvedState (i : Fin 24) (g : Grant) (es : List LimitEntry) (s : State) : State :=
  (s.setSlot i (some (g.approved es))).modGm fun m => { m with pendingTags := m.pendingTags.filter (· != g.tag) }

theorem approvedState_grantAt (i : Fin 24) (g : Grant) (es : List LimitEntry) (s : State) (j : Fin 24) :
    (approvedState i g es s).grantAt j = if j = i then some (g.approved es) else s.grantAt j := by
  rw [approvedState, modGm_grantAt _ _ rfl, setSlot_grantAt]

theorem approve_eq {i : Fin 24} {g : Grant} {s : State} (hg : s.grantAt i = some g) (es : List LimitEntry) :
    approve i es s = arm i (approvedState i g es s) := by
  have stands : (s.modGrant i (·.withLimits es)).grantAt i = some (g.withLimits es) := by simp [hg]
  rw [approve, leavePending_eq stands]
  simp only [State.modGrant, hg, setSlot_setSlot, approvedState, Grant.approved]
  rfl

theorem approve_armedAs {s : State} {g : Grant} {es : List LimitEntry} (good : GoodEntries es) :
    ArmedAs s (fun l => (entryFor es l).bind limitOf) g
      { g with
        allowances := (armedForm s (g.approved es)).allowances
        attached := (armedForm s (g.approved es)).attached } :=
  armedAs_armedForm rfl rfl (List.filterMap_congr fun a _ => entryFor_limit good a)

/-- Settles O14. -/
theorem approveArmsGrant : Obligations.ApproveArmsGrant := by
  intro tag es s i g takes good held waits running nonempty listed
  obtain rfl := held.tag_eq
  have row := exec_answers takes rfl (doDecide_approve good held waits (entriesMatch_iff.mpr ⟨nonempty, listed⟩))
  rw [approve_eq held.2] at row
  have stands := approvedState_grantAt i g es s
  have arms := arms_arm (stands i |>.trans (if_pos rfl)) (by simp [Grant.approved, Grant.withLimits, waits])
  rw [armedForm_congr (t := approvedState i g es s) (s := s) rfl rfl] at arms
  have source : (g.approved es).source ≠ some .standinOffline ∧ (g.approved es).source ≠ some .standinTimeout := by
    simp [Grant.approved, Grant.withLimits]
  have su := arms.unbooked source
  obtain ⟨ss, au⟩ := arms.site (fun h => by simp [approvedState, running] at h)
  refine ⟨_, _, _, row, approve_armedAs good.2, fun j ne => (arms.others j ne).trans ((stands j).trans (if_neg ne)),
    arms.tagCounter, ?_, arms.lines, su, arms.tu, ss, au, arms.pins, arms.draws, arms.pending, arms.answer rfl,
    fun opens => ?_, fun none => ?_⟩
  · rcases openAllowance_cases (armedForm s (g.approved es)).allowances with opens | none
    · obtain ⟨_, _, pending, _⟩ := arms.opened opens
      exact pending.trans (filter_ne ..)
    · obtain ⟨_, _, pending, _⟩ := arms.ended none
      exact pending.trans (filter_twice s.gm.pendingTags g.tag)
  · obtain ⟨slot, points, _, settled, _, _, _, _, notice⟩ := arms.opened opens
    exact ⟨slot, points, settled, (notice source.1).trans (queueNotice_ibi_congr (by rfl) ..)⟩
  · obtain ⟨slot, points, _, settled, _, _, _, notice⟩ := arms.ended none
    exact ⟨_, rfl, slot, points, settled, notice.trans (queueNotice_ibi_congr (by rfl) ..)⟩

/-! ### OPEN_GRANT -/

theorem openGrantValid_iff {lane : Nat} {es : List LimitEntry} :
    openGrantValid lane es = true ↔ lane < 8 ∧ 1 ≤ es.length ∧ es.length ≤ 4 ∧ GoodEntries es := by
  simp only [openGrantValid, Bool.and_eq_true, decide_eq_true_eq, entriesValid_iff, and_assoc]

theorem laneOf_val (n : Fin 8) : laneOf n.val = some n := by simp [laneOf]

theorem laneBusy_iff {s : State} {n : Fin 8} :
    s.laneBusy n = true ↔ ∃ i g, s.grantAt i = some g ∧ g.lane = n ∧ g.state ≠ .settled := by
  simp only [State.laneBusy, List.any_eq_true, mem_grants, Grant.isLive, Bool.and_eq_true, beq_iff_eq, bne_iff_ne]
  constructor
  · rintro ⟨g, ⟨i, hi⟩, h⟩; exact ⟨i, g, hi, h⟩
  · rintro ⟨i, g, hi, h⟩; exact ⟨g, ⟨i, hi⟩, h⟩

theorem laneBusy_eq_false {s : State} {n : Fin 8} :
    s.laneBusy n = false ↔ ∀ i g, s.grantAt i = some g → ¬ (g.lane = n ∧ g.state ≠ .settled) := by
  rw [← Bool.not_eq_true, laneBusy_iff]
  exact ⟨fun h i g hi live => h ⟨i, g, hi, live⟩, fun h ⟨i, g, hi, live⟩ => h i g hi live⟩

theorem entryFor_isSome {es : List LimitEntry} {l : Fin 4} :
    (entryFor es l).isSome = es.any (·.line == l.val) := by
  rw [entryFor, List.isSome_find?]

theorem singleBit_getLsbD (k l : Fin 4) : (1#4 <<< k.val).getLsbD l.val = decide (l = k) := by
  decide +revert

theorem setBits_getLsbD (test : Fin 4 → Bool) (ls : List (Fin 4)) (b : BitVec 4) (l : Fin 4) :
    (ls.foldl (fun b k => if test k then b ||| (1#4 <<< k.val) else b) b).getLsbD l.val =
      (b.getLsbD l.val || (decide (l ∈ ls) && test l)) := by
  induction ls generalizing b with
  | nil => simp
  | cons k rest ih =>
    rw [List.foldl_cons, ih]
    by_cases e : l = k
    · subst e
      cases test l <;> simp
    · cases test k with
      | false => simp [e]
      | true => rw [if_pos rfl, BitVec.getLsbD_or, singleBit_getLsbD]; simp [e]

theorem linesOfEntries_getLsbD (es : List LimitEntry) (l : Fin 4) :
    (linesOfEntries es).getLsbD l.val = true ↔ ∃ e ∈ es, e.line = l.val := by
  rw [linesOfEntries, setBits_getLsbD, entryFor_isSome]
  simp [allLines]

/-- The allowances of OPEN_GRANT, line by line. -/
theorem attendantAllowances_eq (s : State) (es : List LimitEntry) :
    attendantAllowances s es =
      (allLines.filter fun l => (s.line l).state == .available && es.any (·.line == l.val)).map fun l =>
        { line := l, ceiling := s.lineField l (·.ceiling), limit := (entryFor es l).bind limitOf, armed := none } := by
  rw [attendantAllowances, ← List.filterMap_eq_map, List.filterMap_filter]
  refine List.filterMap_congr fun l _ => ?_
  by_cases available : (s.line l).state = .available
  · rw [if_pos available, available, ← entryFor_isSome]
    cases entry : entryFor es l <;> simp [entry]
  · rw [if_neg available]
    simp [available]

/-- The grant of OPEN_GRANT as it is created, before it is armed. -/
def attendantMade (n : Fin 8) (es : List LimitEntry) (s : State) : Grant :=
  { attendantGrant n es s with tag := s.nextTag }

theorem attendantMade_armedAs {n : Fin 8} {es : List LimitEntry} {s : State} (good : GoodEntries es) :
    ArmedAs s (fun l => (entryFor es l).bind limitOf) (attendantMade n es s)
      { attendantMade n es s with
        allowances := (armedForm s (attendantMade n es s)).allowances
        attached := (armedForm s (attendantMade n es s)).attached } := by
  refine armedAs_armedForm rfl rfl ?_
  have limited : ∀ a ∈ attendantAllowances s es,
      ((entryFor es a.line).bind limitOf).map (fun limit => { a with limit := some limit }) = some a := by
    intro a ha
    rw [attendantAllowances_eq] at ha
    obtain ⟨l, hl, rfl⟩ := List.mem_map.mp ha
    have listed : es.any (·.line == l.val) = true := by
      simp only [List.mem_filter, Bool.and_eq_true] at hl
      exact hl.2.2
    rw [← entryFor_isSome] at listed
    obtain ⟨e, entry⟩ := Option.isSome_iff_exists.mp listed
    obtain ⟨limit, h⟩ := limitOf_of_good good (List.mem_of_find?_eq_some entry)
    simp [entry, h]
  exact (List.filterMap_congr limited).trans List.filterMap_some |>.symm

theorem doOpenGrant_opens {n : Fin 8} {es : List LimitEntry} {s : State} {i : Fin 24}
    (valid : openGrantValid n.val es = true) (running : s.ss.site = .running) (quiet : s.laneBusy n = false)
    (free : s.freeSlot = some i) (nonempty : (attendantAllowances s es).isEmpty = false) :
    doOpenGrant n.val es s =
      (arm i (createIn i (attendantGrant n es s) s),
        recordAnswer i (arm i (createIn i (attendantGrant n es s) s))) := by
  simp [doOpenGrant, laneOf_val, valid, running, quiet, free, nonempty]

theorem attendantAllowances_isEmpty {s : State} {es : List LimitEntry} :
    (attendantAllowances s es).isEmpty = true ↔
      ∀ l : Fin 4, (∃ e ∈ es, e.line = l.val) → (s.line l).state ≠ .available := by
  rw [attendantAllowances_eq]
  simp only [List.isEmpty_iff, List.map_eq_nil_iff, List.filter_eq_nil_iff, allLines, List.mem_finRange,
    forall_const, Bool.and_eq_true, beq_iff_eq, List.any_eq_true, not_and]
  exact forall_congr' fun l => ⟨fun h listed available => h available listed, fun h available listed => h listed available⟩

/-- Settles O15. -/
theorem openGrantChecksAndArms : Obligations.OpenGrantChecksAndArms := by
  intro lane es s takes
  refine ⟨fun bad => exec_answers takes rfl ?_, ?_⟩
  · have invalid : openGrantValid lane es = false := by rw [← Bool.not_eq_true, openGrantValid_iff]; exact bad
    cases h : laneOf lane <;> simp [doOpenGrant, h, invalid]
  rintro n rfl one four good
  have valid : openGrantValid n.val es = true := openGrantValid_iff.mpr ⟨n.isLt, one, four, good⟩
  refine ⟨fun site => exec_answers takes rfl ?_, fun running busy => exec_answers takes rfl ?_, fun running quiet => ?_⟩
  · simp [doOpenGrant, laneOf_val, valid, site]
  · simp [doOpenGrant, laneOf_val, valid, running, laneBusy_iff.mpr busy]
  have quiet : s.laneBusy n = false := laneBusy_eq_false.mpr quiet
  refine ⟨fun full => exec_answers takes rfl ?_, fun i empty lower => ?_⟩
  · simp [doOpenGrant, laneOf_val, valid, running, quiet, freeSlot_eq_none.mpr full]
  have free := freeSlot_lowest empty lower
  refine ⟨fun none => exec_answers takes rfl ?_, fun ⟨l, listed, available⟩ => ?_⟩
  · have bare : (attendantAllowances s es).isEmpty = true := attendantAllowances_isEmpty.mpr none
    simp [doOpenGrant, laneOf_val, valid, running, quiet, free, bare]
  have nonempty : (attendantAllowances s es).isEmpty = false := by
    rw [← Bool.not_eq_true, attendantAllowances_isEmpty]
    exact fun none => none l listed available
  have row := exec_answers takes rfl (doOpenGrant_opens valid running quiet free nonempty)
  have stands := createIn_grantAt i i (attendantGrant n es s) s
  rw [if_pos rfl] at stands
  have arms := arms_arm stands (by simp [attendantGrant, Grant.blank])
  rw [armedForm_congr (t := createIn i (attendantGrant n es s) s) (s := s) rfl rfl] at arms
  have source : (attendantMade n es s).source ≠ some .standinOffline
      ∧ (attendantMade n es s).source ≠ some .standinTimeout := by
    simp [attendantMade, attendantGrant]
  have su := arms.unbooked source
  obtain ⟨ss, au⟩ := arms.site (fun h => by simp [createIn, running] at h)
  have made := attendantMade_armedAs (n := n) (s := s) good
  simp only [attendantMade, attendantGrant, attendantAllowances_eq, Grant.blank] at made arms row su ss au source
  refine ⟨linesOfEntries es, _, _, _, linesOfEntries_getLsbD es, made, row,
    fun j ne => (arms.others j ne).trans ((createIn_grantAt i j _ s).trans (if_neg ne)), arms.tagCounter, arms.lines, su,
    arms.tu, ss, au, arms.pins, arms.draws, arms.pending, arms.answer rfl, fun opens => ?_, fun none => ?_⟩
  · obtain ⟨slot, points, pending, settled, _, _, _, _, notice⟩ := arms.opened opens
    exact ⟨slot, points, settled, pending, (notice source.1).trans (queueNotice_ibi_congr (by rfl) ..)⟩
  · obtain ⟨slot, points, pending, settled, _, _, _, notice⟩ := arms.ended none
    exact ⟨_, rfl, slot, points, settled, pending.trans (filter_ne ..),
      notice.trans (queueNotice_ibi_congr (by rfl) ..)⟩

end Sys2Proof.Machine
end

section
/-! PROOFS. The stand-in (R53 to R57): what booking does to the tally, and the expiry of a decision timer (R15, R56). -/

namespace Sys2Proof.Machine

/-! ### Booking -/

theorem positionOf_unique {u : ScreeningUnit} {pan : Pan} {k : Fin 128} {e : TallyEntry} (stands : u.entryAt k = some e)
    (own : e.pan = pan) (unique : ∀ j f, u.entryAt j = some f → f.pan = pan → j = k) : u.positionOf pan = some k := by
  cases h : u.positionOf pan with
  | none => exact absurd own (positionOf_eq_none.mp h k e stands)
  | some j =>
    obtain ⟨f, hf, same⟩ := positionOf_eq_some h
    rw [unique j f hf same]

theorem emptyPosition_lowest {u : ScreeningUnit} {k : Fin 128} (empty : u.entryAt k = none)
    (lower : ∀ j, j < k → u.entryAt j ≠ none) : u.emptyPosition = some k :=
  find_finRange (by simp [empty]) fun j hj => by
    simpa [Option.isNone_eq_false_iff, Option.isSome_iff_ne_none] using lower j hj

theorem book_frame (u : ScreeningUnit) (pan : Pan) (program : Nat) :
    (u.book pan program).programs = u.programs ∧ (u.book pan program).denied = u.denied
      ∧ (u.book pan program).link = u.link ∧ (u.book pan program).date = u.date := by
  unfold ScreeningUnit.book
  split
  · exact ⟨rfl, rfl, rfl, rfl⟩
  · split <;> exact ⟨rfl, rfl, rfl, rfl⟩

theorem booked_book (u : ScreeningUnit) (pan : Pan) (program : Nat) : Booked u (u.book pan program) pan program := by
  obtain ⟨programs, denied, link, date⟩ := book_frame u pan program
  refine ⟨programs, denied, link, date, fun k e stands own unique => ?_, fun none k empty lower => ?_⟩
  · simp only [ScreeningUnit.book, positionOf_unique stands own unique, stands, Option.map_some]
    exact ⟨by simp, fun j ne => by simp [ne]⟩
  · simp only [ScreeningUnit.book, positionOf_eq_none.mpr none, emptyPosition_lowest empty lower]
    exact ⟨by simp, fun j ne => by simp [ne]⟩

theorem Booked.congr {u v w : ScreeningUnit} {pan : Pan} {program : Nat} (h : Booked u v pan program)
    (programs : w.programs = v.programs) (denied : w.denied = v.denied) (link : w.link = v.link) (date : w.date = v.date)
    (entries : ∀ k, w.entryAt k = v.entryAt k) : Booked u w pan program := by
  obtain ⟨p, d, l, t, listed, added⟩ := h
  refine ⟨programs.trans p, denied.trans d, link.trans l, date.trans t, ?_, ?_⟩
  · simpa only [entries] using listed
  · simpa only [entries] using added

/-- The amounts of the tally are within the most an entry holds. -/
def AmountsBounded (u : ScreeningUnit) : Prop := ∀ k e, u.entryAt k = some e → e.amount ≤ Config.tallyAmountTop

theorem amountsBounded_book {u : ScreeningUnit} (h : AmountsBounded u) (pan : Pan) (program : Nat) :
    AmountsBounded (u.book pan program) := by
  intro k e he
  unfold ScreeningUnit.book at he
  split at he
  · rw [setEntry_entryAt] at he
    split at he
    · obtain ⟨f, hf, rfl⟩ := Option.map_eq_some_iff.mp he
      exact h _ f hf
    · exact h k e he
  · split at he
    · rw [setEntry_entryAt] at he
      split at he
      · rw [← Option.some.inj he]; simp
      · exact h k e he
    · exact h k e he

/-- An amount of 0 changes no entry within the bound. -/
theorem addAmount_zero_entryAt {u : ScreeningUnit} (h : AmountsBounded u) (pan : Pan) (k : Fin 128) :
    (u.addAmount pan 0).entryAt k = u.entryAt k := by
  rw [addAmount_entryAt]
  split
  · cases he : u.entryAt k with
    | none => rfl
    | some e => simp [Nat.min_eq_left (h k e he)]
  · rfl

/-- A settlement that adds nothing leaves the approval booked. -/
theorem booked_addAmount_zero {u : ScreeningUnit} (h : AmountsBounded u) (pan : Pan) (program : Nat) :
    Booked u ((u.book pan program).addAmount pan 0) pan program := by
  obtain ⟨programs, denied, link, date⟩ := addAmount_frame (u.book pan program) pan 0
  exact (booked_book u pan program).congr programs denied link date
    (addAmount_zero_entryAt (amountsBounded_book h pan program) pan)

/-! ### The stand-in checks -/

theorem standinChecks_refused {timeout : Bool} {pan : Pan} {p : Program} {u : ScreeningUnit}
    (h : modePermits timeout p.mode = false ∨ p.countLimit ≤ ((u.entryOf pan).map (·.count)).getD 0) :
    standinChecks timeout pan p u = .refused := by
  unfold standinChecks
  rcases h with h | h <;> simp [h]

theorem standinChecks_tallyFull {timeout : Bool} {pan : Pan} {p : Program} {u : ScreeningUnit}
    (mode : modePermits timeout p.mode = true) (count : ((u.entryOf pan).map (·.count)).getD 0 < p.countLimit)
    (unlisted : u.positionOf pan = none) (full : u.emptyPosition = none) :
    standinChecks timeout pan p u = .tallyFull := by
  simp [standinChecks, mode, count, unlisted, full]

theorem standinChecks_approved {timeout : Bool} {pan : Pan} {p : Program} {u : ScreeningUnit}
    (mode : modePermits timeout p.mode = true) (count : ((u.entryOf pan).map (·.count)).getD 0 < p.countLimit)
    (room : u.positionOf pan ≠ none ∨ u.emptyPosition ≠ none) : standinChecks timeout pan p u = .approved := by
  have room : ((u.positionOf pan).isNone && u.emptyPosition.isNone) = false := by
    rw [Bool.and_eq_false_iff]
    simpa [Option.isNone_eq_false_iff, Option.isSome_iff_ne_none] using room
  simp [standinChecks, mode, count, room]

theorem timeoutPermits_iff {m : StandinMode} : modePermits true m = true ↔ m = .offlineAndTimeout := by
  cases m <;> simp [modePermits]

theorem offlinePermits_iff {m : StandinMode} : modePermits false m = true ↔ m ≠ .never := by
  cases m <;> simp [modePermits]

/-- A grant approved by the stand-in is armed at the program's limits. -/
theorem standin_armedAs {s : State} {g : Grant} (source : Source) (p : Program) (timer : Timer) :
    ArmedAs s (fun l => some (.volume, ((s.line l).config.map fun x => classValue p.limits x.fuel).getD 0)) g
      { g with
        allowances :=
          (armedForm s (({ g with decisionTimer := timer } : Grant).withStandin source (standinLimit s p))).allowances
        attached :=
          (armedForm s (({ g with decisionTimer := timer } : Grant).withStandin source (standinLimit s p))).attached } :=
  armedAs_armedForm rfl rfl (by simp [Grant.withStandin, standinLimit])

/-! ### The expiry of a decision timer -/

/-- The grant as a stand-in approval at its timeout gives it, before it is armed. -/
def Grant.stoodIn (g : Grant) (s : State) (p : Program) : Grant :=
  ({ g with decisionTimer := .stopped } : Grant).withStandin .standinTimeout (standinLimit s p)

/-- The state in which that grant, booked and out of the pending queue, is armed. -/
def stoodInState (i : Fin 24) (g : Grant) (c : Card) (p : Program) (s : State) : State :=
  ((s.setSlot i (some (g.stoodIn s p))).modGm fun m =>
    { m with pendingTags := m.pendingTags.filter (· != g.tag) }).modSu (·.book c.pan p.id)

theorem stoodInState_grantAt (i : Fin 24) (g : Grant) (c : Card) (p : Program) (s : State) (j : Fin 24) :
    (stoodInState i g c p s).grantAt j = if j = i then some (g.stoodIn s p) else s.grantAt j := by
  rw [stoodInState, modSu_grantAt, modGm_grantAt _ _ rfl, setSlot_grantAt]

theorem stoodInState_eq {i : Fin 24} {g : Grant} {s : State} (hg : s.grantAt i = some g) (c : Card) (p : Program) :
    ((leavePending i s).modSu (·.book c.pan p.id)).modGrant i (·.withStandin .standinTimeout (standinLimit s p)) =
      stoodInState i g c p s := by
  have stands : ((leavePending i s).modSu (·.book c.pan p.id)).grantAt i = some { g with decisionTimer := .stopped } := by
    rw [modSu_grantAt, leavePending_grantAt hg, if_pos rfl]
  simp only [State.modGrant, stands]
  rw [leavePending_eq hg]
  simp [stoodInState, Grant.stoodIn, State.setSlot, State.modGm, State.modSu]

/-- The state in which a grant that its timeout declines settles. -/
theorem timedOut_eq {i : Fin 24} {g : Grant} {s : State} (hg : s.grantAt i = some g) (r : EndReason) :
    (leavePending i s).modGrant i (·.recordOutcome r) =
      (s.setSlot i (some { g with decisionTimer := .stopped, outcome := some (g.outcome.getD r) })).modGm fun m =>
        { m with pendingTags := m.pendingTags.filter (· ≠ g.tag) } := by
  have stands : (leavePending i s).grantAt i = some { g with decisionTimer := .stopped } := by
    rw [leavePending_grantAt hg, if_pos rfl]
  simp only [State.modGrant, stands]
  rw [leavePending_eq hg]
  simp only [filter_ne]
  simp [State.setSlot, State.modGm, Grant.recordOutcome]

theorem decisionExpiry_row (tag : Nat) (s : State) : exec (.decisionTimerExpiry tag) s = .next (decisionExpiry tag s) := rfl

theorem modGrant_raiseTallyFull (i : Fin 24) (f : Grant → Grant) (s : State) :
    s.raiseTallyFull.modGrant i f = (s.modGrant i f).raiseTallyFull := rfl

section Expiry

variable {tag k : Nat} {s : State} {i : Fin 24} {g : Grant} {c : Card} {p : Program}

theorem decisionExpiry_gone (held : HeldIn s tag i g) (waits : g.state = .pending) (runs : g.decisionTimer = .running k)
    (card : g.card = some c) (gone : s.su.programs.find? (·.id == c.program) = none) :
    decisionExpiry tag s = endNow i .declinedTimeout (leavePending i s) := by
  simp [decisionExpiry, held.1, held.2, waits, runs, Timer.mayExpire, card, gone]

theorem decisionExpiry_refused (held : HeldIn s tag i g) (waits : g.state = .pending)
    (runs : g.decisionTimer = .running k) (card : g.card = some c)
    (covers : s.su.programs.find? (·.id == c.program) = some p) (checks : standinChecks true c.pan p s.su = .refused) :
    decisionExpiry tag s = endNow i .declinedTimeout (leavePending i s) := by
  simp [decisionExpiry, held.1, held.2, waits, runs, Timer.mayExpire, card, covers, checks]

theorem decisionExpiry_tallyFull (held : HeldIn s tag i g) (waits : g.state = .pending)
    (runs : g.decisionTimer = .running k) (card : g.card = some c)
    (covers : s.su.programs.find? (·.id == c.program) = some p) (checks : standinChecks true c.pan p s.su = .tallyFull) :
    decisionExpiry tag s = endNow i .declinedTimeout (leavePending i s).raiseTallyFull := by
  simp [decisionExpiry, held.1, held.2, waits, runs, Timer.mayExpire, card, covers, checks]

theorem decisionExpiry_approved (held : HeldIn s tag i g) (waits : g.state = .pending)
    (runs : g.decisionTimer = .running k) (card : g.card = some c)
    (covers : s.su.programs.find? (·.id == c.program) = some p) (checks : standinChecks true c.pan p s.su = .approved) :
    decisionExpiry tag s = arm i (stoodInState i g c p s) := by
  rw [← stoodInState_eq held.2]
  simp [decisionExpiry, held.1, held.2, waits, runs, Timer.mayExpire, card, covers, checks]

end Expiry

/-- Settles O24. -/
theorem decisionTimeoutUsesStandin : Obligations.DecisionTimeoutUsesStandin := by
  refine ⟨fun tag s i g held off => ?_, fun tag k s i g c held waits runs card => ?_⟩
  · rw [decisionExpiry_row]
    simp [decisionExpiry, held.1, held.2, mayExpire_eq_false off]
  obtain rfl := held.tag_eq
  have declined := congrArg (settle i) (timedOut_eq held.2 .declinedTimeout)
  rw [decisionExpiry_row]
  refine ⟨fun gone => ?_, fun p covers => ⟨fun refuses => ?_, fun mode count unlisted full => ?_, fun mode count room => ?_⟩⟩
  · rw [decisionExpiry_gone held waits runs card (by simpa using gone)]
    exact congrArg _ declined
  · rw [decisionExpiry_refused held waits runs card covers (standinChecks_refused
      (refuses.imp_left fun h => by rw [← Bool.not_eq_true, timeoutPermits_iff]; exact h))]
    exact congrArg _ declined
  · rw [decisionExpiry_tallyFull held waits runs card covers
      (standinChecks_tallyFull (timeoutPermits_iff.mpr mode) count unlisted full), endNow, modGrant_raiseTallyFull,
      timedOut_eq held.2]
  · rw [decisionExpiry_approved held waits runs card covers
      (standinChecks_approved (timeoutPermits_iff.mpr mode) count room)]
    have stands := stoodInState_grantAt i g c p s
    have arms := arms_arm ((stands i).trans (if_pos rfl)) (by simp [Grant.stoodIn, Grant.withStandin, waits])
    rw [armedForm_congr (t := stoodInState i g c p s) (s := s) rfl rfl] at arms
    refine ⟨_, _, _, rfl, standin_armedAs .standinTimeout p .stopped, ?_, arms.tagCounter, fun opens => ?_,
      fun none => ?_, fun j ne => (arms.others j ne).trans ((stands j).trans (if_neg ne)), arms.lines, arms.tu, arms.cp,
      arms.pins, arms.draws, arms.pending⟩
    · rcases openAllowance_cases (armedForm s (g.stoodIn s p)).allowances with opens | none
      · obtain ⟨_, _, pending, _⟩ := arms.opened opens
        exact pending.trans (filter_ne ..)
      · obtain ⟨_, _, pending, _⟩ := arms.ended none
        exact pending.trans (filter_twice s.gm.pendingTags g.tag)
    · obtain ⟨slot, points, _, settled, su, ss, au, _, notice⟩ := arms.opened opens
      exact ⟨slot, points, su, by rw [su]; exact booked_book .., settled, ss, au,
        (notice (by simp [Grant.stoodIn, Grant.withStandin])).trans (queueNotice_ibi_congr (by rfl) ..)⟩
    · obtain ⟨slot, points, _, settled, _, added, still, notice⟩ := arms.ended none
      refine ⟨_, rfl, slot, points, fun bounded => ?_, settled, still, notice.trans (queueNotice_ibi_congr (by rfl) ..)⟩
      rw [added c card (.inr rfl)]
      exact booked_addAmount_zero bounded ..

end Sys2Proof.Machine
end

section
/-! PROOFS. Screening (R46 to R57): what a request that passes every check becomes, ONLINE and OFFLINE. -/

namespace Sys2Proof.Machine

/-! ### Taking a message touches the island bus alone -/

theorem TakenFrom.eq {s s₁ : State} {lane : Fin 8} {m : LaneMessage} (taken : TakenFrom s lane m s₁) :
    s₁ = { s with ibi := s₁.ibi } := by
  rcases taken with ⟨_, rfl⟩ | ⟨rest, _, rfl⟩
  · rfl
  · have gm := goOnWith_gm rest s
    have su := goOnWith_su rest s
    have points := goOnWith_points rest s
    have lines := goOnWith_lines rest s
    have tu := goOnWith_tu rest s
    have ss := goOnWith_ss rest s
    have cp := goOnWith_cp rest s
    have au := goOnWith_au rest s
    have pins := goOnWith_pins rest s
    have draws := goOnWith_draws rest s
    have pending := goOnWith_pending rest s
    generalize goOnWith rest s = t at *
    cases t
    simp_all

/-! ### The checks of screening -/

theorem requestValid_iff {r : AuthRequest} : requestValid r = true ↔ GoodRequest r := by
  simp only [requestValid, panValid, yymmValid, isDigit, promptValid, GoodRequest, Bool.and_eq_true,
    decide_eq_true_eq, List.all_eq_true, Option.isSome_iff_ne_none, and_assoc]
  rfl

theorem coveringProgram_eq (s : State) (pan : Pan) :
    coveringProgram s.su.programs (programPrefix pan) = s.programFor pan := by
  simp only [coveringProgram, State.programFor, Bool.decide_and]
  rfl

theorem promptsMet_iff {required : BitVec 4} {ps : List Prompt} :
    promptsMet required ps = true ↔
      ∀ k, required.getLsbD (promptBit k) = true → ∃ q ∈ ps, q.kind = some k := by
  have each : ∀ k : PromptType, k ∈ [PromptType.driverId, .vehicleId, .odometer, .trailerId] := fun k => by
    cases k <;> simp
  simp only [promptsMet, List.all_eq_true, promptsPresent, Bool.or_eq_true, Bool.not_eq_true', List.any_eq_true,
    beq_iff_eq]
  refine ⟨fun h k asked => (h k (each k)).resolve_left (by simp [asked]), fun h k _ => ?_⟩
  cases asked : required.getLsbD (promptBit k)
  · exact .inl rfl
  · exact .inr (h k asked)

theorem cardExpired_iff {s : State} {e : Yymm} :
    cardExpired s e = true ↔
      ∃ d, s.su.date = some d
        ∧ (e.y1 * 10 + e.y2 < d.y1 * 10 + d.y2
          ∨ e.y1 * 10 + e.y2 = d.y1 * 10 + d.y2 ∧ e.m1 * 10 + e.m2 < d.m1 * 10 + d.m2) := by
  simp only [cardExpired, yymmEarlier, Option.any_eq_true, Bool.or_eq_true, Bool.and_eq_true, decide_eq_true_eq,
    beq_iff_eq]
  rfl

theorem inProductSet_iff {s : State} {lane : Fin 8} {p : Program} {requested : BitVec 4} {l : Fin 4} :
    inProductSet s lane p requested l = true ↔ InProducts s lane p requested l := by
  have reaches : (pointsOfLane lane).any (usablePoint s p.dualSide l) = true ↔
      ∃ (q : Fin 32) (c : PointConfig), q.val / 4 = lane.val ∧ (s.point q).state ≠ .disabled
        ∧ (s.point q).state ≠ .outOfService ∧ (s.point q).config = some c ∧ c.line = l
        ∧ (p.dualSide = true ∨ c.role ≠ .satellite) := by
    simp [pointsOfLane, allPoints, usablePoint, Option.any_eq_true, and_assoc]
  simp only [inProductSet, InProducts, Bool.and_eq_true, reaches, Option.any_eq_true, beq_iff_eq, bne_iff_ne,
    Bool.or_eq_true, and_assoc, ne_eq]

theorem mem_productSet {s : State} {lane : Fin 8} {p : Program} {requested : BitVec 4} {l : Fin 4} :
    l ∈ productSet s lane p requested ↔ InProducts s lane p requested l := by
  simp [productSet, allLines, inProductSet_iff]

theorem productSet_pairwise (s : State) (lane : Fin 8) (p : Program) (requested : BitVec 4) :
    (productSet s lane p requested).Pairwise (· < ·) :=
  (List.pairwise_lt_finRange 4).filter _

/-- A request that none of the nine checks refuses passes with its program and product set. -/
theorem screen_passes {lane : Fin 8} {r : AuthRequest} {s : State} {p : Program}
    (passes : ∀ c ∈ refusals s lane r, ¬ c.1) (covers : s.programFor r.pan = some p) :
    screen lane r s = .passed p (productSet s lane p r.lines) := by
  simp only [refusals, List.forall_mem_cons, List.not_mem_nil] at passes
  obtain ⟨form, site, laneFree, slot, denied, _, expiry, prompts, products, _⟩ := passes
  have valid : requestValid r = true := requestValid_iff.mpr (not_not.mp form)
  have running : s.ss.site = .running := not_not.mp site
  have quiet : s.laneBusy lane = false := by rw [← Bool.not_eq_true, laneBusy_iff]; exact laneFree
  have free : s.freeSlot.isNone = false := by
    rw [← Bool.not_eq_true, Option.isNone_iff_eq_none, freeSlot_eq_none]
    exact slot
  have current : cardExpired s r.expiry = false := by rw [← Bool.not_eq_true, cardExpired_iff]; exact expiry
  have met : promptsMet p.prompts r.prompts = true := by
    rw [promptsMet_iff]
    intro k asked
    by_contra none
    exact prompts ⟨p, k, covers, asked, fun q hq kind => none ⟨q, hq, kind⟩⟩
  have nonempty : (productSet s lane p r.lines).isEmpty = false := by
    rw [← Bool.not_eq_true, List.isEmpty_iff, List.eq_nil_iff_forall_not_mem]
    exact fun none => products ⟨p, covers, fun l hl => none l (mem_productSet.mpr hl)⟩
  simp [screen, screenCard, valid, running, quiet, free, denied, coveringProgram_eq, covers, current, met, nonempty]

theorem exec_auth {s s₁ t : State} {lane : Fin 8} {x : Option AuthRequest} {r : Reply}
    (taken : TakenFrom s lane (.auth x) s₁) (h : doAuthRequest lane x s₁ = (t, r)) :
    exec (.authRequest lane x) s = .next (placeReply lane r t) := by
  have row : exec (.authRequest lane x) s = .next (answerMessage lane (.auth x) (doAuthRequest lane x) s) := rfl
  rw [row, answerMessage_taken taken, h]

theorem doAuthRequest_passed {lane : Fin 8} {r : AuthRequest} {s : State} {b : IslandBus} {p : Program}
    (passes : ∀ c ∈ refusals s lane r, ¬ c.1) (covers : s.programFor r.pan = some p) :
    doAuthRequest lane (some r) { s with ibi := b } =
      admitRequest lane r p (productSet s lane p r.lines) { s with ibi := b } := by
  have screened : screen lane r { s with ibi := b } = .passed p (productSet s lane p r.lines) :=
    screen_passes passes covers
  simp only [doAuthRequest, screened]

/-- The ceiling of a card's allowance, read off the line's configuration. -/
theorem cardCeiling_eq (s : State) (p : Program) (l : Fin 4) :
    cardCeiling s p l =
      match (s.line l).config with
      | some x => min x.ceiling (classValue p.ceilings x.fuel)
      | none => 0 := by
  unfold cardCeiling
  cases (s.line l).config <;> rfl

/-- Settles O50. -/
theorem screeningAcceptsOnline : Obligations.ScreeningAcceptsOnline := by
  intro lane r s s₁ p i taken passes covers empty lower online
  obtain ⟨b, rfl⟩ : ∃ b, s₁ = { s with ibi := b } := ⟨_, taken.eq⟩
  refine ⟨productSet s lane p r.lines, productSet_pairwise .., fun l => mem_productSet, ?_⟩
  have free : ({ s with ibi := b } : State).freeSlot = some i := freeSlot_lowest empty lower
  have admits : doAuthRequest lane (some r) { s with ibi := b } =
      acceptOnline i (cardGrant lane r p (productSet s lane p r.lines) { s with ibi := b }) { s with ibi := b } := by
    rw [doAuthRequest_passed passes covers]
    simp only [admitRequest, free, online]
  rw [exec_auth taken admits]
  have ceilings := funext (cardCeiling_eq { s with ibi := b } p)
  simp only [cardGrant, ceilings]
  rfl

/-- The grant that arming leaves, whichever its end. -/
theorem Arms.becomes {s t : State} {i : Fin 24} {g : Grant} {kept : List Allowance} {points : List (Fin 32)}
    (h : Arms s t i g kept points) :
    ∃ g', t.grantAt i = some g' ∧ g'.tag = g.tag ∧ g'.lane = g.lane ∧ g'.source = g.source ∧ g'.card = g.card
      ∧ g'.prompts = g.prompts ∧ g'.requested = g.requested ∧ g'.dualSide = g.dualSide ∧ g'.allowances = kept
      ∧ g'.served = g.served ∧ g'.flowed = g.flowed ∧ g'.degraded = g.degraded := by
  rcases openAllowance_cases kept with opens | none
  · obtain ⟨slot, _⟩ := h.opened opens
    exact ⟨_, slot, rfl, rfl, rfl, rfl, rfl, rfl, rfl, rfl, rfl, rfl, rfl⟩
  · obtain ⟨slot, _⟩ := h.ended none
    exact ⟨_, slot, rfl, rfl, rfl, rfl, rfl, rfl, rfl, rfl, rfl, rfl, rfl⟩

/-- The grant of a card request as it is created, before it is approved. -/
def cardMade (lane : Fin 8) (r : AuthRequest) (p : Program) (products : List (Fin 4)) (s : State) : Grant :=
  { cardGrant lane r p products s with tag := s.nextTag }

theorem cardMade_lines (lane : Fin 8) (r : AuthRequest) (p : Program) (products : List (Fin 4)) (s : State) :
    (cardMade lane r p products s).allowances.map (·.line) = products := by
  simp [cardMade, cardGrant, Function.comp_def]

theorem cardMade_ceiling {lane : Fin 8} {r : AuthRequest} {p : Program} {products : List (Fin 4)} {s : State}
    {a : Allowance} (ha : a ∈ (cardMade lane r p products s).allowances) {x : LineConfig}
    (config : (s.line a.line).config = some x) : a.ceiling = min x.ceiling (classValue p.ceilings x.fuel) := by
  obtain ⟨l, _, rfl⟩ := List.mem_map.mp ha
  simp only at config
  simp [cardCeiling, config]

/-- The state in which a card's grant, approved OFFLINE and booked, is armed. -/
def offlineState (i : Fin 24) (lane : Fin 8) (r : AuthRequest) (p : Program) (products : List (Fin 4)) (s : State) :
    State :=
  createIn i ((cardGrant lane r p products s).withStandin .standinOffline (standinLimit s p))
    (s.modSu (·.book r.pan p.id))

theorem offlineState_grantAt (i : Fin 24) (lane : Fin 8) (r : AuthRequest) (p : Program) (products : List (Fin 4))
    (s : State) (j : Fin 24) :
    (offlineState i lane r p products s).grantAt j =
      if j = i then some ((cardMade lane r p products s).withStandin .standinOffline (standinLimit s p))
      else s.grantAt j := by
  rw [offlineState, createIn_grantAt, modSu_grantAt]
  rfl

section Offline

variable {lane : Fin 8} {r : AuthRequest} {p : Program} {products : List (Fin 4)} {s : State} {i : Fin 24}

theorem admitRequest_refused (free : s.freeSlot = some i) (offline : s.su.link = .offline)
    (checks : standinChecks false r.pan p s.su = .refused) :
    admitRequest lane r p products s = (s, refusedReply .standinRefused) := by
  simp only [admitRequest, free, offline, checks]

theorem admitRequest_tallyFull (free : s.freeSlot = some i) (offline : s.su.link = .offline)
    (checks : standinChecks false r.pan p s.su = .tallyFull) :
    admitRequest lane r p products s = (s.raiseTallyFull, refusedReply .tallyFull) := by
  simp only [admitRequest, free, offline, checks]

theorem admitRequest_approved (free : s.freeSlot = some i) (offline : s.su.link = .offline)
    (checks : standinChecks false r.pan p s.su = .approved) :
    admitRequest lane r p products s =
      (arm i (offlineState i lane r p products s),
        { result := .approved, tag := s.nextTag,
          caps := (((arm i (offlineState i lane r p products s)).grantAt i).map (·.caps)).getD [] }) := by
  simp only [admitRequest, free, offline, checks]
  rfl

end Offline

/-- Settles O51. -/
theorem standinAnswersOffline : Obligations.StandinAnswersOffline := by
  intro lane r s s₁ p taken passes covers offline count
  obtain ⟨b, rfl⟩ : ∃ b, s₁ = { s with ibi := b } := ⟨_, taken.eq⟩
  have running : ¬ (s.ss.site ≠ .running) := passes (s.ss.site ≠ .running, .siteHalted) (by simp [refusals])
  have notFull : ¬ ∀ i, s.grantAt i ≠ none := passes (∀ i, s.grantAt i ≠ none, .noSlot) (by simp [refusals])
  have passed := doAuthRequest_passed (b := b) passes covers
  obtain ⟨first, free⟩ := Option.ne_none_iff_exists'.mp (mt freeSlot_eq_none.mp notFull)
  refine ⟨fun refuses => exec_auth taken (passed.trans ?_),
    fun mode below unlisted full => exec_auth taken (passed.trans ?_), fun i mode below room empty lower => ?_⟩
  · exact admitRequest_refused (s := { s with ibi := b }) free offline
      (standinChecks_refused (refuses.imp_left fun h => by rw [h]; rfl))
  · exact admitRequest_tallyFull (s := { s with ibi := b }) free offline
      (standinChecks_tallyFull (offlinePermits_iff.mpr mode) below unlisted full)
  have row := exec_auth taken (passed.trans (admitRequest_approved (s := { s with ibi := b })
    (freeSlot_lowest empty lower) offline (standinChecks_approved (offlinePermits_iff.mpr mode) below room)))
  have stands := offlineState_grantAt i lane r p (productSet s lane p r.lines) { s with ibi := b }
  have arms := arms_arm ((stands i).trans (if_pos rfl)) (by simp [cardMade, cardGrant, Grant.withStandin, Grant.blank])
  rw [armedForm_congr (t := offlineState i lane r p (productSet s lane p r.lines) { s with ibi := b }) (s := s) rfl rfl]
    at arms
  obtain ⟨g', slot, tag, lane', source, card, prompts, requested, dual, allowances, served, flowed, degraded⟩ := arms.becomes
  have caps : g'.caps = _ := (congrArg (fun as => Grant.caps { g' with allowances := as }) allowances).trans
    (armedForm_caps s _)
  rw [slot, Option.map_some, Option.getD_some, caps] at row
  obtain ⟨ss, au⟩ := arms.site (fun h => running (fun e => by simp [offlineState, createIn, e] at h))
  refine ⟨cardMade lane r p (productSet s lane p r.lines) s, _, _, _, g', rfl, rfl, rfl, ?_, fun l => ?_,
    fun a ha x config => cardMade_ceiling ha config, standin_armedAs .standinOffline p .stopped, row, slot, tag, lane',
    source, card, prompts, requested, dual, allowances, served, flowed, degraded,
    fun j ne => (arms.others j ne).trans ((stands j).trans (if_neg ne)), arms.tagCounter, arms.lines, arms.tu, ss, arms.cp,
    au, arms.pins, arms.pending, fun opens => ?_, fun none => ?_⟩
  · rw [cardMade_lines]; exact productSet_pairwise ..
  · rw [cardMade_lines]; exact mem_productSet
  · obtain ⟨slot', points, pending, settled, su, _, _, notice, _⟩ := arms.opened opens
    obtain rfl := Option.some.inj (slot.symm.trans slot')
    exact ⟨rfl, rfl, rfl, rfl, points, su, by rw [su]; exact booked_book .., pending, settled, notice rfl⟩
  · obtain ⟨slot', _, _, settled, _, added, _⟩ := arms.ended none
    obtain rfl := Option.some.inj (slot.symm.trans slot')
    refine ⟨rfl, rfl, rfl, fun bounded => ?_, settled⟩
    rw [added _ rfl (.inl rfl)]
    exact booked_addAmount_zero bounded ..

end Sys2Proof.Machine
end

section
/-! PROOFS. The nozzles: the reports to the Grant Manager, and the hang-up of a point (R21, R73, R74, R138). -/

namespace Sys2Proof.Machine

/-! ### Reports to the Grant Manager -/

theorem HeldIn.of_grantAt {s t : State} {tag : Nat} {i : Fin 24} {g : Grant} (held : HeldIn s tag i g)
    (same : ∀ j, t.grantAt j = s.grantAt j) : HeldIn t tag i g :=
  ⟨(findTag_congr (fun j => by rw [same j]) tag).trans held.1, (same i).trans held.2⟩

theorem HeldIn.setSlot {s : State} {tag : Nat} {i : Fin 24} {g g' : Grant} (held : HeldIn s tag i g)
    (same : g'.tag = g.tag) : HeldIn (s.setSlot i (some g')) tag i g' := by
  refine ⟨(findTag_congr (fun j => ?_) tag).trans held.1, setSlot_grantAt_self ..⟩
  rw [setSlot_grantAt]
  split
  · next e => subst e; rw [held.2]; simp [same]
  · rfl

theorem anyLifted_iff {s : State} {ps : List (Fin 32)} :
    s.anyLifted ps = true ↔ ∃ q ∈ ps, (s.point q).nozzle = true := by
  simp [State.anyLifted]

theorem anyLifted_eq_false {s : State} {ps : List (Fin 32)} :
    s.anyLifted ps = false ↔ ∀ q ∈ ps, (s.point q).nozzle = false := by
  simp [State.anyLifted]

/-- A grant with no nozzle lifted: its idle-end timer runs once it has flowed, its lift timer before. -/
def Grant.waiting (g : Grant) (timers : TimerSettings) : Grant :=
  if g.flowed then { g with idleEndTimer := Timer.start timers.idleEnd }
  else { g with liftTimer := Timer.start timers.lift }

theorem waiting_tag (g : Grant) (timers : TimerSettings) : (g.waiting timers).tag = g.tag := by
  unfold Grant.waiting; split <;> rfl

theorem waiting_state (g : Grant) (timers : TimerSettings) : (g.waiting timers).state = g.state := by
  unfold Grant.waiting; split <;> rfl

theorem startWaitTimer_starts {i : Fin 24} {g : Grant} {s : State} (hg : s.grantAt i = some g)
    (fueling : g.state = .fueling) (down : s.anyLifted g.attached = false) :
    startWaitTimer i s = s.setSlot i (some (g.waiting s.cp.timers)) := by
  have waits : g.state = .fueling ∧ s.anyLifted g.attached = false := ⟨fueling, down⟩
  simp only [startWaitTimer, hg, if_pos waits]
  rfl

theorem startWaitTimer_still {i : Fin 24} {g : Grant} {s : State} (hg : s.grantAt i = some g)
    (h : g.state ≠ .fueling ∨ s.anyLifted g.attached = true) : startWaitTimer i s = s := by
  have : ¬ (g.state = .fueling ∧ s.anyLifted g.attached = false) := by
    rintro ⟨fueling, down⟩
    exact h.elim (· fueling) (by simp [down])
  simp only [startWaitTimer, hg, if_neg this]

theorem completionTest_still {i : Fin 24} {g : Grant} {s : State} (hg : s.grantAt i = some g) (h : g.state ≠ .closing) :
    completionTest i s = s := by
  have : s.completionDue i = false := by simp [State.completionDue, hg, h]
  simp [completionTest, this]

section Reports

variable {p : Fin 32} {s : State} {tag : Nat} {i : Fin 24} {g : Grant}

theorem reportHangUp_held (tagged : (s.point p).tag = some tag) (held : HeldIn s tag i g) :
    reportHangUp p s = startWaitTimer i s := by
  simp only [reportHangUp, slotOfPoint_held tagged held]

theorem reportHangUp_unattached (h : (s.point p).tag = none) : reportHangUp p s = s := by
  simp only [reportHangUp, slotOfPoint_none h]

theorem reportExit_held (tagged : (s.point p).tag = some tag) (held : HeldIn s tag i g) :
    reportExit p s = completionTest i s := by
  simp only [reportExit, slotOfPoint_held tagged held]

theorem reportExit_unattached (h : (s.point p).tag = none) : reportExit p s = s := by
  simp only [reportExit, slotOfPoint_none h]

theorem reportLift_held (tagged : (s.point p).tag = some tag) (held : HeldIn s tag i g) (conditions : Bool) :
    reportLift p conditions s = liftReport i p conditions s := by
  simp only [reportLift, slotOfPoint_held tagged held]

theorem reportLift_unattached (h : (s.point p).tag = none) (conditions : Bool) : reportLift p conditions s = s := by
  simp only [reportLift, slotOfPoint_none h]

/-- A point's exit is no news to a grant that is not CLOSING. -/
theorem reportExit_still (tagged : (s.point p).tag = some tag) (held : HeldIn s tag i g) (h : g.state ≠ .closing) :
    reportExit p s = s := by
  rw [reportExit_held tagged held, completionTest_still held.2 h]

end Reports

/-! ### The hang-up -/

theorem setNozzle_point (p q : Fin 32) (level : Bool) (s : State) :
    (setNozzle p level s).point q = if q = p then { s.point p with nozzle := level } else s.point q := by
  rw [setNozzle, setPoint_point]
  rfl

/-- The state after a point's nozzle comes down, before it is reported. -/
def hungUp (p : Fin 32) (s : State) : State :=
  match (s.point p).state with
  | .lifted => (setNozzle p false s).setPoint p { s.point p with nozzle := false, state := .idle }
  | .priming => withdrawOwn p ((setNozzle p false s).setPoint p { s.point p with nozzle := false, state := .idle })
  | .flowing | .slowing => closeOrders [p] (setNozzle p false s)
  | .idle | .settling | .outOfService | .disabled => setNozzle p false s

theorem hungUp_grantAt (p : Fin 32) (s : State) (i : Fin 24) : (hungUp p s).grantAt i = s.grantAt i := by
  refine grantAt_of_gm ?_ i
  unfold hungUp
  split <;> simp [setNozzle, setNozzlePin]

theorem hungUp_cp (p : Fin 32) (s : State) : (hungUp p s).cp = s.cp := by
  unfold hungUp
  split <;> simp [setNozzle, setNozzlePin]

theorem hungUp_tag (p q : Fin 32) (s : State) : ((hungUp p s).point q).tag = (s.point q).tag := by
  unfold hungUp
  split <;> simp [setNozzle_point] <;> split <;> simp_all

theorem hungUp_nozzle (p q : Fin 32) (s : State) :
    ((hungUp p s).point q).nozzle = if q = p then false else (s.point q).nozzle := by
  unfold hungUp
  split <;> simp [setNozzle_point] <;> split <;> simp_all

/-- A hang-up that is followed up to nothing but the point's own change. -/
theorem hangUp_kept {p : Fin 32} {s : State} (up : (s.point p).nozzle = true)
    (h : (s.point p).state = .outOfService ∨ (s.point p).state = .idle) :
    nozzleHangUp p s = hungUp p s := by
  rcases h with h | h <;> simp [nozzleHangUp, hangUpFollowed, hungUp, up, h, setNozzle_point]

/-- A hang-up that is reported: a point that was LIFTED, PRIMING, open or settling. -/
theorem hangUp_reported {p : Fin 32} {s : State} (up : (s.point p).nozzle = true)
    (present : (s.point p).state ≠ .disabled) (h : (s.point p).state ≠ .outOfService) (busy : (s.point p).state ≠ .idle) :
    nozzleHangUp p s =
      if (s.point p).state = .priming then reportExit p (reportHangUp p (hungUp p s)) else reportHangUp p (hungUp p s) := by
  have follows : nozzleHangUp p s = hangUpFollowed p (setNozzle p false s) := by simp [nozzleHangUp, up, present]
  have x : (setNozzle p false s).point p = { s.point p with nozzle := false } := by rw [setNozzle_point, if_pos rfl]
  rw [follows]
  cases state : (s.point p).state
  case lifted => simp [hangUpFollowed, hungUp, x, state]
  case priming => simp [hangUpFollowed, hungUp, x, state]
  case flowing => simp [hangUpFollowed, hungUp, x, state, closeOrders, closeOrder, PointState.isOpenOrPriming]
  case slowing => simp [hangUpFollowed, hungUp, x, state, closeOrders, closeOrder, PointState.isOpenOrPriming]
  case settling => simp [hangUpFollowed, hungUp, x, state]
  case disabled => exact absurd state present
  case outOfService => exact absurd state h
  case idle => exact absurd state busy

theorem hangUp_row (p : Fin 32) (s : State) : exec (.hangUp p) s = .next (nozzleHangUp p s) := rfl

/-- Settles O27. -/
theorem hangUpClosesValve : Obligations.HangUpClosesValve := by
  intro p s up
  refine ⟨fun present alone => ?_, fun tag i g present inService busy tagged held fueling => ?_⟩
  · have left : nozzleHangUp p s = hungUp p s := by
      by_cases quiet : (s.point p).state = .outOfService ∨ (s.point p).state = .idle
      · exact hangUp_kept up quiet
      · obtain ⟨inService, busy⟩ := not_or.mp quiet
        have untagged : ((hungUp p s).point p).tag = none :=
          (hungUp_tag p p s).trans (alone.resolve_right inService)
        rw [hangUp_reported up present inService busy, reportHangUp_unattached untagged, reportExit_unattached untagged,
          ite_self]
    rw [hangUp_row, left]
    rfl
  · have tagged : ((hungUp p s).point p).tag = some tag := (hungUp_tag p p s).trans tagged
    have held := held.of_grantAt (hungUp_grantAt p s)
    rw [hangUp_row, hangUp_reported up present inService busy, reportHangUp_held tagged held]
    refine ⟨fun ⟨q, hq, ne, lifted⟩ => ?_, fun down => ?_⟩
    · have another : (hungUp p s).anyLifted g.attached = true :=
        anyLifted_iff.mpr ⟨q, hq, by rw [hungUp_nozzle, if_neg ne]; exact lifted⟩
      rw [startWaitTimer_still held.2 (.inr another), reportExit_still tagged held (by simp [fueling]), ite_self]
      rfl
    · have none : (hungUp p s).anyLifted g.attached = false := anyLifted_eq_false.mpr fun q hq => by
        rw [hungUp_nozzle]
        split
        · rfl
        · exact down q hq ‹_›
      rw [startWaitTimer_starts held.2 fueling none, hungUp_cp]
      have quiet : reportExit p ((hungUp p s).setSlot i (some (g.waiting s.cp.timers))) = _ :=
        reportExit_still (by rw [setSlot_point]; exact tagged) (held.setSlot (waiting_tag ..))
          (by rw [waiting_state, fueling]; simp)
      rw [quiet, ite_self]
      rfl

end Sys2Proof.Machine
end

section
/-! PROOFS. The lift of a nozzle (R20, R65, R68 to R72, R77, R80, R94, R138), and the entry to PRIMING on every pump. -/

namespace Sys2Proof.Machine

/-! ### Requests for a pump -/

theorem withRequest_config (x : Line) (p : Fin 32) : (x.withRequest p).config = x.config := by
  unfold Line.withRequest; split <;> rfl

theorem withRequest_off {y : Line} {x : LineConfig} (off : y.pump = .off) (config : y.config = some x)
    (delay : 1 ≤ x.startDelay) (p : Fin 32) :
    y.withRequest p =
      { y with
        requesting := addPoint y.requesting p
        pump := .on
        delayMet := false
        startTimer := .running x.startDelay } := by
  have : x.startDelay ≠ 0 := by omega
  simp [Line.withRequest, off, config, this]

theorem withRequest_off_met {y : Line} {x : LineConfig} (off : y.pump = .off) (config : y.config = some x)
    (delay : x.startDelay = 0) (p : Fin 32) :
    y.withRequest p =
      { y with requesting := addPoint y.requesting p, pump := .on, delayMet := true, startTimer := .stopped } := by
  simp [Line.withRequest, off, config, delay]

theorem withRequest_on {y : Line} (on : y.pump = .on) (p : Fin 32) :
    y.withRequest p = { y with requesting := addPoint y.requesting p } := by
  simp [Line.withRequest, on]

theorem withRequest_runOn {y : Line} (runOn : y.pump = .runOn) (p : Fin 32) :
    y.withRequest p =
      { y with requesting := addPoint y.requesting p, pump := .on, delayMet := true, runOnTimer := .stopped } := by
  simp [Line.withRequest, runOn]

theorem requestPump_granted {p : Fin 32} {l : Fin 4} {s : State} (allowed : s.pumpAllowed l = true)
    (fresh : hasPoint (s.line l).requesting p = false) :
    requestPump p l s = (s.setLine l ((s.line l).withRequest p), ((s.line l).withRequest p).delayMet) := by
  simp [requestPump, allowed, fresh]

/-! ### The entry to PRIMING -/

/-- A valve's opening: the stage by the residual, the no-flow timer started, the creep count cleared. -/
theorem opened_eq (x : Point) (residual : Int) (margin full slow code : Nat) :
    x.opened residual margin full slow code =
      { x with
        state := if (margin : Int) < residual then .flowing else .slowing
        stageDuty := if (margin : Int) < residual then full else slow
        dutyInForce := if (if (margin : Int) < residual then full else slow) = 0 then 0 else x.dutyInForce
        noFlow := Timer.start code
        creep := 0 } := by
  by_cases h : (margin : Int) < residual <;> simp [Point.opened, Point.withStage, h]

section Priming

variable {p : Fin 32} {s : State} {c : PointConfig} {x : LineConfig}

theorem enterPriming_eq (config : (s.point p).config = some c) (running : s.ss.site = .running)
    (available : (s.line c.line).state = .available) (fresh : hasPoint (s.line c.line).requesting p = false) :
    enterPriming p s =
      if ((s.line c.line).withRequest p).delayMet = true then
        pumpReady p
          ((s.setPoint p { s.point p with state := .priming }).setLine c.line ((s.line c.line).withRequest p))
      else (s.setPoint p { s.point p with state := .priming }).setLine c.line ((s.line c.line).withRequest p) := by
  have granted := requestPump_granted (s := s.setPoint p { s.point p with state := .priming }) (l := c.line) (p := p)
    (by simp [State.pumpAllowed, available, running]) fresh
  unfold enterPriming
  split
  · next d h =>
    obtain rfl := Option.some.inj (config.symm.trans h)
    rw [granted]
    rfl
  · next h => rw [config] at h; exact absurd h (by simp)

theorem enterPriming_waits (config : (s.point p).config = some c) (running : s.ss.site = .running)
    (available : (s.line c.line).state = .available) (fresh : hasPoint (s.line c.line).requesting p = false)
    {y : Line} (request : (s.line c.line).withRequest p = y) (unmet : y.delayMet = false) :
    enterPriming p s = (s.setPoint p { s.point p with state := .priming }).setLine c.line y := by
  rw [enterPriming_eq config running available fresh, request, unmet]
  simp

/-- At pressure the valve opens in the step in which its point enters PRIMING. -/
theorem enterPriming_opens (config : (s.point p).config = some c) (lineConfig : (s.line c.line).config = some x)
    (running : s.ss.site = .running) (available : (s.line c.line).state = .available)
    (fresh : hasPoint (s.line c.line).requesting p = false) {tag : Nat} {i : Fin 24} {g : Grant} {a : Allowance}
    {terms : Armed} (tagged : (s.point p).tag = some tag) (held : HeldIn s tag i g)
    (listed : g.allowanceOn c.line = some a) (armed : a.armed = some terms) {y : Line}
    (request : (s.line c.line).withRequest p = y) (met : y.delayMet = true) :
    enterPriming p s =
      ((s.setPoint p ((s.point p).opened terms.residual x.slowMargin x.fullDuty x.slowDuty s.cp.timers.noFlow)).setSlot i
        (some { g with flowed := true })).setLine c.line y := by
  rw [enterPriming_eq config running available fresh, request, if_pos met]
  generalize primed : (s.setPoint p { s.point p with state := .priming }).setLine c.line y = t
  have stands : t.point p = { s.point p with state := .priming } := by rw [← primed]; simp
  have grants : ∀ j, t.grantAt j = s.grantAt j := fun j => by rw [← primed]; rfl
  have slot : t.slotOfPoint p = some i := slotOfPoint_held (by rw [stands]; exact tagged) (held.of_grantAt grants)
  have termsAfter : t.termsOfPoint p = some terms := by
    simp [State.termsOfPoint, stands, config, slot, grants, held.2, listed, armed]
  have line : (t.line c.line).config = some x := by
    rw [← primed, setLine_line, if_pos rfl, ← request, withRequest_config, lineConfig]
  simp only [pumpReady, stands, config, slot, termsAfter, State.lineField, line, Option.map_some, Option.getD_some,
    State.modGrant, setPoint_grantAt, grants, held.2]
  rw [← primed]
  simp [opened_eq, config, State.setPoint, State.setSlot, State.setLine]

end Priming

/-! ### A lift as its grant sees it -/

/-- A grant whose first or next point is admitted: FUELING, with the timers that wait for a lift stopped. -/
def Grant.admitting (g : Grant) : Grant :=
  { g with
    state := .fueling
    liftTimer := .stopped
    idleEndTimer := if g.state = .fueling then .stopped else g.idleEndTimer }

theorem liftConditions_iff {p : Fin 32} {s : State} {c : PointConfig} (config : (s.point p).config = some c) :
    s.liftConditions p = true ↔
      s.ss.site = .running ∧ (s.line c.line).state = .available ∧ (s.point p).state ≠ .outOfService := by
  simp [State.liftConditions, config, and_assoc]

theorem drawsOnOpen_eq {p : Fin 32} {s : State} {c : PointConfig} (config : (s.point p).config = some c) (g : Grant) :
    s.drawsOnOpen g p = g.openOn c.line := by
  simp [State.drawsOnOpen, config]

section LiftReport

variable {i : Fin 24} {g : Grant} {p : Fin 32} {s : State} {conditions : Bool}

theorem liftReport_admitted (hg : s.grantAt i = some g) (waits : g.state = .armed ∨ g.state = .fueling)
    (met : conditions = true) (draws : s.drawsOnOpen g p = true) :
    liftReport i p conditions s = enterPriming p (s.setSlot i (some g.admitting)) := by
  rcases waits with h | h <;> simp [liftReport, hg, h, met, draws, Grant.admitting]

theorem liftReport_fueling (hg : s.grantAt i = some g) (fueling : g.state = .fueling)
    (unmet : (conditions && s.drawsOnOpen g p) = false) :
    liftReport i p conditions s =
      s.setSlot i (some { g with liftTimer := .stopped, idleEndTimer := .stopped }) := by
  simp only [liftReport, hg, fueling, unmet]
  rfl

/-- A lift that is not admitted is no news to a grant that is not FUELING. -/
theorem liftReport_unmet (hg : s.grantAt i = some g) (notFueling : g.state ≠ .fueling)
    (unmet : g.state = .armed → (conditions && s.drawsOnOpen g p) = false) : liftReport i p conditions s = s := by
  simp only [liftReport, hg]
  split
  · next h => rw [unmet h]; rfl
  · next h => exact absurd h notFueling
  all_goals rfl

end LiftReport

/-! ### The lift -/

theorem lift_row (p : Fin 32) (s : State) : exec (.lift p) s = .next (nozzleLift p s) := rfl

/-- A point whose nozzle was lifted from IDLE, before it is reported. -/
def liftedState (p : Fin 32) (s : State) : State :=
  setNozzlePin p true (s.setPoint p { s.point p with state := .lifted, nozzle := true })

theorem nozzleLift_idle {p : Fin 32} {s : State} (down : (s.point p).nozzle = false) (idle : (s.point p).state = .idle) :
    nozzleLift p s = reportLift p ((liftedState p s).liftConditions p) (liftedState p s) := by
  have lifted : (setNozzle p true s).setPoint p { (setNozzle p true s).point p with state := .lifted } =
      liftedState p s := by
    rw [setNozzle_point, if_pos rfl]
    simp [liftedState, setNozzle, setNozzlePin, State.setPoint]
  have follows : liftFollowed p (setNozzle p true s) =
      reportLift p (((setNozzle p true s).setPoint p
          { (setNozzle p true s).point p with state := .lifted }).liftConditions p)
        ((setNozzle p true s).setPoint p { (setNozzle p true s).point p with state := .lifted }) := by
    simp only [liftFollowed, setNozzle_point, if_true, idle]
  rw [← lifted, ← follows]
  simp [nozzleLift, idle, down]

theorem nozzleLift_disabled {p : Fin 32} {s : State} (disabled : (s.point p).state = .disabled) :
    nozzleLift p s = setNozzlePin p true s := by
  simp [nozzleLift, disabled]

theorem nozzleLift_outOfService {p : Fin 32} {s : State} (down : (s.point p).nozzle = false)
    (gone : (s.point p).state = .outOfService) : nozzleLift p s = setNozzle p true s := by
  simp [nozzleLift, liftFollowed, gone, down, setNozzle_point]

theorem nozzleLift_settling {p : Fin 32} {s : State} (down : (s.point p).nozzle = false)
    (settling : (s.point p).state = .settling) : nozzleLift p s = reportLift p false (setNozzle p true s) := by
  simp [nozzleLift, liftFollowed, settling, down, setNozzle_point]

theorem liftedState_point (p q : Fin 32) (s : State) :
    (liftedState p s).point q = if q = p then { s.point p with state := .lifted, nozzle := true } else s.point q :=
  setPoint_point ..

theorem liftedState_met {p : Fin 32} {s : State} {c : PointConfig} (config : (s.point p).config = some c) (g : Grant) :
    ((liftedState p s).liftConditions p && (liftedState p s).drawsOnOpen g p) = true ↔
      s.ss.site = .running ∧ (s.line c.line).state = .available ∧ g.openOn c.line = true := by
  have configured : ((liftedState p s).point p).config = some c := by rw [liftedState_point, if_pos rfl]; exact config
  rw [Bool.and_eq_true, liftConditions_iff configured, drawsOnOpen_eq configured, liftedState_point, if_pos rfl]
  simp only [ne_eq, reduceCtorEq, not_false_eq_true, and_true, and_assoc]
  rfl

/-- Settles O25. -/
theorem liftIsAdmitted : Obligations.LiftIsAdmitted := by
  refine ⟨fun p s down => ⟨fun disabled => ?_, fun gone => ?_, fun settling => ⟨fun alone => ?_, fun tag i g tagged held =>
    ?_⟩, fun idle => ⟨fun alone => ?_, fun tag i g c tagged held config => ?_⟩⟩,
    fun p s c x config lineConfig running available fresh => ?_⟩
  · rw [lift_row, nozzleLift_disabled disabled]; rfl
  · rw [lift_row, nozzleLift_outOfService down gone]; rfl
  · have untagged : ((setNozzle p true s).point p).tag = none := by rw [setNozzle_point, if_pos rfl]; exact alone
    rw [lift_row, nozzleLift_settling down settling, reportLift_unattached untagged]; rfl
  · have tagged : ((setNozzle p true s).point p).tag = some tag := by rw [setNozzle_point, if_pos rfl]; exact tagged
    have held : HeldIn (setNozzle p true s) tag i g := held
    rw [lift_row, nozzleLift_settling down settling, reportLift_held tagged held]
    refine ⟨fun fueling => ?_, fun other => ?_⟩
    · rw [liftReport_fueling held.2 fueling rfl]; rfl
    · rw [liftReport_unmet held.2 other fun _ => rfl]; rfl
  · have untagged : ((liftedState p s).point p).tag = none := by rw [liftedState_point, if_pos rfl]; exact alone
    rw [lift_row, nozzleLift_idle down idle, reportLift_unattached untagged]; rfl
  · have tagged : ((liftedState p s).point p).tag = some tag := by rw [liftedState_point, if_pos rfl]; exact tagged
    have held : HeldIn (liftedState p s) tag i g := held
    have met := liftedState_met config g
    have unmet : (s.ss.site ≠ .running ∨ (s.line c.line).state ≠ .available ∨ g.openOn c.line = false) →
        ((liftedState p s).liftConditions p && (liftedState p s).drawsOnOpen g p) = false := by
      intro h
      rw [← Bool.not_eq_true, met]
      rintro ⟨running, available, isOpen⟩
      simp [running, available, isOpen] at h
    have admitted : (g.state = .armed ∨ g.state = .fueling) → s.ss.site = .running → (s.line c.line).state = .available →
        g.openOn c.line = true → nozzleLift p s = enterPriming p ((liftedState p s).setSlot i (some g.admitting)) := by
      intro waits running available isOpen
      obtain ⟨conditions, draws⟩ := Bool.and_eq_true_iff.mp (met.mpr ⟨running, available, isOpen⟩)
      rw [nozzleLift_idle down idle, reportLift_held tagged held, liftReport_admitted held.2 waits conditions draws]
    rw [lift_row]
    refine ⟨fun other => ?_, fun armed h => ?_, fun fueling h => ?_, fun waits running available isOpen => ?_,
      fun x waits running available isOpen lineConfig off fresh delay => ?_⟩
    · rw [nozzleLift_idle down idle, reportLift_held tagged held, liftReport_unmet held.2 other.2 fun h => absurd h other.1]
      rfl
    · rw [nozzleLift_idle down idle, reportLift_held tagged held,
        liftReport_unmet held.2 (by simp [armed]) fun _ => unmet h]
      rfl
    · rw [nozzleLift_idle down idle, reportLift_held tagged held, liftReport_fueling held.2 fueling (unmet h)]
      rfl
    · rw [admitted waits running available isOpen]; rfl
    · have configured : (((liftedState p s).setSlot i (some g.admitting)).point p).config = some c := by
        rw [setSlot_point, liftedState_point, if_pos rfl]; exact config
      rw [admitted waits running available isOpen,
        enterPriming_waits configured running available fresh (withRequest_off off lineConfig delay p) rfl,
        setSlot_point, liftedState_point, if_pos rfl]
      simp [liftedState, setNozzlePin, State.setPoint, State.setSlot, State.setLine, Grant.admitting]
  · have waits {y : Line} := enterPriming_waits config running available fresh (y := y)
    refine ⟨fun off delay => waits (withRequest_off off lineConfig delay p) rfl,
      fun on unmet => waits (withRequest_on on p) unmet, fun tag i g a terms tagged held listed armed => ?_⟩
    have opens {y : Line} := enterPriming_opens config lineConfig running available fresh tagged held listed armed (y := y)
    simp only [opened_eq] at opens
    exact ⟨fun off delay => opens (withRequest_off_met off lineConfig delay p) rfl,
      fun on met => opens (withRequest_on on p) met, fun runOn => opens (withRequest_runOn runOn p) rfl⟩

end Sys2Proof.Machine
end

section
/-! PROOFS. RESUME (R143): the lifted points of a HELD grant are reported again, one after the other. -/

namespace Sys2Proof.Machine

/-! ### What an entry to PRIMING leaves -/

theorem requestPump_lineState (p : Fin 32) (l k : Fin 4) (s : State) :
    ((requestPump p l s).1.line k).state = (s.line k).state := by
  unfold requestPump
  split
  · rfl
  · rw [setLine_line]
    split
    · next e => subst e; exact withRequest_state ..
    · rfl

/-- The state after a point that enters PRIMING has requested its pump. -/
def afterRequest (p : Fin 32) (c : PointConfig) (s : State) : State :=
  (requestPump p c.line (s.setPoint p { s.point p with state := .priming })).1

theorem afterRequest_point (p : Fin 32) (c : PointConfig) (s : State) (q : Fin 32) :
    (afterRequest p c s).point q = if q = p then { s.point p with state := .priming } else s.point q := by
  rw [afterRequest, point_of_points (requestPump_points ..), setPoint_point]

theorem afterRequest_grantAt (p : Fin 32) (c : PointConfig) (s : State) (j : Fin 24) :
    (afterRequest p c s).grantAt j = s.grantAt j :=
  grantAt_of_gm (by simp [afterRequest]) j

theorem afterRequest_lineState (p : Fin 32) (c : PointConfig) (s : State) (l : Fin 4) :
    ((afterRequest p c s).line l).state = (s.line l).state :=
  requestPump_lineState ..

/-- An entry to PRIMING is the request, after which pump ready may follow in the same step. -/
theorem enterPriming_cases {p : Fin 32} {c : PointConfig} {s : State} (config : (s.point p).config = some c) :
    enterPriming p s = afterRequest p c s ∨ enterPriming p s = pumpReady p (afterRequest p c s) := by
  unfold enterPriming
  split
  · next d h =>
    obtain rfl := Option.some.inj (config.symm.trans h)
    split
    · exact .inr rfl
    · exact .inl rfl
  · next h => rw [config] at h; exact absurd h (by simp)

/-- Pump ready leaves every grant but the one of its point. -/
theorem pumpReady_grantAt_other {p : Fin 32} {s : State} {i j : Fin 24} (slot : s.slotOfPoint p = some i) (ne : j ≠ i) :
    (pumpReady p s).grantAt j = s.grantAt j := by
  unfold pumpReady
  split
  · next k _ _ _ own _ =>
    obtain rfl := Option.some.inj (slot.symm.trans own)
    rw [modGrant_grantAt, if_neg ne]
    rfl
  · rfl

theorem opened_tag (x : Point) (residual : Int) (margin full slow code : Nat) :
    (x.opened residual margin full slow code).tag = x.tag := by
  rw [opened_eq]

theorem pumpReady_point_tag (p q : Fin 32) (s : State) : ((pumpReady p s).point q).tag = (s.point q).tag := by
  by_cases e : q = p
  · subst e
    rcases pumpReady_point_cases q s with h | ⟨_, residual, margin, full, slow, code, h⟩
    · rw [h]
    · rw [h, opened_tag]
  · rw [pumpReady_point_other e]

/-- A point that draws: waiting for its pump or open. -/
def PointState.drawing (x : PointState) : Prop := x = .priming ∨ x = .flowing ∨ x = .slowing

theorem drawing_of_isOpen {x : PointState} (h : x.isOpen = true) : x.drawing := by
  cases x <;> simp_all [PointState.isOpen, PointState.drawing]

section Priming

variable {p : Fin 32} {c : PointConfig} {s : State}

theorem enterPriming_drawing (config : (s.point p).config = some c) : ((enterPriming p s).point p).state.drawing := by
  have primed : ((afterRequest p c s).point p).state = .priming := by rw [afterRequest_point, if_pos rfl]
  rcases enterPriming_cases config with h | h
  · rw [h, primed]; exact .inl rfl
  · rw [h]
    rcases pumpReady_point_cases p (afterRequest p c s) with h | ⟨_, _, _, _, _, _, h⟩
    · rw [h, primed]; exact .inl rfl
    · rw [h]; exact drawing_of_isOpen (opened_isOpen ..)

theorem enterPriming_point_other (config : (s.point p).config = some c) {q : Fin 32} (ne : q ≠ p) :
    (enterPriming p s).point q = s.point q := by
  rcases enterPriming_cases config with h | h
  · rw [h, afterRequest_point, if_neg ne]
  · rw [h, pumpReady_point_other ne, afterRequest_point, if_neg ne]

theorem enterPriming_tag (config : (s.point p).config = some c) (q : Fin 32) :
    ((enterPriming p s).point q).tag = (s.point q).tag := by
  have requested : ((afterRequest p c s).point q).tag = (s.point q).tag := by
    rw [afterRequest_point]
    split
    · next e => rw [e]
    · rfl
  rcases enterPriming_cases config with h | h
  · rw [h, requested]
  · rw [h, pumpReady_point_tag, requested]

theorem enterPriming_lineState (config : (s.point p).config = some c) (l : Fin 4) :
    ((enterPriming p s).line l).state = (s.line l).state := by
  rcases enterPriming_cases config with h | h
  · rw [h, afterRequest_lineState]
  · rw [h, line_of_lines (pumpReady_lines ..), afterRequest_lineState]

theorem enterPriming_grantAt {tag : Nat} {i : Fin 24} {g : Grant} (config : (s.point p).config = some c)
    (tagged : (s.point p).tag = some tag) (held : HeldIn s tag i g) :
    (∀ j, j ≠ i → (enterPriming p s).grantAt j = s.grantAt j)
      ∧ ∃ flowed, (enterPriming p s).grantAt i = some { g with flowed := flowed } := by
  have requested := afterRequest_grantAt p c s
  rcases enterPriming_cases config with h | h
  · rw [h]
    exact ⟨fun j _ => requested j, g.flowed, (requested i).trans held.2⟩
  · rw [h]
    have stands : ((afterRequest p c s).point p).tag = some tag := by rw [afterRequest_point, if_pos rfl]; exact tagged
    have slot := slotOfPoint_held stands (held.of_grantAt requested)
    refine ⟨fun j ne => (pumpReady_grantAt_other slot ne).trans (requested j), ?_⟩
    rcases pumpReady_grantAt p i (afterRequest p c s) with h | h
    · exact ⟨g.flowed, h.trans ((requested i).trans held.2)⟩
    · exact ⟨true, by rw [h, requested, held.2]; rfl⟩

end Priming

/-! ### One report after the other -/

/-- What the reports of lifts change in a FUELING grant: whether it has flowed, and its two waiting timers. -/
def Grant.Resumes (g g' : Grant) : Prop :=
  ∃ flowed lift idle, g' = { g with flowed := flowed, liftTimer := lift, idleEndTimer := idle }

theorem Grant.Resumes.refl (g : Grant) : g.Resumes g := ⟨_, _, _, rfl⟩

theorem Grant.Resumes.trans {g h k : Grant} (a : g.Resumes h) (b : h.Resumes k) : g.Resumes k := by
  obtain ⟨_, _, _, rfl⟩ := a
  obtain ⟨flowed, lift, idle, rfl⟩ := b
  exact ⟨flowed, lift, idle, rfl⟩

theorem Grant.Resumes.waiting {g h : Grant} (a : g.Resumes h) (timers : TimerSettings) : g.Resumes (h.waiting timers) := by
  refine a.trans ?_
  unfold Grant.waiting
  split <;> exact ⟨_, _, _, rfl⟩

/-- A LIFTED point that the grant may draw from. -/
def Readmittable (s : State) (g : Grant) (p : Fin 32) : Prop :=
  (s.point p).state = .lifted ∧ s.ss.site = .running
    ∧ ((s.point p).config.any fun c => (s.line c.line).state == .available && g.openOn c.line) = true

/-- What the reports of the points `ps` to the FUELING grant `g` of slot `i` make of the state `s`. -/
structure Readmits (s t : State) (tag : Nat) (i : Fin 24) (g : Grant) (ps : List (Fin 32)) : Prop where
  grant : ∃ g', HeldIn t tag i g' ∧ g.Resumes g'
  others : ∀ j, j ≠ i → t.grantAt j = s.grantAt j
  lines : ∀ l, (t.line l).state = (s.line l).state
  site : t.ss = s.ss
  tags : ∀ p, (t.point p).tag = (s.point p).tag
  drawing : ∀ p, p ∈ ps → Readmittable s g p → (t.point p).state.drawing
  kept : ∀ p, ¬ (p ∈ ps ∧ Readmittable s g p) → t.point p = s.point p

theorem readmittable_iff {s : State} {g : Grant} {p : Fin 32} (lifted : (s.point p).state = .lifted) :
    Readmittable s g p ↔ (s.liftConditions p && s.drawsOnOpen g p) = true := by
  cases config : (s.point p).config with
  | none => simp [Readmittable, State.liftConditions, config]
  | some c => simp [Readmittable, State.liftConditions, State.drawsOnOpen, config, lifted, and_assoc]

theorem HeldIn.of_slots {s t : State} {tag : Nat} {i : Fin 24} {g g' : Grant} (held : HeldIn s tag i g)
    (others : ∀ j, j ≠ i → t.grantAt j = s.grantAt j) (own : t.grantAt i = some g') (same : g'.tag = g.tag) :
    HeldIn t tag i g' := by
  refine ⟨(findTag_congr (fun j => ?_) tag).trans held.1, own⟩
  by_cases e : j = i
  · rw [e, own, held.2]; simp [same]
  · rw [others j e]

theorem readmits_liftReport {s : State} {tag : Nat} {i : Fin 24} {g : Grant} {p : Fin 32} (held : HeldIn s tag i g)
    (fueling : g.state = .fueling) (tagged : (s.point p).tag = some tag) (lifted : (s.point p).state = .lifted) :
    Readmits s (liftReport i p (s.liftConditions p) s) tag i g [p] := by
  by_cases met : (s.liftConditions p && s.drawsOnOpen g p) = true
  · obtain ⟨conditions, draws⟩ := Bool.and_eq_true_iff.mp met
    have ready : Readmittable s g p := (readmittable_iff lifted).mpr met
    obtain ⟨c, config⟩ : ∃ c, (s.point p).config = some c := by
      cases h : (s.point p).config with
      | none => simp [State.drawsOnOpen, h] at draws
      | some c => exact ⟨c, rfl⟩
    rw [liftReport_admitted held.2 (.inr fueling) conditions draws]
    have held' : HeldIn (s.setSlot i (some g.admitting)) tag i g.admitting := held.setSlot rfl
    obtain ⟨others, flowed, slot⟩ := enterPriming_grantAt (s := s.setSlot i (some g.admitting)) config tagged held'
    have others' : ∀ j, j ≠ i → (enterPriming p (s.setSlot i (some g.admitting))).grantAt j = s.grantAt j :=
      fun j ne => by rw [others j ne, setSlot_grantAt, if_neg ne]
    refine ⟨⟨_, held.of_slots others' slot rfl, flowed, .stopped, .stopped, ?_⟩, others',
      enterPriming_lineState (s := s.setSlot i (some g.admitting)) config, by simp,
      enterPriming_tag (s := s.setSlot i (some g.admitting)) config, fun q hq _ => ?_, fun q hq => ?_⟩
    · simp [Grant.admitting, fueling]
    · obtain rfl := List.mem_singleton.mp hq
      exact enterPriming_drawing (s := s.setSlot i (some g.admitting)) config
    · refine enterPriming_point_other (s := s.setSlot i (some g.admitting)) config fun e => hq ⟨?_, ?_⟩
      · rw [e]; exact List.mem_singleton_self _
      · rw [e]; exact ready
  · rw [liftReport_fueling held.2 fueling (by simpa using met)]
    refine ⟨⟨_, held.setSlot rfl, g.flowed, .stopped, .stopped, rfl⟩, fun j ne => by rw [setSlot_grantAt, if_neg ne],
      fun l => rfl, rfl, fun q => rfl, fun q hq ready => ?_, fun q _ => rfl⟩
    obtain rfl := List.mem_singleton.mp hq
    exact absurd ((readmittable_iff lifted).mp ready) met

theorem Readmits.nil {s : State} {tag : Nat} {i : Fin 24} {g : Grant} (held : HeldIn s tag i g) (ps : List (Fin 32))
    (none : ∀ p ∈ ps, ¬ Readmittable s g p) : Readmits s s tag i g ps :=
  ⟨⟨g, held, .refl g⟩, fun _ _ => rfl, fun _ => rfl, rfl, fun _ => rfl, fun p hp ready => absurd ready (none p hp),
    fun _ _ => rfl⟩

theorem Readmits.trans {s t u : State} {tag : Nat} {i : Fin 24} {g h : Grant} {p : Fin 32} {rest : List (Fin 32)}
    (a : Readmits s t tag i g [p]) (held : HeldIn t tag i h) (follows : g.Resumes h) (b : Readmits t u tag i h rest) :
    Readmits s u tag i g (p :: rest) := by
  have ready : ∀ q, t.point q = s.point q → (Readmittable t h q ↔ Readmittable s g q) := by
    intro q same
    obtain ⟨_, _, _, rfl⟩ := follows
    simp only [Readmittable, same, a.site, a.lines]
    rfl
  have spent : ∀ q, (t.point q).state.drawing → ¬ Readmittable t h q := by
    rintro q (x | x | x) ⟨lifted, _⟩ <;> simp [x] at lifted
  obtain ⟨k, heldK, resumes⟩ := b.grant
  refine ⟨⟨k, heldK, follows.trans resumes⟩, fun j ne => (b.others j ne).trans (a.others j ne),
    fun l => (b.lines l).trans (a.lines l), b.site.trans a.site, fun q => (b.tags q).trans (a.tags q),
    fun q hq r => ?_, fun q hq => ?_⟩
  · by_cases first : q = p
    · have drawn := a.drawing q (List.mem_singleton.mpr first) r
      rw [b.kept q fun again => spent q drawn again.2]
      exact drawn
    · have same := a.kept q fun h => first (List.mem_singleton.mp h.1)
      exact b.drawing q ((List.mem_cons.mp hq).resolve_left first) ((ready q same).mpr r)
  · have same := a.kept q fun h => hq ⟨List.mem_cons.mpr (.inl (List.mem_singleton.mp h.1)), h.2⟩
    rw [b.kept q fun h => hq ⟨List.mem_cons_of_mem p h.1, (ready q same).mp h.2⟩, same]

theorem readmits_resumeReports {tag : Nat} {i : Fin 24} (ps : List (Fin 32)) {s : State} {g : Grant}
    (held : HeldIn s tag i g) (fueling : g.state = .fueling) (tagged : ∀ p ∈ ps, (s.point p).tag = some tag) :
    Readmits s (resumeReports i ps s) tag i g ps := by
  induction ps generalizing s g with
  | nil => exact .nil held [] (by simp)
  | cons p rest ih =>
    have unfolded : resumeReports i (p :: rest) s = resumeReports i rest
        (if (s.point p).state = .lifted then liftReport i p (s.liftConditions p) s else s) := rfl
    have first : Readmits s (if (s.point p).state = .lifted then liftReport i p (s.liftConditions p) s else s)
        tag i g [p] := by
      split
      · next lifted => exact readmits_liftReport held fueling (tagged p List.mem_cons_self) lifted
      · next down => exact .nil held [p] (by simp [Readmittable, down])
    rw [unfolded]
    obtain ⟨h, heldH, follows⟩ := first.grant
    refine first.trans heldH follows (ih heldH ?_ fun q hq => ?_)
    · obtain ⟨_, _, _, rfl⟩ := follows; exact fueling
    · rw [first.tags]; exact tagged q (List.mem_cons_of_mem p hq)

theorem resumeReports_frame (i : Fin 24) (ps : List (Fin 32)) (s : State) :
    (resumeReports i ps s).su = s.su ∧ (resumeReports i ps s).tu = s.tu ∧ (resumeReports i ps s).ss = s.ss
      ∧ (resumeReports i ps s).ibi = s.ibi ∧ (resumeReports i ps s).cp = s.cp ∧ (resumeReports i ps s).au = s.au
      ∧ (resumeReports i ps s).pins = s.pins := by
  induction ps generalizing s with
  | nil => exact ⟨rfl, rfl, rfl, rfl, rfl, rfl, rfl⟩
  | cons p rest ih =>
    have unfolded : resumeReports i (p :: rest) s = resumeReports i rest
        (if (s.point p).state = .lifted then liftReport i p (s.liftConditions p) s else s) := rfl
    rw [unfolded]
    split
    · simpa using ih (liftReport i p (s.liftConditions p) s)
    · exact ih s

theorem resumeReports_down (i : Fin 24) (ps : List (Fin 32)) {s : State} (down : ∀ p ∈ ps, (s.point p).state ≠ .lifted) :
    resumeReports i ps s = s := by
  induction ps with
  | nil => rfl
  | cons p rest ih =>
    have unfolded : resumeReports i (p :: rest) s = resumeReports i rest
        (if (s.point p).state = .lifted then liftReport i p (s.liftConditions p) s else s) := rfl
    rw [unfolded, if_neg (down p List.mem_cons_self), ih fun q hq => down q (List.mem_cons_of_mem p hq)]

/-- The waiting timer changes its own grant's timers alone. -/
theorem startWaitTimer_grantAt {i : Fin 24} {h : Grant} {s : State} (hh : s.grantAt i = some h) :
    (∀ j, j ≠ i → (startWaitTimer i s).grantAt j = s.grantAt j)
      ∧ ∃ k, (startWaitTimer i s).grantAt i = some k ∧ h.Resumes k := by
  by_cases starts : h.state = .fueling ∧ s.anyLifted h.attached = false
  · rw [startWaitTimer_starts hh starts.1 starts.2]
    exact ⟨fun j ne => by rw [setSlot_grantAt, if_neg ne], _, setSlot_grantAt_self .., .waiting (.refl h) _⟩
  · rw [startWaitTimer_still hh (by rwa [not_and_or, Bool.not_eq_false] at starts)]
    exact ⟨fun _ _ => rfl, h, hh, .refl h⟩

/-- A HELD grant that is FUELING again. -/
def Grant.resumed (g : Grant) : Grant := { g with state := .fueling, holdTimer := .stopped }

def resumedState (i : Fin 24) (g : Grant) (s : State) : State := s.setSlot i (some g.resumed)

theorem doResume_held {tag : Nat} {s : State} {i : Fin 24} {g : Grant} (held : HeldIn s tag i g) (h : g.state = .held) :
    doResume tag s =
      (startWaitTimer i
        (resumeReports i g.attached (resumedState i g s)),
        okWith []) := by
  simp [doResume, held.1, held.2, h, resumeGrant, resumedState, Grant.resumed]

/-- Settles O22. -/
theorem resumeReadmitsLiftedPoints : Obligations.ResumeReadmitsLiftedPoints := by
  intro tag s takes
  refine ⟨fun h => exec_answers takes rfl (by simp [doResume, findTag_eq_none.mpr h]), fun i g held =>
    ⟨fun h => exec_answers takes rfl (by simp [doResume, held.1, held.2, h]), fun h tagged => ?_⟩⟩
  have row := exec_answers takes rfl (doResume_held held h)
  have heldF : HeldIn (resumedState i g s) tag i g.resumed := held.setSlot rfl
  have readmits := readmits_resumeReports g.attached heldF rfl tagged
  obtain ⟨su, tu, ss, ibi, cp, au, pins⟩ := resumeReports_frame i g.attached
    (resumedState i g s)
  obtain ⟨k, heldK, resumesK⟩ := readmits.grant
  obtain ⟨others, g', slot, resumes⟩ := startWaitTimer_grantAt heldK.2
  obtain ⟨flowed, lift, idle, same⟩ := resumesK.trans resumes
  subst same
  refine ⟨_, _, row, ?_, slot, rfl, rfl, rfl, rfl, rfl, rfl, rfl, rfl, rfl, rfl,
    fun j ne => ?_, fun p => ?_, fun down => ?_, (startWaitTimer_su ..).trans su, (startWaitTimer_tu ..).trans tu,
    (startWaitTimer_ss ..).trans ss, (startWaitTimer_ibi ..).trans ibi, (startWaitTimer_au ..).trans au,
    (startWaitTimer_pins ..).trans pins⟩
  · simp only [State.giveAnswer]
    rw [startWaitTimer_cp, cp]
    rfl
  · exact (others j ne).trans ((readmits.others j ne).trans (by rw [resumedState, setSlot_grantAt, if_neg ne]))
  · have point : ((startWaitTimer i (resumeReports i g.attached
        (resumedState i g s))).giveAnswer (okWith [])).point p =
        (resumeReports i g.attached (resumedState i g s)).point p :=
      point_of_points (by simp [State.giveAnswer]) p
    rw [point]
    split
    · next h => exact readmits.drawing p h.1 h.2
    · next h => exact readmits.kept p h
  · have idle := resumeReports_down i g.attached
      (s := resumedState i g s) fun p hp => (down p hp).2
    rw [idle, startWaitTimer_starts heldF.2 rfl (anyLifted_eq_false.mpr fun p hp => (down p hp).1),
      setSlot_grantAt_self] at slot
    rw [← Option.some.inj slot]
    rfl

end Sys2Proof.Machine
end

section
/-! PROOFS. A period end at a point that meters a sale (R104, R106 to R119): what it adds to the grant, and when it exhausts
the allowance. -/

namespace Sys2Proof.Machine

theorem setPoint_setPoint (s : State) (p : Fin 32) (x y : Point) : (s.setPoint p x).setPoint p y = s.setPoint p y := by
  simp [State.setPoint]

theorem setSlot_setPoint (s : State) (i : Fin 24) (g : Option Grant) (p : Fin 32) (x : Point) :
    (s.setSlot i g).setPoint p x = (s.setPoint p x).setSlot i g := rfl

/-! ### The grant after a period's pulses -/

/-- The point `p` of configuration `c` meters the record `r` of the terms that its grant `g` has for its line. -/
structure MetersRecord (s : State) (p : Fin 32) (c : PointConfig) (tag : Nat) (i : Fin 24) (g : Grant) (a : Allowance)
    (terms : Armed) (r : PointRecord) : Prop where
  config : (s.point p).config = some c
  tagged : (s.point p).tag = some tag
  held : HeldIn s tag i g
  listed : g.allowanceOn c.line = some a
  armed : a.armed = some terms
  recorded : terms.records.find? (·.point == p) = some r

/-- The terms after the period's pulses of the point `p`. -/
def termsAfter (s : State) (p : Fin 32) (c : PointConfig) (terms : Armed) : Armed :=
  terms.accumulate p (s.point p).net (s.factor c.line)

/-- The grant after the period's pulses of the point `p`. -/
def meteredGrant (s : State) (p : Fin 32) (c : PointConfig) (g : Grant) (r : PointRecord) : Grant :=
  g.metered c.line p (s.point p).net (s.factor c.line)
    (marksDegraded r (s.point p).net (s.probe c.line).state)

/-- The state after the latching of the point's counters and the accumulation of its pulses. -/
def meteredState (s : State) (p : Fin 32) (c : PointConfig) (i : Fin 24) (g : Grant) (r : PointRecord) : State :=
  (s.setPoint p (s.point p).latched).setSlot i (some (meteredGrant s p c g r))

theorem marksDegraded_eq (r : PointRecord) (n : Int) (probe : ProbeState) :
    marksDegraded r n probe = decide (0 ≤ (r.pulses : Int) + n ∧ n ≠ 0 ∧ probe = .reference) := by
  rw [Bool.eq_iff_iff]
  simp [marksDegraded, pulsesClear, and_assoc]

theorem accumulate_exhausted (t : Armed) (p : Fin 32) (n f : Int) : (t.accumulate p n f).exhausted = t.exhausted := rfl

theorem accumulate_points (t : Armed) (p : Fin 32) (n f : Int) :
    (t.accumulate p n f).records.map (·.point) = t.records.map (·.point) := by
  simp only [Armed.accumulate, Armed.recompute, List.map_map]
  refine List.map_congr_left fun r _ => ?_
  simp only [Function.comp]
  split <;> rfl

theorem isOpen_eq (x : PointState) : x.isOpen = (x == .flowing || x == .slowing) := by
  cases x <;> rfl

/-- The sum of the last increments on the open points of the grant, that the close lead multiplies (R118). -/
def increments (s : State) (g : Grant) (t : Armed) : Nat :=
  ((t.records.filter fun r =>
      g.attached.contains r.point
        && ((s.point r.point).state == .flowing || (s.point r.point).state == .slowing)).map (·.lastIncrement)).sum

theorem openIncrement_eq (s : State) (g : Grant) (t : Armed) : openIncrement s g t = increments s g t := by
  simp only [openIncrement, increments, isOpen_eq]

section Metering

variable {s : State} {p : Fin 32} {c : PointConfig} {tag : Nat} {i : Fin 24} {g : Grant} {a : Allowance} {terms : Armed}
  {r : PointRecord}

theorem meteredState_point (q : Fin 32) :
    (meteredState s p c i g r).point q = if q = p then (s.point p).latched else s.point q := by
  rw [meteredState, setSlot_point, setPoint_point]

theorem meteredState_pointState (q : Fin 32) : ((meteredState s p c i g r).point q).state = (s.point q).state := by
  rw [meteredState_point]
  split
  · next e => rw [e]; rfl
  · rfl

theorem MetersRecord.heldAfter (m : MetersRecord s p c tag i g a terms r) :
    HeldIn (meteredState s p c i g r) tag i (meteredGrant s p c g r) :=
  (m.held.of_grantAt (t := s.setPoint p (s.point p).latched) fun _ => rfl).setSlot rfl

theorem MetersRecord.allowanceAfter (m : MetersRecord s p c tag i g a terms r) :
    (meteredGrant s p c g r).allowanceOn c.line = some { a with armed := some (termsAfter s p c terms) } := by
  have found := allowanceOn_modAllowance g c.line c.line
    (f := fun a => { a with armed := a.armed.map fun t => t.accumulate p (s.point p).net (s.factor c.line) }) fun _ => rfl
  rw [m.listed, Option.map_some, if_pos (allowanceOn_line m.listed), m.armed] at found
  exact found

theorem MetersRecord.openAfter (m : MetersRecord s p c tag i g a terms r) :
    (meteredGrant s p c g r).openOn c.line = !terms.exhausted := by
  simp [Grant.openOn, m.allowanceAfter, Allowance.isOpen, termsAfter, accumulate_exhausted]

/-- The sale step of a point that meters a record accumulates and evaluates. -/
theorem MetersRecord.saleStep (m : MetersRecord s p c tag i g a terms r) :
    Machine.saleStep p c (s.point p).net (s.setPoint p (s.point p).latched) =
      evaluate i c.line (meteredState s p c i g r) := by
  have latched : (s.setPoint p (s.point p).latched).point p = (s.point p).latched := by rw [setPoint_point, if_pos rfl]
  have slot : (s.setPoint p (s.point p).latched).slotOfPoint p = some i :=
    slotOfPoint_held (by rw [latched]; exact m.tagged) (m.held.of_grantAt fun _ => rfl)
  have record : (s.setPoint p (s.point p).latched).recordOfPoint p = some r := by
    have config : (s.point p).latched.config = some c := m.config
    simp [State.recordOfPoint, State.termsOfPoint, latched, config, slot, m.held.2, m.listed, m.armed, Armed.recordOf,
      m.recorded]
  have grant : (s.setPoint p (s.point p).latched).grantAt i = some g := m.held.2
  simp only [Machine.saleStep, slot, record, State.modGrant, grant, Option.map_some]
  rfl

theorem MetersRecord.evaluate (m : MetersRecord s p c tag i g a terms r) :
    Machine.evaluate i c.line (meteredState s p c i g r) =
      if terms.exhausted then meteredState s p c i g r
      else if exhaustionMet (termsAfter s p c terms).residual (increments s g (termsAfter s p c terms))
          (s.lineField c.line (·.closeLead)) then
        exhaustAllowance i c.line ((termsAfter s p c terms).attachedPoints g) (meteredState s p c i g r)
      else if (termsAfter s p c terms).residual ≤ (s.lineField c.line (·.slowMargin) : Int) then
        slowOrders ((termsAfter s p c terms).attachedPoints g) (meteredState s p c i g r)
      else meteredState s p c i g r := by
  have opened : openIncrement (meteredState s p c i g r) (meteredGrant s p c g r) (termsAfter s p c terms) =
      increments s g (termsAfter s p c terms) := by
    rw [openIncrement_eq]
    simp only [increments, meteredState_pointState]
    rfl
  simp only [Machine.evaluate, m.heldAfter.2, m.allowanceAfter, Option.bind_some, opened]
  rfl

/-- Above its slow margin an allowance goes on as it is, and an EXHAUSTED one only counts. -/
theorem MetersRecord.saleStep_goesOn (m : MetersRecord s p c tag i g a terms r)
    (goesOn : terms.exhausted = true
      ∨ 0 < (termsAfter s p c terms).residual
        ∧ ((increments s g (termsAfter s p c terms) * s.lineField c.line (·.closeLead) : Nat) : Int)
          < (termsAfter s p c terms).residual
        ∧ (s.lineField c.line (·.slowMargin) : Int) < (termsAfter s p c terms).residual) :
    Machine.saleStep p c (s.point p).net (s.setPoint p (s.point p).latched) = meteredState s p c i g r := by
  rw [m.saleStep, m.evaluate]
  rcases goesOn with exhausted | ⟨left, lead, margin⟩
  · rw [if_pos exhausted]
  · have unmet : exhaustionMet (termsAfter s p c terms).residual (increments s g (termsAfter s p c terms))
        (s.lineField c.line (·.closeLead)) = false := by
      simp only [exhaustionMet, Bool.or_eq_false_iff, decide_eq_false_iff_not, not_le]
      exact ⟨left, lead⟩
    rw [unmet, if_neg (not_le.mpr margin)]
    simp

theorem MetersRecord.saleStep_exhausts (m : MetersRecord s p c tag i g a terms r) (isOpen : terms.exhausted = false)
    (met : (termsAfter s p c terms).residual ≤ 0
      ∨ (termsAfter s p c terms).residual
        ≤ ((increments s g (termsAfter s p c terms) * s.lineField c.line (·.closeLead) : Nat) : Int)) :
    Machine.saleStep p c (s.point p).net (s.setPoint p (s.point p).latched) =
      exhaustAllowance i c.line ((termsAfter s p c terms).attachedPoints g) (meteredState s p c i g r) := by
  have met : exhaustionMet (termsAfter s p c terms).residual (increments s g (termsAfter s p c terms))
      (s.lineField c.line (·.closeLead)) = true := by
    simp only [exhaustionMet, Bool.or_eq_true, decide_eq_true_eq]
    exact met
  rw [m.saleStep, m.evaluate, isOpen, met]
  simp

end Metering

end Sys2Proof.Machine
end

section
/-! PROOFS. Period ends (R101 to R104): the steps of one point, and the exhaustion of a grant's last allowance (R25, R119). -/

namespace Sys2Proof.Machine

/-! ### The steps of a period end -/

theorem periodEnd_row (p : Fin 32) (s : State) : exec (.periodEnd p) s = .next (periodEnd p s) := rfl

theorem faulty_iff {x : Point} {c : PointConfig} :
    x.faulty c = true ↔ c.threshold ≤ x.errors ∨ x.forward = 4095 ∨ x.reverse = 4095 := by
  simp [Point.faulty, Config.counterTop, or_assoc]

theorem faulty_eq_false {x : Point} {c : PointConfig} (errors : x.errors < c.threshold) (forward : x.forward ≠ 4095)
    (reverse : x.reverse ≠ 4095) : x.faulty c = false := by
  rw [← Bool.not_eq_true, faulty_iff]
  omega

section PeriodEnd

variable {s : State} {p : Fin 32} {c : PointConfig}

/-- A period end at a point that meters a sale. -/
theorem periodEnd_metering (config : (s.point p).config = some c) (meters : (s.point p).state.metersSale = true) :
    periodEnd p s =
      if (s.point p).faulty c || s.saturatesAt p (s.point p).net then
        pulserFault p (pointTimers p (s.point p).state (s.point p).net
          (saleStep p c (s.point p).net (s.setPoint p (s.point p).latched)))
      else pointTimers p (s.point p).state (s.point p).net
        (saleStep p c (s.point p).net (s.setPoint p (s.point p).latched)) := by
  have unwatched : (s.point p).state.creepWatched = false := by
    cases h : (s.point p).state <;> simp_all [PointState.metersSale, PointState.creepWatched]
  unfold periodEnd
  split
  · next h => rw [config] at h; exact absurd h (by simp)
  · next d h =>
    obtain rfl := Option.some.inj (config.symm.trans h)
    simp only [meters, unwatched, if_true, Bool.false_eq_true, if_false]

/-- A period end at a point whose valve is closed. -/
theorem periodEnd_watched (config : (s.point p).config = some c) (watched : (s.point p).state.creepWatched = true) :
    periodEnd p s =
      if (s.point p).faulty c then
        pulserFault p (creepWatch p c (s.point p).net (s.setPoint p (s.point p).latched))
      else creepWatch p c (s.point p).net (s.setPoint p (s.point p).latched) := by
  have unmetered : (s.point p).state.metersSale = false := by
    cases h : (s.point p).state <;> simp_all [PointState.metersSale, PointState.creepWatched]
  have unsettled : (s.point p).state ≠ .settling := by
    intro h; rw [h] at watched; exact absurd watched (by simp [PointState.creepWatched])
  have shut : (s.point p).latched.state.isOpen = false := by
    cases h : (s.point p).state <;> simp_all [PointState.creepWatched, PointState.isOpen, Point.latched]
  have timed : pointTimers p (s.point p).state (s.point p).net (s.setPoint p (s.point p).latched) =
      s.setPoint p (s.point p).latched := by
    simp [pointTimers, unsettled, shut]
  unfold periodEnd
  split
  · next h => rw [config] at h; exact absurd h (by simp)
  · next d h =>
    obtain rfl := Option.some.inj (config.symm.trans h)
    simp only [unmetered, watched, if_true, Bool.false_eq_true, if_false, timed, State.saturatesAt, Bool.false_and,
      Bool.or_false]

end PeriodEnd

section Metering

variable {s : State} {p : Fin 32} {c : PointConfig} {tag : Nat} {i : Fin 24} {g : Grant} {a : Allowance} {terms : Armed}
  {r : PointRecord}

theorem MetersRecord.saturates (m : MetersRecord s p c tag i g a terms r)
    (below : (r.pulses : Int) + (s.point p).net ≤ 4294967295) : s.saturatesAt p (s.point p).net = false := by
  have record : s.recordOfPoint p = some r := by
    simp [State.recordOfPoint, State.termsOfPoint, m.config, slotOfPoint_held m.tagged m.held, m.held.2, m.listed,
      m.armed, Armed.recordOf, m.recorded]
  have bounded : pulsesSaturate r (s.point p).net = false := decide_eq_false (not_lt.mpr below)
  simp [State.saturatesAt, record, bounded]

/-- The grant whose allowance on the point's line the period exhausts. -/
def exhaustedGrant (s : State) (p : Fin 32) (c : PointConfig) (g : Grant) (r : PointRecord) : Grant :=
  (meteredGrant s p c g r).modAllowance c.line Allowance.exhaust

theorem exhaustedGrant_eq (s : State) (p : Fin 32) (c : PointConfig) (g : Grant) (r : PointRecord) :
    exhaustedGrant s p c g r =
      { g with
        allowances := g.allowances.map fun b =>
          if b.line = c.line then
            { b with
              armed := b.armed.map fun u =>
                { u.accumulate p (s.point p).net (s.factor c.line) with exhausted := true } }
          else b
        degraded := g.degraded || marksDegraded r (s.point p).net (s.probe c.line).state } := by
  have allowances : (exhaustedGrant s p c g r).allowances = g.allowances.map fun b =>
      if b.line = c.line then
        { b with
          armed := b.armed.map fun u =>
            { u.accumulate p (s.point p).net (s.factor c.line) with exhausted := true } }
      else b := by
    simp only [exhaustedGrant, meteredGrant, Grant.metered, Grant.modAllowance, List.map_map]
    refine List.map_congr_left fun b _ => ?_
    by_cases e : b.line = c.line <;> simp [e, Allowance.exhaust, Function.comp_def]
  rw [← allowances]
  rfl

theorem exhaustedGrant_allExhausted (others : ∀ b ∈ g.allowances, b.line ≠ c.line → b.isOpen = false) :
    (exhaustedGrant s p c g r).allExhausted = true := by
  rw [allExhausted_iff, exhaustedGrant_eq]
  intro b hb
  obtain ⟨b₀, hb₀, rfl⟩ := List.mem_map.mp hb
  split
  · cases b₀.armed <;> simp [Allowance.isOpen]
  · next ne => exact others b₀ hb₀ ne

/-- The exhaustion of a FUELING grant's last OPEN allowance ends the grant. -/
theorem MetersRecord.exhausts (m : MetersRecord s p c tag i g a terms r) (fueling : g.state = .fueling)
    (last : ∀ b ∈ g.allowances, b.line ≠ c.line → b.isOpen = false) (points : List (Fin 32)) :
    exhaustAllowance i c.line points (meteredState s p c i g r) =
      enterClosing i .limit
        (closeOrders points ((s.setPoint p (s.point p).latched).setSlot i (some (exhaustedGrant s p c g r)))) := by
  have exhausted : (meteredState s p c i g r).modGrant i (·.modAllowance c.line Allowance.exhaust) =
      (s.setPoint p (s.point p).latched).setSlot i (some (exhaustedGrant s p c g r)) := by
    rw [State.modGrant, m.heldAfter.2, meteredState, setSlot_setSlot]
    rfl
  have left : (exhaustedGrant s p c g r).state = .fueling := fueling
  simp [exhaustAllowance, exhausted, exhaustionReport, exhaustedGrant_allExhausted last, left]

end Metering

theorem shutAt_of_closed {p : Fin 32} {s : State} (h : (s.point p).state.isOpenOrPriming = false) : ShutAt p s := by
  unfold ShutAt
  cases x : (s.point p).state <;> simp_all [PointState.isOpenOrPriming, PointState.isOpen]

theorem pointTimers_shut {p : Fin 32} {was : PointState} {n : Int} {s : State} (unsettled : was ≠ .settling)
    (shut : ShutAt p s) : pointTimers p was n s = s := by
  unfold ShutAt at shut
  simp [pointTimers, unsettled, shut]

/-- Settles O31. -/
theorem periodEndExhaustsAllowance : Obligations.PeriodEndExhaustsAllowance := by
  intro p s c tag i g a terms r x n after q opens config tagged held fueling attached listed armed isOpen last recorded
    errors forward reverse below met
  have m : MetersRecord s p c tag i g a terms r := ⟨config, tagged, held, listed, armed, recorded⟩
  have meters : (s.point p).state.metersSale = true := by rcases opens with h | h <;> rw [h] <;> rfl
  have unsettled : (s.point p).state ≠ .settling := by rcases opens with h | h <;> rw [h] <;> simp
  have sound : ((s.point p).faulty c || s.saturatesAt p (s.point p).net) = false := by
    rw [faulty_eq_false errors forward reverse, m.saturates below]; rfl
  have mine : p ∈ (termsAfter s p c terms).attachedPoints g := by
    rw [mem_attachedPoints, termsAfter, accumulate_points]
    exact ⟨List.mem_map.mpr ⟨r, List.mem_of_find?_eq_some recorded, by simpa using List.find?_some recorded⟩, attached⟩
  have shut : ShutAt p (enterClosing i .limit (closeOrders ((termsAfter s p c terms).attachedPoints g)
      ((s.setPoint p (s.point p).latched).setSlot i (some (exhaustedGrant s p c g r))))) :=
    shutAt_enterClosing (shutAt_of_closed (closeOrders_closed _ mine)) i .limit
  rw [periodEnd_row, periodEnd_metering config meters, sound, m.saleStep_exhausts isOpen met, m.exhausts fueling last]
  rw [if_neg (by simp), pointTimers_shut unsettled shut, exhaustedGrant_eq, marksDegraded_eq]
  rfl

end Sys2Proof.Machine
end

section
/-! PROOFS. The settle window (R79, R81, R104, R122): its period ends and what its last one brings (R20, R30). -/

namespace Sys2Proof.Machine

/-- A lift is no news to a grant that is neither ARMED nor FUELING. -/
theorem liftReport_deaf {i : Fin 24} {g : Grant} {p : Fin 32} {s : State} {conditions : Bool}
    (hg : s.grantAt i = some g) (deaf : g.state ≠ .armed ∧ g.state ≠ .fueling) : liftReport i p conditions s = s :=
  liftReport_unmet hg deaf.2 fun armed => absurd armed deaf.1

section Window

variable {s : State} {p : Fin 32} {c : PointConfig} {tag : Nat} {i : Fin 24} {g : Grant} {a : Allowance} {terms : Armed}
  {r : PointRecord}

theorem meteredGrant_eq (s : State) (p : Fin 32) (c : PointConfig) (g : Grant) (r : PointRecord) :
    meteredGrant s p c g r =
      { g with
        allowances := g.allowances.map fun b =>
          if b.line = c.line then
            { b with armed := b.armed.map fun u => u.accumulate p (s.point p).net (s.factor c.line) }
          else b
        degraded :=
          g.degraded
            || decide (0 ≤ (r.pulses : Int) + (s.point p).net ∧ (s.point p).net ≠ 0
              ∧ (s.probe c.line).state = .reference) } := by
  rw [meteredGrant, marksDegraded_eq]
  rfl

theorem meteredGrant_state (s : State) (p : Fin 32) (c : PointConfig) (g : Grant) (r : PointRecord) :
    (meteredGrant s p c g r).state = g.state := rfl

/-- The point as the last period end of its window leaves it: IDLE or LIFTED by its nozzle. -/
def Point.windowOver (x : Point) : Point :=
  { x.latched with state := if x.nozzle then .lifted else .idle, settleLeft := 0, creep := 0 }

/-- The state in which the window is over, before that is reported. -/
def windowOver (s : State) (p : Fin 32) (c : PointConfig) (i : Fin 24) (g : Grant) (r : PointRecord) : State :=
  (s.setPoint p (s.point p).windowOver).setSlot i (some (meteredGrant s p c g r))

theorem windowOver_point (q : Fin 32) :
    (windowOver s p c i g r).point q = if q = p then (s.point p).windowOver else s.point q := by
  rw [windowOver, setSlot_point, setPoint_point]

theorem MetersRecord.heldOver (m : MetersRecord s p c tag i g a terms r) :
    HeldIn (windowOver s p c i g r) tag i (meteredGrant s p c g r) :=
  (m.held.of_grantAt (t := s.setPoint p (s.point p).windowOver) fun _ => rfl).setSlot rfl

theorem MetersRecord.taggedOver (m : MetersRecord s p c tag i g a terms r) :
    ((windowOver s p c i g r).point p).tag = some tag := by
  rw [windowOver_point, if_pos rfl]
  exact m.tagged

theorem MetersRecord.configOver (m : MetersRecord s p c tag i g a terms r) :
    ((windowOver s p c i g r).point p).config = some c := by
  rw [windowOver_point, if_pos rfl]
  exact m.config

theorem windowEnd_eq :
    windowEnd p (meteredState s p c i g r) =
      if (s.point p).nozzle then
        reportLift p ((reportExit p (windowOver s p c i g r)).liftConditions p) (reportExit p (windowOver s p c i g r))
      else reportExit p (windowOver s p c i g r) := by
  have stands : (meteredState s p c i g r).point p = (s.point p).latched := by rw [meteredState_point, if_pos rfl]
  have ended : (meteredState s p c i g r).setPoint p
      { (s.point p).latched with
        state := if (s.point p).latched.nozzle then .lifted else .idle
        settleLeft := 0
        creep := 0 } = windowOver s p c i g r := by
    rw [meteredState, setSlot_setPoint, setPoint_setPoint]
    rfl
  simp only [windowEnd, stands, ended]
  rfl

/-- A point whose window is over keeps no grant from settling. -/
theorem windowOver_frees : ((s.point p).windowOver.state).blocksSettlement = false := by
  unfold Point.windowOver
  cases (s.point p).nozzle <;> rfl

/-- The period end of a point in its settle window. -/
theorem MetersRecord.periodEnd_settling (m : MetersRecord s p c tag i g a terms r) (settling : (s.point p).state = .settling)
    (goesOn : terms.exhausted = true
      ∨ 0 < (termsAfter s p c terms).residual
        ∧ ((increments s g (termsAfter s p c terms) * s.lineField c.line (·.closeLead) : Nat) : Int)
          < (termsAfter s p c terms).residual
        ∧ (s.lineField c.line (·.slowMargin) : Int) < (termsAfter s p c terms).residual)
    (sound : (s.point p).faulty c = false) (below : (r.pulses : Int) + (s.point p).net ≤ 4294967295) :
    periodEnd p s =
      if (s.point p).settleLeft ≤ 1 then windowEnd p (meteredState s p c i g r)
      else (s.setPoint p { (s.point p).latched with settleLeft := (s.point p).settleLeft - 1 }).setSlot i
        (some (meteredGrant s p c g r)) := by
  have stands : (meteredState s p c i g r).point p = (s.point p).latched := by rw [meteredState_point, if_pos rfl]
  have counts : (meteredState s p c i g r).setPoint p
      { (s.point p).latched with settleLeft := (s.point p).latched.settleLeft - 1 } =
      (s.setPoint p { (s.point p).latched with settleLeft := (s.point p).settleLeft - 1 }).setSlot i
        (some (meteredGrant s p c g r)) := by
    rw [meteredState, setSlot_setPoint, setPoint_setPoint]
    rfl
  rw [periodEnd_metering m.config (by rw [settling]; rfl), sound, m.saturates below, m.saleStep_goesOn goesOn, settling]
  simp only [pointTimers, stands, counts]
  rfl

/-- A grant that is not CLOSING hears of the window's end only where the nozzle is lifted. -/
theorem MetersRecord.windowEnd_live (m : MetersRecord s p c tag i g a terms r) (live : g.state ≠ .closing) :
    windowEnd p (meteredState s p c i g r) =
      if (s.point p).nozzle then
        liftReport i p ((windowOver s p c i g r).liftConditions p) (windowOver s p c i g r)
      else windowOver s p c i g r := by
  rw [windowEnd_eq, reportExit_still m.taggedOver m.heldOver live, reportLift_held m.taggedOver m.heldOver]

theorem MetersRecord.windowEnd_kept (m : MetersRecord s p c tag i g a terms r)
    (quiet : g.state = .held ∨ g.state = .fueling ∧ (s.point p).nozzle = false) :
    windowEnd p (meteredState s p c i g r) = windowOver s p c i g r := by
  have live : g.state ≠ .closing := by rcases quiet with h | ⟨h, _⟩ <;> simp [h]
  rw [m.windowEnd_live live]
  rcases quiet with held | ⟨_, down⟩
  · rw [liftReport_deaf m.heldOver.2 (by rw [meteredGrant_state, held]; simp), ite_self]
  · rw [down]; simp

theorem MetersRecord.due (m : MetersRecord s p c tag i g a terms r) (closing : g.state = .closing) :
    (windowOver s p c i g r).completionDue i = true ↔
      ∀ u ∈ g.attached, u ≠ p → (s.point u).state.blocksSettlement = false := by
  rw [completionDue_iff]
  constructor
  · rintro ⟨h, hh, _, quiet⟩ u hu ne
    obtain rfl := Option.some.inj (m.heldOver.2.symm.trans hh)
    have free := quiet u hu
    rwa [windowOver_point, if_neg ne] at free
  · intro quiet
    refine ⟨_, m.heldOver.2, closing, fun u hu => ?_⟩
    rw [windowOver_point]
    split
    · exact windowOver_frees
    · exact quiet u hu ‹_›

theorem MetersRecord.windowEnd_waits (m : MetersRecord s p c tag i g a terms r) (closing : g.state = .closing)
    (busy : ∃ u ∈ g.attached, u ≠ p ∧ (s.point u).state.blocksSettlement = true) :
    windowEnd p (meteredState s p c i g r) = windowOver s p c i g r := by
  have waits : (windowOver s p c i g r).completionDue i = false := by
    rw [← Bool.not_eq_true, m.due closing]
    obtain ⟨u, hu, ne, blocks⟩ := busy
    exact fun quiet => by simp [quiet u hu ne] at blocks
  have kept : completionTest i (windowOver s p c i g r) = windowOver s p c i g r := by
    rw [completionTest, waits]; simp
  rw [windowEnd_eq, reportExit_held m.taggedOver m.heldOver, kept, reportLift_held m.taggedOver m.heldOver,
    liftReport_deaf m.heldOver.2 (by rw [meteredGrant_state, closing]; simp), ite_self]

theorem settle_tag {p : Fin 32} {s : State} {i : Fin 24} {g : Grant} (hg : s.grantAt i = some g)
    (live : g.state ≠ .settled) (mine : p ∈ g.attached) : ((settle i s).point p).tag = none := by
  rw [settle_point hg live, if_pos mine]

theorem MetersRecord.windowEnd_settles (m : MetersRecord s p c tag i g a terms r) (closing : g.state = .closing)
    (mine : p ∈ g.attached) (quiet : ∀ u ∈ g.attached, u ≠ p → (s.point u).state.blocksSettlement = false) :
    windowEnd p (meteredState s p c i g r) = settle i (windowOver s p c i g r) := by
  have settles : completionTest i (windowOver s p c i g r) = settle i (windowOver s p c i g r) := by
    rw [completionTest, (m.due closing).mpr quiet]; simp
  have live : (meteredGrant s p c g r).state ≠ .settled := by rw [meteredGrant_state, closing]; simp
  have free : ((settle i (windowOver s p c i g r)).point p).tag = none := settle_tag m.heldOver.2 live mine
  rw [windowEnd_eq, reportExit_held m.taggedOver m.heldOver, settles, reportLift_unattached free, ite_self]

theorem MetersRecord.metOver (m : MetersRecord s p c tag i g a terms r) (up : (s.point p).nozzle = true) :
    ((windowOver s p c i g r).liftConditions p
        && (windowOver s p c i g r).drawsOnOpen (meteredGrant s p c g r) p) = true ↔
      s.ss.site = .running ∧ (s.line c.line).state = .available ∧ terms.exhausted = false := by
  have lifted : ((windowOver s p c i g r).point p).state = .lifted := by
    rw [windowOver_point, if_pos rfl]; simp [Point.windowOver, up]
  rw [Bool.and_eq_true, liftConditions_iff m.configOver, drawsOnOpen_eq m.configOver, m.openAfter, lifted]
  simp only [ne_eq, reduceCtorEq, not_false_eq_true, and_true, and_assoc, Bool.not_eq_true']
  rfl

/-- The grant after the window's end with the nozzle lifted: its waiting timers are stopped. -/
def Grant.liftSeen (g : Grant) : Grant := { g with liftTimer := .stopped, idleEndTimer := .stopped }

theorem admitting_fueling {h : Grant} (fueling : h.state = .fueling) : h.admitting = h.liftSeen := by
  simp [Grant.admitting, Grant.liftSeen, fueling]

theorem MetersRecord.windowEnd_stays (m : MetersRecord s p c tag i g a terms r) (fueling : g.state = .fueling)
    (up : (s.point p).nozzle = true)
    (unmet : s.ss.site ≠ .running ∨ (s.line c.line).state ≠ .available ∨ terms.exhausted = true) :
    windowEnd p (meteredState s p c i g r) =
      (windowOver s p c i g r).setSlot i (some (meteredGrant s p c g r).liftSeen) := by
  have refused := (m.metOver up).not.mpr fun ⟨running, available, isOpen⟩ => by
    simp [running, available, isOpen] at unmet
  rw [m.windowEnd_live (by simp [fueling]), if_pos up, liftReport_fueling m.heldOver.2 fueling (by simpa using refused)]
  rfl

theorem MetersRecord.windowEnd_primes (m : MetersRecord s p c tag i g a terms r) (fueling : g.state = .fueling)
    (up : (s.point p).nozzle = true) (running : s.ss.site = .running) (available : (s.line c.line).state = .available)
    (isOpen : terms.exhausted = false) :
    windowEnd p (meteredState s p c i g r) =
      enterPriming p ((windowOver s p c i g r).setSlot i (some (meteredGrant s p c g r).liftSeen)) := by
  obtain ⟨conditions, draws⟩ := Bool.and_eq_true_iff.mp ((m.metOver up).mpr ⟨running, available, isOpen⟩)
  rw [m.windowEnd_live (by simp [fueling]), if_pos up, liftReport_admitted m.heldOver.2 (.inr fueling) conditions draws,
    admitting_fueling (h := meteredGrant s p c g r) fueling]

end Window

/-- Settles O35. -/
theorem settleWindowEnds : Obligations.SettleWindowEnds := by
  intro p s c tag i g a terms r x n factor after q latched metered settling config tagged held listed armed goesOn recorded
    errors forward reverse below
  have m : MetersRecord s p c tag i g a terms r := ⟨config, tagged, held, listed, armed, recorded⟩
  have row := m.periodEnd_settling settling goesOn (faulty_eq_false errors forward reverse) below
  have same : meteredGrant s p c g r = metered := meteredGrant_eq s p c g r
  rw [periodEnd_row, row]
  refine ⟨fun counting => ?_, fun last => ?_⟩
  · have more : ¬ (s.point p).settleLeft ≤ 1 := not_le.mpr counting
    rw [if_neg more, same]
    rfl
  have lastPeriod : (s.point p).settleLeft ≤ 1 := le_of_eq last
  rw [if_pos lastPeriod]
  intro left resumed
  have ended : windowOver s p c i g r = left := by rw [windowOver, same]; rfl
  have seen : (windowOver s p c i g r).setSlot i (some (meteredGrant s p c g r).liftSeen) = resumed := by
    rw [ended, same]; rfl
  rw [← ended, ← seen]
  refine ⟨fun closing busy => ?_, fun closing mine quiet => ?_, fun state down => ?_, fun state => ?_,
    fun fueling up unmet => ?_, fun fueling up running available isOpen => ?_⟩
  · rw [m.windowEnd_waits closing busy]
  · rw [m.windowEnd_settles closing mine quiet]
  · rw [m.windowEnd_kept (state.symm.imp_right fun fueling => ⟨fueling, down⟩)]
  · rw [m.windowEnd_kept (.inl state)]
  · rw [m.windowEnd_stays fueling up unmet]
  · rw [m.windowEnd_primes fueling up running available isOpen]

end Sys2Proof.Machine
end

section
/-! PROOFS. The entry to OUT_OF_SERVICE (R137, R146): the point's own end, and what its grant makes of it (R26, R30). -/

namespace Sys2Proof.Machine

/-! ### The point's own end -/

theorem withdrawOwn_setPoint {p : Fin 32} {s : State} {x : Point} (config : x.config = (s.point p).config) :
    withdrawOwn p (s.setPoint p x) = (withdrawOwn p s).setPoint p x := by
  unfold withdrawOwn
  rw [setPoint_point, if_pos rfl, config]
  split
  · unfold withdrawPump
    split <;> rename_i h
    · rw [if_pos (by exact h)]; rfl
    · rw [if_neg (by exact h)]
  · rfl

/-- The last acts of an entry to OUT_OF_SERVICE: the creep count cleared, POINT_FAULT raised. -/
def faultRaised (p : Fin 32) (s : State) : State :=
  (s.setPoint p { s.point p with creep := 0 }).raisePointFault p

theorem faultRaised_setSlot (p : Fin 32) (s : State) (i : Fin 24) (g : Option Grant) :
    faultRaised p (s.setSlot i g) = (faultRaised p s).setSlot i g := rfl

theorem outOfService_eq (p : Fin 32) (s : State) :
    outOfService p s = faultRaised p (leaveGrant p (withdrawOwn p (s.setPoint p (s.point p).takenOut))) := rfl

/-- The point out of service and out of its grant. -/
def Point.retired (x : Point) : Point := { x.takenOut with creep := 0, tag := none }

/-- The state in which the point has left, before its grant hears of it. -/
def retiredState (p : Fin 32) (s : State) : State :=
  (withdrawOwn p (s.setPoint p (s.point p).retired)).raisePointFault p

/-- The same without the last acts. -/
def detachedState (p : Fin 32) (s : State) : State :=
  detach p (withdrawOwn p (s.setPoint p (s.point p).takenOut))

theorem detachedState_eq (p : Fin 32) (s : State) :
    detachedState p s = (withdrawOwn p s).setPoint p { (s.point p).takenOut with tag := none } := by
  rw [detachedState, withdrawOwn_setPoint (by rfl), detach, setPoint_point, if_pos rfl, setPoint_setPoint]

theorem faultRaised_detached (p : Fin 32) (s : State) : faultRaised p (detachedState p s) = retiredState p s := by
  rw [detachedState_eq, faultRaised, setPoint_point, if_pos rfl, setPoint_setPoint, retiredState,
    withdrawOwn_setPoint (by rfl)]
  rfl

theorem takenOut_tag (p q : Fin 32) (s : State) :
    ((withdrawOwn p (s.setPoint p (s.point p).takenOut)).point q).tag = (s.point q).tag := by
  rw [withdrawOwn_point, setPoint_point]
  split
  · next e => rw [e]; rfl
  · rfl

theorem outOfService_unattached {p : Fin 32} {s : State} (alone : (s.point p).tag = none) :
    outOfService p s = retiredState p s := by
  rw [outOfService_eq, leaveGrant, slotOfPoint_none ((takenOut_tag p p s).trans alone), ← faultRaised_detached]
  rfl

theorem outOfService_held {p : Fin 32} {s : State} {tag : Nat} {i : Fin 24} {g : Grant}
    (tagged : (s.point p).tag = some tag) (held : HeldIn s tag i g) :
    outOfService p s = faultRaised p (removePoint i p (detachedState p s)) := by
  have slot : (withdrawOwn p (s.setPoint p (s.point p).takenOut)).slotOfPoint p = some i :=
    slotOfPoint_held ((takenOut_tag p p s).trans tagged) (held.of_grantAt fun j => grantAt_of_gm (by simp) j)
  rw [outOfService_eq, leaveGrant, slot]
  rfl

theorem detachedState_grantAt (p : Fin 32) (s : State) (j : Fin 24) : (detachedState p s).grantAt j = s.grantAt j :=
  grantAt_of_gm (by simp [detachedState, detach]) j

theorem detachedState_point_other {p q : Fin 32} (ne : q ≠ p) (s : State) : (detachedState p s).point q = s.point q := by
  rw [detachedState_eq, setPoint_point, if_neg ne, withdrawOwn_point]

/-! ### What the grant makes of it -/

/-- The grant without the point. -/
def Grant.without (g : Grant) (p : Fin 32) : Grant := { g with attached := g.attached.filter (· ≠ p) }

theorem without_eq (g : Grant) (p : Fin 32) : { g with attached := g.attached.filter (· != p) } = g.without p := by
  have same : g.attached.filter (· != p) = g.attached.filter (· ≠ p) :=
    List.filter_congr fun x _ => by simp [bne, beq_eq_decide]
  rw [same]
  rfl

theorem not_mem_without (g : Grant) (p : Fin 32) : p ∉ (g.without p).attached := by simp [Grant.without]

theorem active_eq_false {t : Timer} : t.active = false ↔ t = .stopped := by
  cases t <;> simp [Timer.active]

section RemovePoint

variable {i : Fin 24} {g : Grant} {p : Fin 32} {s : State}

theorem removePoint_deaf (hg : s.grantAt i = some g)
    (deaf : g.state = .pending ∨ g.state = .armed ∨ g.state = .held ∨ g.state = .settled) :
    removePoint i p s = s.setSlot i (some (g.without p)) := by
  rw [← without_eq]
  rcases deaf with h | h | h | h <;> simp [removePoint, hg, h]

theorem removePoint_timed (hg : s.grantAt i = some g) (fueling : g.state = .fueling)
    (timed : g.liftTimer ≠ .stopped ∨ g.idleEndTimer ≠ .stopped) :
    removePoint i p s = s.setSlot i (some (g.without p)) := by
  have active : (g.liftTimer.active || g.idleEndTimer.active) = true := by
    rw [← Bool.not_eq_false, Bool.or_eq_false_iff, active_eq_false, active_eq_false, not_and_or]
    exact timed
  rw [← without_eq]
  simp [removePoint, hg, fueling, active]

theorem removePoint_untimed (hg : s.grantAt i = some g) (fueling : g.state = .fueling) (lift : g.liftTimer = .stopped)
    (idle : g.idleEndTimer = .stopped) :
    removePoint i p s = startWaitTimer i (s.setSlot i (some (g.without p))) := by
  rw [← without_eq]
  simp [removePoint, hg, fueling, lift, idle, Timer.active]

theorem removePoint_closing (hg : s.grantAt i = some g) (closing : g.state = .closing) :
    removePoint i p s = completionTest i (s.setSlot i (some (g.without p))) := by
  rw [← without_eq]
  simp [removePoint, hg, closing]

end RemovePoint

/-! ### The settlement of a grant does not look at the point that left it -/

theorem detach_faultRaised {p q : Fin 32} (ne : q ≠ p) (s : State) :
    detach q (faultRaised p s) = faultRaised p (detach q s) := by
  have points : (s.setPoint p { s.point p with creep := 0 }).setPoint q
      { (s.setPoint p { s.point p with creep := 0 }).point q with tag := none } =
      (s.setPoint q { s.point q with tag := none }).setPoint p
        { (s.setPoint q { s.point q with tag := none }).point p with creep := 0 } := by
    rw [setPoint_point, if_neg ne, setPoint_point, if_neg (Ne.symm ne)]
    simp only [State.setPoint]
    rw [Vector.set_comm]
    exact fun e => ne (Fin.ext e.symm)
  exact congrArg (State.raisePointFault · p) points

theorem detachAll_faultRaised {p : Fin 32} {ps : List (Fin 32)} (out : p ∉ ps) (s : State) :
    detachAll ps (faultRaised p s) = faultRaised p (detachAll ps s) := by
  induction ps generalizing s with
  | nil => rfl
  | cons q rest ih =>
    have step : ∀ t, detachAll (q :: rest) t = detachAll rest (detach q t) := fun _ => rfl
    rw [step, step, detach_faultRaised (fun e => out (by simp [e])), ih (fun h => out (List.mem_cons_of_mem q h))]

theorem queueNotice_faultRaised (n : Fin 8) (x : Notice) (p : Fin 32) (s : State) :
    queueNotice n x (faultRaised p s) = faultRaised p (queueNotice n x s) := by
  have lane : (faultRaised p s).lane n = s.lane n := rfl
  unfold queueNotice
  rw [lane]
  split <;> rfl

theorem handAmount_faultRaised (g : Grant) (p : Fin 32) (s : State) :
    handAmount g (faultRaised p s) = faultRaised p (handAmount g s) := by
  unfold handAmount
  split <;> rfl

theorem haltTest_faultRaised (p : Fin 32) (s : State) : haltTest (faultRaised p s) = faultRaised p (haltTest s) := by
  by_cases h : s.ss.site = .halting ∧ s.anyClosing = false
  · rw [haltTest_eq h, haltTest_eq (s := faultRaised p s) h]; rfl
  · rw [haltTest_idle h, haltTest_idle (s := faultRaised p s) h]

theorem settle_faultRaised {i : Fin 24} {g : Grant} {p : Fin 32} {s : State} (hg : s.grantAt i = some g)
    (live : g.state ≠ .settled) (out : p ∉ g.attached) :
    settle i (faultRaised p s) = faultRaised p (settle i s) := by
  have stands : (faultRaised p s).grantAt i = some g := hg
  rw [settle, settle, settleCore_eq stands live, settleCore_eq hg live, ← haltTest_faultRaised, ← handAmount_faultRaised,
    ← queueNotice_faultRaised, ← detachAll_faultRaised out]
  rfl

end Sys2Proof.Machine
end

section
/-! PROOFS. Pulser faults (R103, R135, R137, R140) and the watch for creep (R147, R148). -/

namespace Sys2Proof.Machine

/-! ### The entry to OUT_OF_SERVICE, by the state of the grant -/

section OutOfService

variable {p : Fin 32} {s : State} {tag : Nat} {i : Fin 24} {g : Grant}

theorem ne_of_mem_without {u : Fin 32} (hu : u ∈ (g.without p).attached) : u ≠ p := by
  rintro rfl
  exact not_mem_without g u hu

theorem detachedState_removed_lifted :
    ((detachedState p s).setSlot i (some (g.without p))).anyLifted (g.without p).attached =
      s.anyLifted (g.without p).attached := by
  rw [Bool.eq_iff_iff, anyLifted_iff, anyLifted_iff]
  refine exists_congr fun u => and_congr_right fun hu => ?_
  rw [setSlot_point, detachedState_point_other (ne_of_mem_without hu)]

theorem outOfService_removed (tagged : (s.point p).tag = some tag) (held : HeldIn s tag i g)
    (removed : removePoint i p (detachedState p s) = (detachedState p s).setSlot i (some (g.without p))) :
    outOfService p s = (retiredState p s).setSlot i (some (g.without p)) := by
  rw [outOfService_held tagged held, removed, faultRaised_setSlot, faultRaised_detached]

theorem outOfService_deaf (tagged : (s.point p).tag = some tag) (held : HeldIn s tag i g)
    (deaf : g.state = .pending ∨ g.state = .armed ∨ g.state = .held ∨ g.state = .settled) :
    outOfService p s = (retiredState p s).setSlot i (some (g.without p)) :=
  outOfService_removed tagged held (removePoint_deaf ((detachedState_grantAt p s i).trans held.2) deaf)

theorem outOfService_fueling (tagged : (s.point p).tag = some tag) (held : HeldIn s tag i g)
    (fueling : g.state = .fueling)
    (busy : g.liftTimer ≠ .stopped ∨ g.idleEndTimer ≠ .stopped ∨ s.anyLifted (g.without p).attached = true) :
    outOfService p s = (retiredState p s).setSlot i (some (g.without p)) := by
  have stands := (detachedState_grantAt p s i).trans held.2
  refine outOfService_removed tagged held ?_
  by_cases timed : g.liftTimer ≠ .stopped ∨ g.idleEndTimer ≠ .stopped
  · exact removePoint_timed stands fueling timed
  · obtain ⟨lift, idle⟩ := not_or.mp timed
    have lifted : s.anyLifted (g.without p).attached = true := by simpa [not_not.mp lift, not_not.mp idle] using busy
    rw [removePoint_untimed stands fueling (not_not.mp lift) (not_not.mp idle)]
    exact startWaitTimer_still (setSlot_grantAt_self ..) (.inr (detachedState_removed_lifted.trans lifted))

theorem outOfService_waits (tagged : (s.point p).tag = some tag) (held : HeldIn s tag i g)
    (fueling : g.state = .fueling) (lift : g.liftTimer = .stopped) (idle : g.idleEndTimer = .stopped)
    (down : s.anyLifted (g.without p).attached = false) :
    outOfService p s = (retiredState p s).setSlot i (some ((g.without p).waiting s.cp.timers)) := by
  have stands := (detachedState_grantAt p s i).trans held.2
  have timers : ((detachedState p s).setSlot i (some (g.without p))).cp = s.cp := by simp [detachedState, detach]
  rw [outOfService_held tagged held, removePoint_untimed stands fueling lift idle,
    startWaitTimer_starts (g := g.without p) (setSlot_grantAt_self ..) fueling
      (detachedState_removed_lifted.trans down),
    setSlot_setSlot, timers, faultRaised_setSlot, faultRaised_detached]

theorem detachedState_due (closing : g.state = .closing) :
    ((detachedState p s).setSlot i (some (g.without p))).completionDue i = true ↔
      ∀ u ∈ (g.without p).attached, (s.point u).state.blocksSettlement = false := by
  have others : ∀ u ∈ (g.without p).attached,
      ((detachedState p s).setSlot i (some (g.without p))).point u = s.point u := fun u hu => by
    rw [setSlot_point, detachedState_point_other (ne_of_mem_without hu)]
  have stands := setSlot_grantAt_self (detachedState p s) i (some (g.without p))
  rw [completionDue_iff]
  constructor
  · rintro ⟨h, hh, _, quiet⟩ u hu
    obtain rfl := Option.some.inj (stands.symm.trans hh)
    rw [← others u hu]
    exact quiet u hu
  · intro quiet
    exact ⟨_, stands, closing, fun u hu => by rw [others u hu]; exact quiet u hu⟩

theorem outOfService_closing (tagged : (s.point p).tag = some tag) (held : HeldIn s tag i g)
    (closing : g.state = .closing) (busy : ∃ u ∈ (g.without p).attached, (s.point u).state.blocksSettlement = true) :
    outOfService p s = (retiredState p s).setSlot i (some (g.without p)) := by
  refine outOfService_removed tagged held ?_
  rw [removePoint_closing ((detachedState_grantAt p s i).trans held.2) closing]
  have waits : ((detachedState p s).setSlot i (some (g.without p))).completionDue i = false := by
    rw [← Bool.not_eq_true, detachedState_due closing]
    obtain ⟨u, hu, blocks⟩ := busy
    exact fun quiet => by simp [quiet u hu] at blocks
  rw [completionTest, waits]
  simp

theorem outOfService_settles (tagged : (s.point p).tag = some tag) (held : HeldIn s tag i g)
    (closing : g.state = .closing) (quiet : ∀ u ∈ (g.without p).attached, (s.point u).state.blocksSettlement = false) :
    outOfService p s = settle i ((retiredState p s).setSlot i (some (g.without p))) := by
  have live : (g.without p).state ≠ .settled := by
    have : (g.without p).state = .closing := closing
    simp [this]
  rw [outOfService_held tagged held, removePoint_closing ((detachedState_grantAt p s i).trans held.2) closing,
    completionTest, (detachedState_due closing).mpr quiet, if_pos rfl, ← faultRaised_detached, ← faultRaised_setSlot,
    settle_faultRaised (setSlot_grantAt_self ..) live (not_mem_without g p)]

end OutOfService

/-! ### A point out of service stays out of service -/

theorem startWaitTimer_point (i : Fin 24) (p : Fin 32) (s : State) : (startWaitTimer i s).point p = s.point p :=
  point_of_points (by simp) p

theorem removePoint_pointState (i : Fin 24) (p q : Fin 32) (s : State) :
    ((removePoint i p s).point q).state = (s.point q).state := by
  unfold removePoint
  split
  · dsimp only
    split
    · split
      · rfl
      · rw [startWaitTimer_point]; rfl
    · rw [completionTest_point_state]; rfl
    all_goals rfl
  · rfl

theorem leaveGrant_pointState (p q : Fin 32) (s : State) : ((leaveGrant p s).point q).state = (s.point q).state := by
  have detached : ((detach p s).point q).state = (s.point q).state := by
    rw [detach, setPoint_point]
    split
    · next e => rw [e]
    · rfl
  unfold leaveGrant
  split
  · rw [removePoint_pointState, detached]
  · exact detached

theorem outOfService_pointState (p : Fin 32) (s : State) : ((outOfService p s).point p).state = .outOfService := by
  have state : ∀ t : State, ((faultRaised p t).point p).state = (t.point p).state := fun t => by
    have creep : (faultRaised p t).point p = { t.point p with creep := 0 } := (setPoint_point ..).trans (if_pos rfl)
    rw [creep]
  rw [outOfService_eq, state, leaveGrant_pointState, withdrawOwn_point, setPoint_point, if_pos rfl]
  rfl

/-! ### Pulser faults -/

theorem pulserFault_gone {p : Fin 32} {s : State} (gone : (s.point p).state = .outOfService) : pulserFault p s = s := by
  simp [pulserFault, gone]

section Faults

variable {p : Fin 32} {s : State} {tag : Nat} {i : Fin 24} {g : Grant}

/-- A point whose valve is closed, in service. -/
def PointState.faultsOut (x : PointState) : Prop := x = .idle ∨ x = .lifted ∨ x = .priming ∨ x = .settling

theorem grantStateOfPoint_held (tagged : (s.point p).tag = some tag) (held : HeldIn s tag i g) :
    s.grantStateOfPoint p = some g.state := by
  simp [State.grantStateOfPoint, slotOfPoint_held tagged held, held.2]

theorem pulserFault_unattached (closed : (s.point p).state.faultsOut) (alone : (s.point p).tag = none) :
    pulserFault p s = outOfService p s := by
  have none : s.grantStateOfPoint p ≠ some .held := by simp [State.grantStateOfPoint, slotOfPoint_none alone]
  rcases closed with h | h | h | h <;> simp only [pulserFault, h, if_neg none]

theorem pulserFault_attached (closed : (s.point p).state.faultsOut) (tagged : (s.point p).tag = some tag)
    (held : HeldIn s tag i g) :
    pulserFault p s = outOfService p (if g.state = .held then enterClosing i .compound s else s) := by
  have compound : compoundFault p s = outOfService p (enterClosing i .compound s) := by
    simp only [compoundFault, slotOfPoint_held tagged held]
  have faults : pulserFault p s = if g.state = .held then compoundFault p s else outOfService p s := by
    rcases closed with h | h | h | h <;>
      simp only [pulserFault, h, grantStateOfPoint_held tagged held, Option.some.injEq]
  rw [faults, compound]
  split <;> rfl

theorem pulserFault_holds (opens : (s.point p).state = .flowing ∨ (s.point p).state = .slowing)
    (tagged : (s.point p).tag = some tag) (held : HeldIn s tag i g) (fueling : g.state = .fueling) :
    pulserFault p s = (enterHeld i s).raisePointFault p := by
  have holds : faultHold p s = (enterHeld i s).raisePointFault p := by
    simp only [faultHold, slotOfPoint_held tagged held]
  have own : s.grantStateOfPoint p = some .fueling := by rw [grantStateOfPoint_held tagged held, fueling]
  rw [← holds]
  rcases opens with h | h <;> simp only [pulserFault, h, if_pos own]

end Faults

/-! ### The watch for creep -/

/-- The creep count after a period's net count: floored at 0. -/
def Point.creepAfter (x : Point) (n : Int) : Nat := if (x.creep : Int) + n < 0 then 0 else ((x.creep : Int) + n).toNat

theorem creepAfter_eq (x : Point) (n : Int) : x.creepAfter n = ((x.creep : Int) + n).toNat := by
  unfold Point.creepAfter
  split <;> omega

section Creep

variable {p : Fin 32} {c : PointConfig} {n : Int} {s : State}

theorem creepWatch_within (within : (s.point p).creepAfter n ≤ c.creepAllowance) :
    creepWatch p c n s = s.setPoint p { s.point p with creep := (s.point p).creepAfter n } := by
  rw [creepAfter_eq] at *
  rw [creepWatch, if_neg (not_lt.mpr within)]

theorem creepWatch_lockout (gone : (s.point p).state = .outOfService)
    (excess : c.creepAllowance < (s.point p).creepAfter n) :
    creepWatch p c n s = lockout c.line (s.setPoint p { s.point p with creep := 0 }) := by
  rw [creepAfter_eq] at excess
  simp only [creepWatch, if_pos excess, creepExcess, if_pos gone]

theorem creepWatch_excess (inService : (s.point p).state ≠ .outOfService)
    (excess : c.creepAllowance < (s.point p).creepAfter n) :
    creepWatch p c n s = unauthorizedFlow p (s.setPoint p { s.point p with creep := 0 }) := by
  rw [creepAfter_eq] at excess
  simp only [creepWatch, if_pos excess, creepExcess, if_neg inService]

end Creep

theorem unauthorizedFlow_unattached {p : Fin 32} {s : State} (alone : (s.point p).tag = none) :
    unauthorizedFlow p s = outOfService p s := by
  simp only [unauthorizedFlow, slotOfPoint_none alone]

theorem unauthorizedFlow_attached {p : Fin 32} {s : State} {tag : Nat} {i : Fin 24} {g : Grant}
    (tagged : (s.point p).tag = some tag) (held : HeldIn s tag i g) :
    unauthorizedFlow p s =
      outOfService p
        (if g.state = .armed ∨ g.state = .fueling ∨ g.state = .held then enterClosing i .unauthFlow s else s) := by
  simp only [unauthorizedFlow, slotOfPoint_held tagged held, held.2, Option.any_some, Bool.or_eq_true, beq_iff_eq,
    or_assoc]

end Sys2Proof.Machine
end

section
/-! PROOFS. The escalation of pulser faults and of creep, period end by period end (R135 to R148). -/

namespace Sys2Proof.Machine

/-! ### Close orders stop the no-flow timer whatever it was -/

/-- The point's no-flow timer at `timer`. -/
def withNoFlow (p : Fin 32) (timer : Timer) (s : State) : State := s.setPoint p { s.point p with noFlow := timer }

theorem setPoint_comm {p q : Fin 32} (ne : p ≠ q) (s : State) (x y : Point) :
    (s.setPoint p x).setPoint q y = (s.setPoint q y).setPoint p x := by
  simp only [State.setPoint]
  rw [Vector.set_comm]
  exact fun e => ne (Fin.ext e)

theorem closeValve_withNoFlow_self (p : Fin 32) (timer : Timer) (s : State) :
    closeValve p (withNoFlow p timer s) = closeValve p s := by
  simp only [closeValve, withNoFlow, setPoint_point, if_true, setPoint_setPoint]
  rfl

theorem withdrawOwn_withNoFlow {p q : Fin 32} (ne : q ≠ p) (timer : Timer) (s : State) :
    withdrawOwn q (withNoFlow p timer s) = withNoFlow p timer (withdrawOwn q s) := by
  have same : (withNoFlow p timer s).point q = s.point q := by rw [withNoFlow, setPoint_point, if_neg ne]
  have kept := withdrawOwn_point q p s
  unfold withNoFlow at *
  rw [kept]
  unfold withdrawOwn
  rw [same]
  split
  · unfold withdrawPump
    split <;> rename_i h
    · rw [if_pos (by exact h)]; rfl
    · rw [if_neg (by exact h)]
  · rfl

theorem closeOrder_withNoFlow {p q : Fin 32} (ne : q ≠ p) (timer : Timer) (s : State) :
    closeOrder q (withNoFlow p timer s) = withNoFlow p timer (closeOrder q s) := by
  have same : (withNoFlow p timer s).point q = s.point q := by rw [withNoFlow, setPoint_point, if_neg ne]
  have moved : (withNoFlow p timer s).setPoint q ((s.point q).settlingFrom s.cp.timers.settle) =
      withNoFlow p timer (s.setPoint q ((s.point q).settlingFrom s.cp.timers.settle)) := by
    rw [withNoFlow, withNoFlow, setPoint_comm (Ne.symm ne), setPoint_point, if_neg (Ne.symm ne)]
  unfold closeOrder
  rw [same]
  split
  · rw [closeValve, same, closeValve, ← withdrawOwn_withNoFlow ne, ← moved]
    rfl
  · rfl

/-- Close orders that close the point stop its no-flow timer whatever it was. -/
theorem closeOrders_withNoFlow {p : Fin 32} {ps : List (Fin 32)} (mine : p ∈ ps) (timer : Timer) {s : State}
    (opens : (s.point p).state.isOpenOrPriming = true) :
    closeOrders ps (withNoFlow p timer s) = closeOrders ps s := by
  induction ps generalizing s with
  | nil => exact absurd mine (by simp)
  | cons q rest ih =>
    have step : ∀ t, closeOrders (q :: rest) t = closeOrders rest (closeOrder q t) := fun _ => rfl
    rw [step, step]
    by_cases e : q = p
    · subst e
      have still : ((withNoFlow q timer s).point q).state.isOpenOrPriming = true := by
        rw [withNoFlow, setPoint_point, if_pos rfl]; exact opens
      rw [closeOrder, if_pos still, closeValve_withNoFlow_self, closeOrder, if_pos opens]
    · have later : p ∈ rest := (List.mem_cons.mp mine).resolve_left (Ne.symm e)
      have kept : ((closeOrder q s).point p).state.isOpenOrPriming = true := by
        rw [closeOrder_point, if_neg (fun h => e h.1.symm)]; exact opens
      rw [closeOrder_withNoFlow e, ih later kept]

/-! ### A fault on a delivering point -/

section Delivering

variable {s : State} {p : Fin 32} {c : PointConfig} {tag : Nat} {i : Fin 24} {g : Grant} {a : Allowance} {terms : Armed}
  {r : PointRecord}

theorem enterHeld_eq (hg : s.grantAt i = some g) :
    enterHeld i s = closeOrders g.attached (s.setSlot i (some (g.heldForm s.cp.timers.hold))) := by
  simp [enterHeld, hg]

/-- The grant held after a period's pulses: its points closed, whatever the no-flow timer of the faulty one was. -/
theorem MetersRecord.enterHeld (m : MetersRecord s p c tag i g a terms r) (mine : p ∈ g.attached)
    (opens : (s.point p).state.isOpenOrPriming = true) (timer : Timer) :
    Machine.enterHeld i (withNoFlow p timer (meteredState s p c i g r)) =
      (closeOrders g.attached (s.setPoint p (s.point p).latched)).setSlot i
        (some ((meteredGrant s p c g r).heldForm s.cp.timers.hold)) := by
  have stands : (withNoFlow p timer (meteredState s p c i g r)).grantAt i = some (meteredGrant s p c g r) := m.heldAfter.2
  have still : ((s.setPoint p (s.point p).latched).point p).state.isOpenOrPriming = true := by
    rw [setPoint_point, if_pos rfl]; exact opens
  have moved : (withNoFlow p timer (meteredState s p c i g r)).setSlot i
      (some ((meteredGrant s p c g r).heldForm s.cp.timers.hold)) =
      (withNoFlow p timer (s.setPoint p (s.point p).latched)).setSlot i
        (some ((meteredGrant s p c g r).heldForm s.cp.timers.hold)) :=
    setSlot_setSlot (withNoFlow p timer (s.setPoint p (s.point p).latched)) ..
  rw [enterHeld_eq stands]
  refine (congrArg (closeOrders g.attached) moved).trans ?_
  rw [closeOrders_setSlot, closeOrders_withNoFlow mine timer still]

theorem setPoint_self (s : State) (p : Fin 32) : s.setPoint p (s.point p) = s := by
  simp [State.setPoint, State.point]

/-- The timers of an open point's period end touch its no-flow timer alone. -/
theorem pointTimers_open {was : PointState} (unsettled : was ≠ .settling) (n : Int) :
    ∃ timer, pointTimers p was n s = withNoFlow p timer s := by
  unfold pointTimers
  rw [if_neg unsettled]
  split
  · exact ⟨_, rfl⟩
  · exact ⟨(s.point p).noFlow, (setPoint_self s p).symm⟩

theorem MetersRecord.periodEnd_holds (m : MetersRecord s p c tag i g a terms r)
    (opens : (s.point p).state = .flowing ∨ (s.point p).state = .slowing) (fueling : g.state = .fueling)
    (mine : p ∈ g.attached) (faulty : (s.point p).faulty c = true)
    (goesOn : 0 < (termsAfter s p c terms).residual
        ∧ ((increments s g (termsAfter s p c terms) * s.lineField c.line (·.closeLead) : Nat) : Int)
          < (termsAfter s p c terms).residual
        ∧ (s.lineField c.line (·.slowMargin) : Int) < (termsAfter s p c terms).residual) :
    periodEnd p s =
      ((closeOrders g.attached (s.setPoint p (s.point p).latched)).setSlot i
        (some ((meteredGrant s p c g r).heldForm s.cp.timers.hold))).raisePointFault p := by
  have meters : (s.point p).state.metersSale = true := by rcases opens with h | h <;> rw [h] <;> rfl
  have unsettled : (s.point p).state ≠ .settling := by rcases opens with h | h <;> rw [h] <;> simp
  have busy : (s.point p).state.isOpenOrPriming = true := by rcases opens with h | h <;> rw [h] <;> rfl
  rw [periodEnd_metering m.config meters, faulty, m.saleStep_goesOn (.inr goesOn)]
  obtain ⟨timer, timed⟩ := pointTimers_open (s := meteredState s p c i g r) (p := p) unsettled (s.point p).net
  rw [timed, if_pos (by simp)]
  have stands : (withNoFlow p timer (meteredState s p c i g r)).point p =
      { (s.point p).latched with noFlow := timer } := by
    rw [withNoFlow, setPoint_point, if_pos rfl, meteredState_point, if_pos rfl]
  have held : HeldIn (withNoFlow p timer (meteredState s p c i g r)) tag i (meteredGrant s p c g r) :=
    m.heldAfter.of_grantAt fun _ => rfl
  rw [pulserFault_holds (by rw [stands]; exact opens) (by rw [stands]; exact m.tagged) held fueling, m.enterHeld mine busy]

/-- A fault in the settle window: the period is counted, and the point goes. -/
theorem MetersRecord.periodEnd_faultSettling (m : MetersRecord s p c tag i g a terms r)
    (settling : (s.point p).state = .settling) (counting : 2 ≤ (s.point p).settleLeft)
    (faulty : (s.point p).faulty c = true)
    (goesOn : terms.exhausted = true
      ∨ 0 < (termsAfter s p c terms).residual
        ∧ ((increments s g (termsAfter s p c terms) * s.lineField c.line (·.closeLead) : Nat) : Int)
          < (termsAfter s p c terms).residual
        ∧ (s.lineField c.line (·.slowMargin) : Int) < (termsAfter s p c terms).residual)
    {t : State}
    (counted : t = (s.setPoint p { (s.point p).latched with settleLeft := (s.point p).settleLeft - 1 }).setSlot i
      (some (meteredGrant s p c g r))) :
    periodEnd p s = outOfService p (if g.state = .held then enterClosing i .compound t else t) := by
  have stands : (meteredState s p c i g r).point p = (s.point p).latched := by rw [meteredState_point, if_pos rfl]
  have timed : pointTimers p .settling (s.point p).net (meteredState s p c i g r) = t := by
    have more : ¬ (s.point p).latched.settleLeft ≤ 1 := not_le.mpr counting
    rw [pointTimers, if_pos rfl, stands, if_neg more, counted, meteredState, setSlot_setPoint, setPoint_setPoint]
    rfl
  have point : t.point p = { (s.point p).latched with settleLeft := (s.point p).settleLeft - 1 } := by
    rw [counted, setSlot_point, setPoint_point, if_pos rfl]
  have held : HeldIn t tag i (meteredGrant s p c g r) := by
    rw [counted]
    exact (m.held.of_grantAt (t := s.setPoint p _) fun _ => rfl).setSlot rfl
  rw [periodEnd_metering m.config (by rw [settling]; rfl), faulty, m.saleStep_goesOn goesOn, settling, timed,
    if_pos (by simp), pulserFault_attached (by rw [point]; exact .inr (.inr (.inr settling)))
      (by rw [point]; exact m.tagged) held]
  rfl

end Delivering

/-! ### A fault on a point whose valve is closed -/

theorem withdrawOwn_still {p : Fin 32} {s : State} {c : PointConfig} (config : (s.point p).config = some c)
    (unrequested : hasPoint (s.line c.line).requesting p = false) : withdrawOwn p s = s := by
  simp [withdrawOwn, config, withdrawPump, unrequested]

/-- An unattached point with no request leaves nothing but its own service. -/
theorem outOfService_alone {p : Fin 32} {s : State} {c : PointConfig} (config : (s.point p).config = some c)
    (unrequested : hasPoint (s.line c.line).requesting p = false) (alone : (s.point p).tag = none) :
    outOfService p s = (s.setPoint p { (s.point p).takenOut with creep := 0 }).raisePointFault p := by
  have retired : (s.point p).retired = { (s.point p).takenOut with creep := 0 } := by
    simp [Point.retired, Point.takenOut, Point.withStage, alone]
  rw [outOfService_unattached alone, retiredState, withdrawOwn_setPoint (by rfl), withdrawOwn_still config unrequested,
    retired]

section Closed

variable {s : State} {p : Fin 32} {c : PointConfig} {tag : Nat} {i : Fin 24} {g : Grant}

/-- The point with its counters latched and its creep count at `n`. -/
def Point.creeping (x : Point) (n : Nat) : Point := { x.latched with creep := n }

theorem creepWatch_latched_within (within : (s.point p).creepAfter (s.point p).net ≤ c.creepAllowance) :
    creepWatch p c (s.point p).net (s.setPoint p (s.point p).latched) =
      s.setPoint p ((s.point p).creeping ((s.point p).creepAfter (s.point p).net)) := by
  have stands : (s.setPoint p (s.point p).latched).point p = (s.point p).latched := by rw [setPoint_point, if_pos rfl]
  have same : (s.point p).latched.creepAfter (s.point p).net = (s.point p).creepAfter (s.point p).net := rfl
  rw [creepWatch_within (by rw [stands, same]; exact within), stands, setPoint_setPoint, same]
  rfl

theorem creepWatch_latched_excess (inService : (s.point p).state ≠ .outOfService)
    (excess : c.creepAllowance < (s.point p).creepAfter (s.point p).net) :
    creepWatch p c (s.point p).net (s.setPoint p (s.point p).latched) =
      unauthorizedFlow p (s.setPoint p ((s.point p).creeping 0)) := by
  have stands : (s.setPoint p (s.point p).latched).point p = (s.point p).latched := by rw [setPoint_point, if_pos rfl]
  rw [creepWatch_excess (by rw [stands]; exact inService) (by rw [stands]; exact excess), stands, setPoint_setPoint]
  rfl

theorem creepWatch_latched_lockout (gone : (s.point p).state = .outOfService)
    (excess : c.creepAllowance < (s.point p).creepAfter (s.point p).net) :
    creepWatch p c (s.point p).net (s.setPoint p (s.point p).latched) =
      lockout c.line (s.setPoint p ((s.point p).creeping 0)) := by
  have stands : (s.setPoint p (s.point p).latched).point p = (s.point p).latched := by rw [setPoint_point, if_pos rfl]
  rw [creepWatch_lockout (by rw [stands]; exact gone) (by rw [stands]; exact excess), stands, setPoint_setPoint]
  rfl

theorem creeping_point (n : Nat) : (s.setPoint p ((s.point p).creeping n)).point p = (s.point p).creeping n := by
  rw [setPoint_point, if_pos rfl]

/-- An unattached point without a request, its counters latched, that goes out of service. -/
theorem outOfService_creeping (config : (s.point p).config = some c)
    (unrequested : hasPoint (s.line c.line).requesting p = false) (alone : (s.point p).tag = none) (n : Nat) :
    outOfService p (s.setPoint p ((s.point p).creeping n)) =
      (s.setPoint p { (s.point p).latched.takenOut with creep := 0 }).raisePointFault p := by
  rw [outOfService_alone (s := s.setPoint p ((s.point p).creeping n)) (c := c) (by rw [creeping_point]; exact config) unrequested
    (by rw [creeping_point]; exact alone), creeping_point, setPoint_setPoint]
  rfl

theorem unattached_leaves (config : (s.point p).config = some c) (state : (s.point p).state = .idle ∨ (s.point p).state = .lifted)
    (alone : (s.point p).tag = none) (unrequested : hasPoint (s.line c.line).requesting p = false)
    (leaves : (s.point p).faulty c = true ∨ c.creepAllowance < (s.point p).creepAfter (s.point p).net) :
    periodEnd p s = (s.setPoint p { (s.point p).latched.takenOut with creep := 0 }).raisePointFault p := by
  have watched : (s.point p).state.creepWatched = true := by rcases state with h | h <;> rw [h] <;> rfl
  have inService : (s.point p).state ≠ .outOfService := by rcases state with h | h <;> rw [h] <;> simp
  rw [periodEnd_watched config watched]
  by_cases within : (s.point p).creepAfter (s.point p).net ≤ c.creepAllowance
  · rw [creepWatch_latched_within within, if_pos (leaves.resolve_right (not_lt.mpr within)),
      pulserFault_unattached (by rw [creeping_point]; exact state.imp_right .inl) (by rw [creeping_point]; exact alone),
      outOfService_creeping config unrequested alone]
  · rw [creepWatch_latched_excess inService (not_le.mp within),
      unauthorizedFlow_unattached (by rw [creeping_point]; exact alone), pulserFault_gone (outOfService_pointState ..),
      ite_self, outOfService_creeping config unrequested alone]

end Closed

/-- Settles O33. -/
theorem pulserFaultEscalates : Obligations.PulserFaultEscalates := by
  refine ⟨fun p s => ⟨fun alone => outOfService_unattached alone, fun tag i g tagged held => ?_⟩, ?_⟩
  · intro others removed
    refine ⟨fun deaf => outOfService_deaf tagged held deaf, fun fueling busy => ?_, fun fueling lift idle down => ?_,
      fun closing busy => outOfService_closing tagged held closing busy,
      fun closing quiet => outOfService_settles tagged held closing quiet⟩
    · exact outOfService_fueling tagged held fueling (busy.imp_right fun h => h.imp_right anyLifted_iff.mpr)
    · exact outOfService_waits tagged held fueling lift idle (anyLifted_eq_false.mpr down)
  intro p s c config x n factor sum latched increments_ metered faulty
  have faulty : (s.point p).faulty c = true := faulty_iff.mpr faulty
  have same : ∀ g r, meteredGrant s p c g r = metered g r := meteredGrant_eq s p c
  refine ⟨fun tag i g a terms r opens tagged held fueling mine listed armed _ recorded left lead margin => ?_,
    fun state alone unrequested => ?_, fun tag i g tagged held => ⟨fun state within => ?_,
    fun a terms r settling counting listed armed recorded goesOn => ?_⟩⟩
  · have m : MetersRecord s p c tag i g a terms r := ⟨config, tagged, held, listed, armed, recorded⟩
    rw [periodEnd_row, m.periodEnd_holds opens fueling mine faulty ⟨left, lead, margin⟩, same]
    rfl
  · rw [periodEnd_row, unattached_leaves config state alone unrequested (.inl faulty)]
    rfl
  · have watched : (s.point p).state.creepWatched = true := by rcases state with h | h | h <;> rw [h] <;> rfl
    have closed : ((s.setPoint p ((s.point p).creeping ((s.point p).creepAfter (s.point p).net))).point p).state.faultsOut := by
      rw [creeping_point]
      rcases state with h | h | h
      · exact .inl h
      · exact .inr (.inl h)
      · exact .inr (.inr (.inl h))
    intro after
    rw [periodEnd_row, periodEnd_watched config watched, if_pos faulty, creepWatch_latched_within within,
      pulserFault_attached closed (by rw [creeping_point]; exact tagged) (held.of_grantAt fun _ => rfl)]
    rfl
  · have m : MetersRecord s p c tag i g a terms r := ⟨config, tagged, held, listed, armed, recorded⟩
    intro counted
    rw [periodEnd_row, m.periodEnd_faultSettling (t := counted) settling counting faulty goesOn (by rw [same]; rfl)]

end Sys2Proof.Machine
end

section
/-! PROOFS. Creep at a closed point (R147, R148): counted, and beyond its allowance escalated. -/

namespace Sys2Proof.Machine

/-! ### A lockout leaves a point that is out of service -/

/-- The point is OUT_OF_SERVICE. -/
def GoneAt (p : Fin 32) (s : State) : Prop := (s.point p).state = .outOfService

theorem goneAt_closeOrders {p : Fin 32} {s : State} (gone : GoneAt p s) (ps : List (Fin 32)) :
    GoneAt p (closeOrders ps s) := by
  unfold GoneAt at *
  rw [closeOrders_point, gone, if_neg (by simp [PointState.isOpenOrPriming])]
  exact gone

theorem goneAt_enterClosing {p : Fin 32} {s : State} (gone : GoneAt p s) (i : Fin 24) (r : EndReason) :
    GoneAt p (enterClosing i r s) := by
  have core : GoneAt p (enterClosingCore i r s) := by
    unfold enterClosingCore
    split
    · exact goneAt_closeOrders (s := s.setSlot ..) gone _
    · exact gone
  exact (completionTest_point_state i p _).trans core

theorem goneAt_lockoutGrant {p : Fin 32} {s : State} (gone : GoneAt p s) (i : Fin 24) : GoneAt p (lockoutGrant i s) := by
  unfold lockoutGrant
  split
  · split
    · exact goneAt_enterClosing gone ..
    · exact gone
  · exact gone

theorem goneAt_exhaustLine {p : Fin 32} {s : State} (gone : GoneAt p s) (l : Fin 4) (slots : List (Fin 24)) :
    GoneAt p (exhaustLine l slots s) :=
  foldl_keeps (P := GoneAt p) (f := fun t i => t.modGrant i (·.modAllowance l Allowance.exhaust)) (fun _ _ h => h) slots s
    gone

theorem goneAt_lockout {p : Fin 32} {s : State} (gone : GoneAt p s) (l : Fin 4) : GoneAt p (lockout l s) := by
  unfold lockout
  split
  · exact gone
  · have lockedOut : GoneAt p (lineLockedOut l s) := by
      unfold GoneAt at *
      rw [lineLockedOut_point, gone, if_neg (by simp [PointState.isOpenOrPriming])]
      exact gone
    have raised : ∀ t : State, GoneAt p t → GoneAt p (t.raiseLineLockout l) := fun _ h => h
    have drawn : ∀ (t : State) (n : Nat), GoneAt p t → GoneAt p { t with draws := n } := fun _ _ h => h
    refine raised _ (foldl_keeps (P := GoneAt p) (f := fun t i => lockoutGrant i t)
      (fun _ i h => goneAt_lockoutGrant h i) _ _ (drawn _ _ (goneAt_exhaustLine lockedOut l _)))

/-- A point out of service is watched for creep and for nothing else. -/
theorem periodEnd_gone {p : Fin 32} {s : State} {c : PointConfig} (config : (s.point p).config = some c)
    (gone : (s.point p).state = .outOfService) :
    periodEnd p s = creepWatch p c (s.point p).net (s.setPoint p (s.point p).latched) := by
  have still : GoneAt p (creepWatch p c (s.point p).net (s.setPoint p (s.point p).latched)) := by
    by_cases within : (s.point p).creepAfter (s.point p).net ≤ c.creepAllowance
    · rw [creepWatch_latched_within within, GoneAt, creeping_point]
      exact gone
    · rw [creepWatch_latched_lockout gone (not_le.mp within)]
      refine goneAt_lockout ?_ c.line
      rw [GoneAt, creeping_point]
      exact gone
  rw [periodEnd_watched config (by rw [gone]; rfl), pulserFault_gone still, ite_self]

/-- Settles O32. -/
theorem creepIsWatched : Obligations.CreepIsWatched := by
  intro p s c config x n sum latched
  rw [periodEnd_row]
  refine ⟨fun state errors forward reverse within => ?_, fun gone within => ?_, fun state alone unrequested excess => ?_,
    fun tag i g state tagged held excess => ?_, fun gone excess => ?_⟩
  · have watched : (s.point p).state.creepWatched = true := by rcases state with h | h | h <;> rw [h] <;> rfl
    rw [periodEnd_watched config watched, faulty_eq_false errors forward reverse, creepWatch_latched_within within]
    rfl
  · rw [periodEnd_gone config gone, creepWatch_latched_within within]
    rfl
  · rw [unattached_leaves config state alone unrequested (.inr excess)]
    rfl
  · have watched : (s.point p).state.creepWatched = true := by rcases state with h | h | h <;> rw [h] <;> rfl
    have inService : (s.point p).state ≠ .outOfService := by rcases state with h | h | h <;> rw [h] <;> simp
    intro restarted
    rw [periodEnd_watched config watched, creepWatch_latched_excess inService excess,
      unauthorizedFlow_attached (s := s.setPoint p ((s.point p).creeping 0)) (by rw [creeping_point]; exact tagged)
        (held.of_grantAt fun _ => rfl), pulserFault_gone (outOfService_pointState ..), ite_self]
    rfl
  · rw [periodEnd_gone config gone, creepWatch_latched_lockout gone excess]
    rfl

end Sys2Proof.Machine
end

section
/-! PROOFS. The bounds and the table law (R36, R42, R53, R58, R79, R101, R124, R147, R176, R199): the two laws with their
parts named, the relation "every law of the two that held still holds" between a state and a later one, and the single
updates that keep it. -/

namespace Sys2Proof.Machine

/-! ### The laws with their parts named -/

/-- A point's counters, latches and settle window are in range, and its creep count is within its allowance. -/
def Point.Bounded (x : Point) : Prop :=
  x.forward ≤ 4095 ∧ x.reverse ≤ 4095 ∧ x.errors ≤ 4095 ∧ x.latchForward ≤ 4095 ∧ x.latchReverse ≤ 4095
    ∧ x.latchErrors ≤ 4095 ∧ x.settleLeft ≤ 30 ∧ ∀ c, x.config = some c → x.creep ≤ c.creepAllowance

/-- A lane holds at most two notices and has counted at most two NAKs of the head. -/
def Lane.Bounded (x : Lane) : Prop := x.notices.length ≤ 2 ∧ x.attempts ≤ 2

/-- The settle count is one that TIMERS_SET can leave. -/
def SettleInRange (t : TimerSettings) : Prop := 2 ≤ t.settle ∧ t.settle ≤ 30

/-- A probe has the form of its state, and is in rotation exactly while its line is configured with a probe. -/
def ProbeFits (x : Probe) (y : Line) : Prop := ProbeForm x ∧ (x.inRotation = true ↔ y.hasProbe = true)

/-- The bounds with their parts named. -/
structure Bounded (s : State) : Prop where
  points : ∀ p, (s.point p).Bounded
  lanes : ∀ n, (s.lane n).Bounded
  timers : SettleInRange s.cp.timers
  probes : ∀ l, ProbeFits (s.probe l) (s.line l)

theorem hasProbe_iff (y : Line) : y.hasProbe = true ↔ ∃ c, y.config = some c ∧ c.probe = true := by
  simp [Line.hasProbe, Option.any_eq_true]

theorem boundLaw_iff {s : State} : BoundLaw s ↔ Bounded s := by
  constructor
  · rintro ⟨points, lanes, least, most, probes⟩
    exact ⟨points, lanes, ⟨least, most⟩, fun l => ⟨(probes l).1, (probes l).2.trans (hasProbe_iff _).symm⟩⟩
  · rintro ⟨points, lanes, ⟨least, most⟩, probes⟩
    exact ⟨points, lanes, least, most, fun l => ⟨(probes l).1, (probes l).2.trans (hasProbe_iff _)⟩⟩

/-- The law of the program table (R36, R37). -/
def ProgramsLawful (programs : List Program) : Prop :=
  programs.length ≤ 32 ∧ (programs.map (·.id)).Nodup ∧ programs.Pairwise (fun a b => a.high < b.low)
    ∧ ∀ p ∈ programs, p.low ≤ p.high ∧ p.countLimit ≤ 15

/-- The law of the deny set (R42). -/
def DeniedLawful (denied : List Pan) : Prop := denied.length ≤ 1024 ∧ denied.Nodup

/-- The law of the stand-in tally (R53, R58, R59). -/
def ScreeningUnit.TallyLawful (u : ScreeningUnit) : Prop :=
  (∀ j k e f, u.entryAt j = some e → u.entryAt k = some f → e.pan = f.pan → j = k)
    ∧ ∀ k e, u.entryAt k = some e → e.count ≤ 15 ∧ e.amount ≤ 99999999

/-- The law of the Screening Unit's tables. -/
structure ScreeningUnit.Lawful (u : ScreeningUnit) : Prop where
  programs : ProgramsLawful u.programs
  denied : DeniedLawful u.denied
  tally : u.TallyLawful

theorem tableLaw_iff {s : State} : TableLaw s ↔ s.su.Lawful := by
  constructor
  · rintro ⟨length, ids, ranges, entries, deniedLength, distinct, unique, bounded⟩
    exact ⟨⟨length, ids, ranges, entries⟩, ⟨deniedLength, distinct⟩, ⟨unique, bounded⟩⟩
  · rintro ⟨⟨length, ids, ranges, entries⟩, ⟨deniedLength, distinct⟩, ⟨unique, bounded⟩⟩
    exact ⟨length, ids, ranges, entries, deniedLength, distinct, unique, bounded⟩

/-! ### What keeps the two laws -/

/-- From `s` to `t` both laws are kept. -/
structure KeepsLaws (s t : State) : Prop where
  bounds : Bounded s → Bounded t
  tables : s.su.Lawful → t.su.Lawful

theorem KeepsLaws.refl (s : State) : KeepsLaws s s := ⟨id, id⟩

theorem KeepsLaws.trans {s t u : State} (a : KeepsLaws s t) (b : KeepsLaws t u) : KeepsLaws s u :=
  ⟨b.bounds ∘ a.bounds, b.tables ∘ a.tables⟩

/-- Two states that agree on everything the laws read. -/
theorem KeepsLaws.of_same {s t : State} (points : t.points = s.points := by simp)
    (lines : t.lines = s.lines := by simp) (probes : t.tu.probes = s.tu.probes := by simp)
    (lanes : t.ibi.lanes = s.ibi.lanes := by simp) (timers : t.cp.timers = s.cp.timers := by simp)
    (su : t.su = s.su := by simp) : KeepsLaws s t where
  bounds law := by
    have point := point_of_points points
    have line := line_of_lines lines
    have probe : ∀ l, t.probe l = s.probe l := fun l => by simp [State.probe, probes]
    have lane : ∀ n, t.lane n = s.lane n := fun n => by simp [State.lane, lanes]
    refine ⟨fun p => ?_, fun n => ?_, ?_, fun l => ?_⟩
    · rw [point]; exact law.points p
    · rw [lane]; exact law.lanes n
    · rw [timers]; exact law.timers
    · rw [probe, line]; exact law.probes l
  tables law := su ▸ law

theorem keepsLaws_foldl {α : Type} {f : State → α → State} (each : ∀ s x, KeepsLaws s (f s x)) (xs : List α)
    (s : State) : KeepsLaws s (xs.foldl f s) :=
  foldl_keeps (P := KeepsLaws s) (fun t x h => h.trans (each t x)) xs s (.refl s)

theorem keepsLaws_if {c : Prop} [Decidable c] {s t u : State} (yes : KeepsLaws s t) (no : KeepsLaws s u) :
    KeepsLaws s (if c then t else u) := by
  split
  · exact yes
  · exact no

/-! ### Single updates -/

theorem keepsLaws_setPoint {s : State} {p : Fin 32} {x : Point}
    (kept : SettleInRange s.cp.timers → (s.point p).Bounded → x.Bounded) : KeepsLaws s (s.setPoint p x) where
  bounds law := by
    refine ⟨fun q => ?_, law.lanes, law.timers, law.probes⟩
    rw [setPoint_point]
    split
    · exact kept law.timers (law.points p)
    · exact law.points q
  tables := id

theorem keepsLaws_setLane {s : State} {n : Fin 8} {x : Lane} (kept : (s.lane n).Bounded → x.Bounded) :
    KeepsLaws s (s.setLane n x) where
  bounds law := by
    refine ⟨law.points, fun m => ?_, law.timers, law.probes⟩
    rw [setLane_lane]
    split
    · exact kept (law.lanes n)
    · exact law.lanes m
  tables := id

/-- An update of a line and its probe together. -/
theorem keepsLaws_reline {s t : State} (l : Fin 4) (points : t.points = s.points) (lanes : t.ibi.lanes = s.ibi.lanes)
    (timers : t.cp.timers = s.cp.timers) (su : t.su = s.su)
    (others : ∀ k, k ≠ l → t.line k = s.line k ∧ t.probe k = s.probe k)
    (kept : ProbeFits (s.probe l) (s.line l) → ProbeFits (t.probe l) (t.line l)) : KeepsLaws s t where
  bounds law := by
    have point := point_of_points points
    have lane : ∀ n, t.lane n = s.lane n := fun n => by simp [State.lane, lanes]
    refine ⟨fun p => point p ▸ law.points p, fun n => lane n ▸ law.lanes n, timers ▸ law.timers, fun k => ?_⟩
    by_cases e : k = l
    · rw [e]; exact kept (law.probes l)
    · obtain ⟨line, probe⟩ := others k e
      rw [line, probe]; exact law.probes k
  tables law := su ▸ law

theorem keepsLaws_setProbe {s : State} {l : Fin 4} {x : Probe}
    (kept : ProbeFits (s.probe l) (s.line l) → ProbeFits x (s.line l)) : KeepsLaws s (s.setProbe l x) :=
  keepsLaws_reline l rfl rfl rfl rfl (fun k ne => ⟨rfl, by simp [ne]⟩) (by simpa using kept)

theorem ProbeFits.of_config {x : Probe} {y y' : Line} (h : ProbeFits x y) (config : y'.config = y.config) :
    ProbeFits x y' := by
  have same : y'.hasProbe = y.hasProbe := by simp [Line.hasProbe, config]
  exact ⟨h.1, same ▸ h.2⟩

/-- An update of a line that leaves its configuration. -/
theorem keepsLaws_setLine {s : State} {l : Fin 4} {x : Line} (config : x.config = (s.line l).config) :
    KeepsLaws s (s.setLine l x) :=
  keepsLaws_reline l rfl rfl rfl rfl (fun k ne => ⟨by simp [ne], rfl⟩) fun h => by
    simpa using h.of_config config

theorem keepsLaws_modSu {s : State} {f : ScreeningUnit → ScreeningUnit} (kept : s.su.Lawful → (f s.su).Lawful) :
    KeepsLaws s (s.modSu f) where
  bounds law := ⟨law.points, law.lanes, law.timers, law.probes⟩
  tables := kept

theorem keepsLaws_modGm (s : State) (f : GrantManager → GrantManager) : KeepsLaws s (s.modGm f) :=
  .of_same

theorem keepsLaws_setSlot (s : State) (i : Fin 24) (x : Option Grant) : KeepsLaws s (s.setSlot i x) :=
  .of_same

theorem keepsLaws_modGrant (s : State) (i : Fin 24) (f : Grant → Grant) : KeepsLaws s (s.modGrant i f) :=
  .of_same

theorem keepsLaws_modCp {s : State} {f : ControllerPort → ControllerPort} (timers : (f s.cp).timers = s.cp.timers) :
    KeepsLaws s (s.modCp f) :=
  .of_same (timers := timers)

theorem keepsLaws_modIbi {s : State} {f : IslandBus → IslandBus} (lanes : (f s.ibi).lanes = s.ibi.lanes) :
    KeepsLaws s (s.modIbi f) :=
  .of_same (lanes := lanes)

theorem keepsLaws_modTu {s : State} {f : TemperatureUnit → TemperatureUnit} (probes : (f s.tu).probes = s.tu.probes) :
    KeepsLaws s (s.modTu f) :=
  .of_same (probes := probes)

end Sys2Proof.Machine
end

section
/-! PROOFS. The bounds and the table law under the orders of the Point Interface, Line Control and the pulsers. -/

namespace Sys2Proof.Machine

/-! ### Points whose bounded fields stay or are replaced -/

/-- The fields that the bounds read, but for the settle window and the creep count, and the configuration are kept. -/
structure Point.SameCounters (x y : Point) : Prop where
  config : y.config = x.config := by rfl
  forward : y.forward = x.forward := by rfl
  reverse : y.reverse = x.reverse := by rfl
  errors : y.errors = x.errors := by rfl
  latchForward : y.latchForward = x.latchForward := by rfl
  latchReverse : y.latchReverse = x.latchReverse := by rfl
  latchErrors : y.latchErrors = x.latchErrors := by rfl

theorem Point.Bounded.of_sameCounters {x y : Point} (h : x.Bounded) (same : x.SameCounters y)
    (window : y.settleLeft ≤ 30) (creep : y.creep ≤ x.creep) : y.Bounded := by
  obtain ⟨forward, reverse, errors, latchForward, latchReverse, latchErrors, _, allowance⟩ := h
  refine ⟨same.forward ▸ forward, same.reverse ▸ reverse, same.errors ▸ errors, same.latchForward ▸ latchForward,
    same.latchReverse ▸ latchReverse, same.latchErrors ▸ latchErrors, window, fun c config => ?_⟩
  exact creep.trans (allowance c (same.config ▸ config))

theorem Point.Bounded.settleLeft {x : Point} (h : x.Bounded) : x.settleLeft ≤ 30 := by
  obtain ⟨_, _, _, _, _, _, window, _⟩ := h
  exact window

/-- An update of a point that leaves its counters and puts its window and its creep count no higher. -/
theorem keepsLaws_setPoint_lower {s : State} {p : Fin 32} {x : Point}
    (window : x.settleLeft ≤ (s.point p).settleLeft) (creep : x.creep ≤ (s.point p).creep)
    (same : (s.point p).SameCounters x := by exact {}) :
    KeepsLaws s (s.setPoint p x) :=
  keepsLaws_setPoint fun _ h => h.of_sameCounters same (window.trans h.settleLeft) creep

/-- An update of a point in fields that the bounds do not read. -/
theorem keepsLaws_setPoint_same {s : State} {p : Fin 32} {x : Point}
    (window : x.settleLeft = (s.point p).settleLeft := by rfl) (creep : x.creep = (s.point p).creep := by rfl)
    (same : (s.point p).SameCounters x := by exact {}) :
    KeepsLaws s (s.setPoint p x) :=
  keepsLaws_setPoint_lower window.le creep.le same

theorem Point.Bounded.settlingFrom {x : Point} {n : Nat} (h : x.Bounded) (le : n ≤ 30) : (x.settlingFrom n).Bounded :=
  h.of_sameCounters {} le (Nat.le_refl x.creep)

theorem sameCounters_opened (x : Point) (residual : Int) (margin full slow code : Nat) :
    x.SameCounters (x.opened residual margin full slow code) := by
  unfold Point.opened
  split <;> exact {}

theorem Point.Bounded.opened {x : Point} (h : x.Bounded) (residual : Int) (margin full slow code : Nat) :
    (x.opened residual margin full slow code).Bounded := by
  refine h.of_sameCounters (sameCounters_opened ..) ?_ ?_
  · unfold Point.opened
    split <;> exact h.settleLeft
  · unfold Point.opened
    split <;> exact Nat.zero_le _

theorem Point.Bounded.latched {x : Point} (h : x.Bounded) : x.latched.Bounded := by
  obtain ⟨forward, reverse, errors, _, _, _, window, creep⟩ := h
  exact ⟨Nat.zero_le _, Nat.zero_le _, Nat.zero_le _, forward, reverse, errors, window, creep⟩

theorem countUp_le (n : Nat) : countUp n ≤ 4095 := Nat.min_le_right ..

theorem Point.Bounded.stepped {x : Point} (h : x.Bounded) (phase : Fin 4) : (x.stepped phase).Bounded := by
  have kept := h
  obtain ⟨forward, reverse, errors, latchForward, latchReverse, latchErrors, window, creep⟩ := h
  unfold Point.stepped
  split
  · exact kept
  split
  · exact ⟨countUp_le _, reverse, errors, latchForward, latchReverse, latchErrors, window, creep⟩
  split
  · exact ⟨forward, countUp_le _, errors, latchForward, latchReverse, latchErrors, window, creep⟩
  · exact ⟨forward, reverse, countUp_le _, latchForward, latchReverse, latchErrors, window, creep⟩

theorem Point.Bounded.configured {x : Point} (h : x.Bounded) (c : PointConfig) (level : Bool) (phase : Fin 4) :
    (x.configured c level phase).Bounded := by
  have zero := Nat.zero_le 4095
  unfold Point.configured
  split <;> exact ⟨zero, zero, zero, zero, zero, zero, h.settleLeft, fun _ _ => Nat.zero_le _⟩

theorem Point.Bounded.disabledBy {x : Point} (h : x.Bounded) (phase : Fin 4) : (x.disabledBy phase).Bounded := by
  have zero := Nat.zero_le 4095
  exact ⟨zero, zero, zero, zero, zero, zero, h.settleLeft, fun _ none => absurd none (by simp [Point.disabledBy])⟩

/-! ### Pumps -/

theorem keepsLaws_withdrawPump (p : Fin 32) (l : Fin 4) (s : State) : KeepsLaws s (withdrawPump p l s) := by
  unfold withdrawPump
  exact keepsLaws_if (keepsLaws_setLine (withoutRequest_config ..)) (.refl s)

theorem keepsLaws_withdrawOwn (p : Fin 32) (s : State) : KeepsLaws s (withdrawOwn p s) := by
  unfold withdrawOwn
  split
  · exact keepsLaws_withdrawPump ..
  · exact .refl s

theorem keepsLaws_requestPump (p : Fin 32) (l : Fin 4) (s : State) : KeepsLaws s (requestPump p l s).1 := by
  unfold requestPump
  split
  · exact .refl s
  · exact keepsLaws_setLine (withRequest_config ..)

theorem keepsLaws_forcedStop (l : Fin 4) (s : State) : KeepsLaws s (forcedStop l s) := keepsLaws_setLine rfl

theorem keepsLaws_runOnExpiry (l : Fin 4) (s : State) : KeepsLaws s (runOnExpiry l s) :=
  keepsLaws_if (keepsLaws_setLine rfl) (.refl s)

theorem keepsLaws_doPriceSet (line price : Nat) (s : State) : KeepsLaws s (doPriceSet line price s).1 := by
  unfold doPriceSet
  split
  · exact .refl s
  split
  · exact keepsLaws_setLine rfl
  · exact .refl s

theorem keepsLaws_doLineRestore (line : Nat) (s : State) : KeepsLaws s (doLineRestore line s).1 := by
  unfold doLineRestore
  split
  · exact .refl s
  split
  · exact keepsLaws_setLine rfl
  · exact .refl s

/-! ### Close and slow orders -/

theorem keepsLaws_closeValve (p : Fin 32) (s : State) : KeepsLaws s (closeValve p s) :=
  (keepsLaws_setPoint fun timers h => h.settlingFrom timers.2).trans (keepsLaws_withdrawOwn p _)

theorem keepsLaws_closeOrder (p : Fin 32) (s : State) : KeepsLaws s (closeOrder p s) :=
  keepsLaws_if (keepsLaws_closeValve p s) (.refl s)

theorem keepsLaws_closeOrders (ps : List (Fin 32)) (s : State) : KeepsLaws s (closeOrders ps s) :=
  keepsLaws_foldl (fun s p => keepsLaws_closeOrder p s) ps s

theorem keepsLaws_slowOrder (p : Fin 32) (s : State) : KeepsLaws s (slowOrder p s) := by
  unfold slowOrder
  split
  · exact keepsLaws_setPoint_same
  · exact .refl s

theorem keepsLaws_slowOrders (ps : List (Fin 32)) (s : State) : KeepsLaws s (slowOrders ps s) :=
  keepsLaws_foldl (fun s p => keepsLaws_slowOrder p s) ps s

/-! ### Priming, opening and attachment -/

theorem keepsLaws_pumpReady (p : Fin 32) (s : State) : KeepsLaws s (pumpReady p s) := by
  unfold pumpReady
  split
  · exact (keepsLaws_setPoint fun _ h => h.opened ..).trans (keepsLaws_modGrant ..)
  · exact .refl s

theorem keepsLaws_enterPriming (p : Fin 32) (s : State) : KeepsLaws s (enterPriming p s) := by
  unfold enterPriming
  split
  · next c config =>
    have primed : KeepsLaws s (s.setPoint p { s.point p with state := .priming }) := keepsLaws_setPoint_same
    have requested := primed.trans (keepsLaws_requestPump p c.line _)
    exact keepsLaws_if (requested.trans (keepsLaws_pumpReady ..)) requested
  · exact .refl s

theorem keepsLaws_detach (p : Fin 32) (s : State) : KeepsLaws s (detach p s) :=
  keepsLaws_setPoint_same

theorem keepsLaws_detachAll (ps : List (Fin 32)) (s : State) : KeepsLaws s (detachAll ps s) :=
  keepsLaws_foldl (fun s p => keepsLaws_detach p s) ps s

theorem keepsLaws_attachAll (tag : Nat) (ps : List (Fin 32)) (s : State) : KeepsLaws s (attachAll tag ps s) :=
  keepsLaws_foldl (f := fun s p => s.setPoint p { s.point p with tag := some tag })
    (fun _ _ => keepsLaws_setPoint_same) ps s

theorem keepsLaws_startExpiry (l : Fin 4) (s : State) : KeepsLaws s (startExpiry l s) := by
  unfold startExpiry
  refine keepsLaws_if (.trans ?_ (keepsLaws_foldl (fun s p => keepsLaws_pumpReady p s) _ _)) (.refl s)
  exact keepsLaws_setLine rfl

/-! ### POINT_SET, POINT_ENABLE and the pulser -/

theorem keepsLaws_doPointSet (point : Nat) (arg : PointArg) (s : State) : KeepsLaws s (doPointSet point arg s).1 := by
  unfold doPointSet
  split
  · exact .refl s
  · exact .refl s
  · split
    · exact keepsLaws_setPoint fun _ h => h.disabledBy _
    · exact .refl s
  · split
    · exact .refl s
    split
    · exact keepsLaws_setPoint fun _ h => h.configured ..
    · exact .refl s

theorem keepsLaws_doPointEnable (point : Nat) (s : State) : KeepsLaws s (doPointEnable point s).1 := by
  unfold doPointEnable
  split
  · exact .refl s
  split
  · exact .refl s
  split
  · exact .refl s
  split
  · exact .refl s
  · exact keepsLaws_setPoint_lower (Nat.le_refl _) (Nat.zero_le _)

theorem keepsLaws_pulserStep (p : Fin 32) (phase : Fin 4) (s : State) : KeepsLaws s (pulserStep p phase s) := by
  unfold pulserStep
  split
  · exact .of_same
  · exact (keepsLaws_setPoint (p := p) fun _ h => h.stepped phase).trans .of_same

theorem keepsLaws_dutyTakesForce (p : Fin 32) (s : State) : KeepsLaws s (dutyTakesForce p s) :=
  keepsLaws_setPoint_same

end Sys2Proof.Machine
end

section
/-! PROOFS. The bounds and the table law under the rows of the island bus and of the controller port's selections. -/

namespace Sys2Proof.Machine

/-! ### Notices and replies -/

theorem keepsLaws_queueNotice (n : Fin 8) (x : Notice) (s : State) : KeepsLaws s (queueNotice n x s) := by
  unfold queueNotice
  split
  · next room =>
    refine keepsLaws_setLane fun h => ⟨?_, h.2⟩
    simp only [List.length_append, List.length_singleton]
    omega
  · refine .trans (keepsLaws_setLane (n := n) fun h => ⟨?_, Nat.zero_le _⟩) (keepsLaws_modIbi rfl)
    have most := h.1
    simp only [List.length_append, List.length_singleton, List.length_drop]
    omega

theorem keepsLaws_placeSiteNotice (s : State) : KeepsLaws s (placeSiteNotice s) := keepsLaws_modIbi rfl

theorem keepsLaws_sendReply (n : Fin 8) (k : Nat) (s : State) : KeepsLaws s (sendReply n k s) := by
  unfold sendReply
  split
  · refine .trans ?_ (keepsLaws_modIbi rfl)
    exact keepsLaws_if (keepsLaws_setLane fun h => h) (.refl s)
  · exact keepsLaws_modIbi rfl

theorem keepsLaws_placeReply (n : Fin 8) (r : Reply) (s : State) : KeepsLaws s (placeReply n r s) := by
  have placed : KeepsLaws s (s.setLane n { s.lane n with reply := some r }) := keepsLaws_setLane fun h => h
  unfold placeReply
  dsimp only
  split
  · exact keepsLaws_if (placed.trans (keepsLaws_sendReply ..)) placed
  · exact placed

theorem Lane.bounded_atReset : Lane.atReset.Bounded := by simp [Lane.Bounded, Lane.atReset]

theorem keepsLaws_flushLane (n : Fin 8) (s : State) : KeepsLaws s (flushLane n s) :=
  (keepsLaws_setLane (n := n) fun _ => Lane.bounded_atReset).trans (keepsLaws_modIbi rfl)

theorem keepsLaws_goOnWith (rest : List InProcess) (s : State) : KeepsLaws s (goOnWith rest s) := by
  induction rest generalizing s with
  | nil => exact keepsLaws_modIbi rfl
  | cons e rest ih =>
    exact keepsLaws_if ((keepsLaws_if (.refl s) (keepsLaws_placeReply ..)).trans (ih _)) (keepsLaws_modIbi rfl)

theorem keepsLaws_takeOldest (s : State) : KeepsLaws s (takeOldest s) := keepsLaws_goOnWith ..

/-- A message's row keeps the laws where its block's effect does. -/
theorem keepsLaws_answerMessage (lane : Fin 8) (m : LaneMessage) {act : State → State × Reply}
    (keeps : ∀ s, KeepsLaws s (act s).1) (s : State) : KeepsLaws s (answerMessage lane m act s) := by
  have oldest := (keepsLaws_takeOldest s).trans (keeps _)
  unfold answerMessage
  split
  · exact oldest.trans (keepsLaws_placeReply ..)
  · exact oldest
  · exact ((keepsLaws_flushLane lane s).trans (keeps _)).trans (keepsLaws_placeReply ..)
  · exact .refl s

/-! ### The bus monitor and a terminal's write and read -/

theorem keepsLaws_breakOff (s : State) : KeepsLaws s (breakOff s) := by
  unfold breakOff
  split
  · exact .of_same
  · exact .refl s

theorem started_lanes (x : IslandBus) : x.started.lanes = x.lanes := by
  unfold IslandBus.started
  split <;> rfl

theorem addressed_lanes (x : IslandBus) (b : Byte) : (x.addressed b).lanes = x.lanes := by
  unfold IslandBus.addressed
  split <;> rfl

theorem ended_lanes (x : IslandBus) (ending : WriteEnd) : (x.ended ending).lanes = x.lanes := by
  cases ending with
  | repeatedStart => exact started_lanes x
  | stop => rfl

theorem keepsLaws_addressByte (b : Byte) (s : State) : KeepsLaws s (addressByte b s) := by
  unfold addressByte
  split
  · exact keepsLaws_modIbi (addressed_lanes ..)
  · exact .refl s

theorem keepsLaws_busStuck (s : State) : KeepsLaws s (busStuck s) := by
  unfold busStuck
  exact keepsLaws_if ((keepsLaws_breakOff s).trans .of_same) (.refl s)

theorem keepsLaws_handOn (lane : Fin 8) (m : LaneMessage) (s : State) : KeepsLaws s (handOn lane m s) :=
  keepsLaws_modIbi rfl

theorem keepsLaws_answerFormat (lane : Fin 8) (s : State) : KeepsLaws s (answerFormat lane s) :=
  keepsLaws_if (keepsLaws_placeReply ..) (keepsLaws_handOn ..)

theorem keepsLaws_sortMessage (lane : Fin 8) (message : List Byte) (s : State) :
    KeepsLaws s (sortMessage lane message s) := by
  have format := keepsLaws_answerFormat lane s
  unfold sortMessage
  split
  · split
    · refine keepsLaws_if (keepsLaws_handOn ..) (keepsLaws_if ?_ format)
      split
      · exact keepsLaws_if (keepsLaws_handOn ..) format
      · exact format
    · exact format
  · exact format

theorem keepsLaws_takeMessage (lane : Fin 8) (s : State) : KeepsLaws s (takeMessage lane s) := by
  unfold takeMessage
  split
  · exact .refl s
  · exact ((keepsLaws_modIbi rfl).trans (keepsLaws_flushLane lane _)).trans (keepsLaws_sortMessage ..)

theorem keepsLaws_writePhaseEnd (bytes : List Byte) (ending : WriteEnd) (s : State) :
    KeepsLaws s (writePhaseEnd bytes ending s) := by
  unfold writePhaseEnd
  split
  · exact ((keepsLaws_modIbi rfl).trans (keepsLaws_takeMessage ..)).trans (keepsLaws_modIbi (ended_lanes ..))
  · exact .refl s

theorem keepsLaws_replyRead (n : Nat) (s : State) : KeepsLaws s (replyRead n s) := by
  unfold replyRead
  split
  · exact keepsLaws_if (keepsLaws_modIbi rfl) (keepsLaws_sendReply ..)
  · exact .refl s

/-! ### The part as master -/

theorem keepsLaws_startTransfer (s : State) : KeepsLaws s (startTransfer s) := by
  unfold startTransfer
  split
  · split
    · exact keepsLaws_modIbi rfl
    · exact keepsLaws_modIbi rfl
    · exact .refl s
  · exact .refl s

theorem Lane.Bounded.delivered {x : Lane} (h : x.Bounded) : x.delivered.Bounded := by
  have most := h.1
  refine ⟨?_, Nat.zero_le _⟩
  simp only [Lane.delivered, List.length_drop]
  omega

theorem Lane.Bounded.refused {x : Lane} (h : x.Bounded) : x.refused.Bounded := by
  have most := h.1
  unfold Lane.refused
  split
  · next again => exact ⟨most, Nat.lt_succ_iff.mp again⟩
  · refine ⟨?_, Nat.zero_le _⟩
    simp only [List.length_drop]
    omega

theorem keepsLaws_laneTransferEnd (nak : Option Nat) (s : State) : KeepsLaws s (laneTransferEnd nak s) := by
  unfold laneTransferEnd
  split
  · next n current _ =>
    have free : KeepsLaws s (s.modIbi fun b => { (b.cut (sentBytes b.outgoing nak)).stoppedAt with lastServed := n }) :=
      keepsLaws_modIbi (cut_lanes ..)
    have lane : ∀ {x : Lane}, ((s.lane n).Bounded → x.Bounded) → KeepsLaws s
        ((s.modIbi fun b => { (b.cut (sentBytes b.outgoing nak)).stoppedAt with lastServed := n }).setLane n x) :=
      fun kept => free.trans (keepsLaws_setLane (by rw [modIbi_lane _ _ (cut_lanes ..)]; exact kept))
    have refused := lane fun h => h.refused
    exact keepsLaws_if free (keepsLaws_if (lane fun h => h.delivered) (keepsLaws_if refused (refused.trans .of_same)))
  · exact .refl s

theorem keepsLaws_generalTransferEnd (s : State) : KeepsLaws s (generalTransferEnd s) := by
  unfold generalTransferEnd
  split
  · exact keepsLaws_modIbi (cut_lanes ..)
  · exact .refl s

theorem keepsLaws_arbitrationLoss (loss : ArbitrationLoss) (s : State) : KeepsLaws s (arbitrationLoss loss s) := by
  unfold arbitrationLoss
  split
  · cases loss with
    | address winner => exact keepsLaws_modIbi ((addressed_lanes ..).trans (cut_lanes ..))
    | data complete => exact keepsLaws_modIbi (cut_lanes ..)
  · exact .refl s

theorem keepsLaws_retryWaitEnd (n : Fin 8) (s : State) : KeepsLaws s (retryWaitEnd n s) := keepsLaws_setLane fun h => h

/-! ### The selections of the controller port -/

theorem keepsLaws_giveAnswer (r : Response) (s : State) : KeepsLaws s (s.giveAnswer r) :=
  keepsLaws_modCp (f := fun c => { c with state := .processing, held := none, answer := some r }) rfl

theorem keepsLaws_placeResponse (r : Response) (s : State) : KeepsLaws s (placeResponse r s) := keepsLaws_modCp rfl

theorem keepsLaws_passOn (kept : List Byte) (s : State) : KeepsLaws s (passOn kept s) := by
  unfold passOn
  split
  · exact keepsLaws_modCp rfl
  · exact keepsLaws_giveAnswer ..
  · exact keepsLaws_giveAnswer ..

theorem keepsLaws_takeFrame (count : Nat) (s : State) : KeepsLaws s (takeFrame count s) := by
  have emptied : KeepsLaws s (s.modCp fun c => { c with received := [] }) := keepsLaws_modCp rfl
  unfold takeFrame
  refine keepsLaws_if (emptied.trans (keepsLaws_modCp rfl)) ?_
  split
  · exact emptied.trans (keepsLaws_placeResponse ..)
  · exact emptied.trans (keepsLaws_passOn ..)

theorem fetched_timers (c : ControllerPort) (status : Byte) (n : Nat) : (c.fetched status n).timers = c.timers := by
  unfold ControllerPort.fetched
  dsimp only
  split <;> rfl

theorem keepsLaws_selection (status : Byte) (bytes : List Byte) (s : State) :
    KeepsLaws s (selection status bytes s) := by
  unfold selection
  split
  · exact .refl s
  · refine keepsLaws_if (keepsLaws_modCp (fetched_timers ..)) (keepsLaws_if (keepsLaws_modCp rfl) ?_)
    exact .trans (t := gather status _ s) (keepsLaws_modCp rfl) (keepsLaws_takeFrame ..)

theorem keepsLaws_endSelection {act : Byte → State → State} (keeps : ∀ b s, KeepsLaws s (act b s)) (s : State) :
    KeepsLaws s (endSelection act s) := by
  have high : KeepsLaws s (s.modCp fun c => { c with selection := .released }) := keepsLaws_modCp rfl
  unfold endSelection
  dsimp only
  split
  · exact high
  · exact high.trans (keeps ..)
  · exact high.trans (keeps ..)

theorem keepsLaws_scsFalls (s : State) : KeepsLaws s (scsFalls s) := by
  unfold scsFalls
  split
  · exact .refl s
  · exact keepsLaws_modCp rfl
  · exact keepsLaws_modCp rfl

theorem keepsLaws_scsEdge (edge : ScsEdge) (s : State) : KeepsLaws s (scsEdge edge s) := by
  cases edge with
  | fall => exact keepsLaws_scsFalls s
  | rise bytes => exact keepsLaws_endSelection (fun b t => keepsLaws_selection b bytes t) s

theorem keepsLaws_fetchSelection (n : Nat) (s : State) : KeepsLaws s (fetchSelection n s) :=
  keepsLaws_endSelection (fun _ _ => keepsLaws_modCp (fetched_timers ..)) s

theorem settleInRange_clamp (t : TimerSettings) : SettleInRange { t with settle := clampSettle t.settle } := by
  simp only [SettleInRange, clampSettle]
  omega

theorem keepsLaws_doTimersSet (t : TimerSettings) (s : State) : KeepsLaws s (doTimersSet t s).1 where
  bounds law := ⟨law.points, law.lanes, settleInRange_clamp t, law.probes⟩
  tables := id

end Sys2Proof.Machine
end

section
/-! PROOFS. The Screening Unit's tables (R36 to R44, R53, R54, R58 to R61): where PROGRAM_PUT puts an entry, what the
checks of the commands accept, and that every change of a table keeps its law. -/

namespace Sys2Proof.Machine

/-! ### The program table -/

/-- PROGRAM_PUT's check 1 accepts an entry exactly when its fields lie in their ranges (R37). -/
theorem programOf_eq_some {e : ProgramArg} {p : Program} : programOf e = some p ↔ GoodProgram e p := by
  constructor
  · intro h
    unfold programOf at h
    split at h
    · next dual mode hd hm =>
      split at h
      · next good =>
        obtain rfl := Option.some.inj h
        simp only [perClassValid, inRange, Bool.and_eq_true, decide_eq_true_eq] at good
        obtain ⟨⟨⟨⟨⟨id, high⟩, range⟩, ceilings⟩, limits⟩, count⟩ := good
        refine ⟨Nat.lt_succ_iff.mp id, range, high, count.1, count.2, ?_, hd, hm, rfl⟩
        simp only [List.forall_mem_cons, List.not_mem_nil, false_implies, implies_true, and_true]
        omega
      · exact absurd h (by simp)
    · exact absurd h (by simp)
  · rintro ⟨id, range, high, least, most, classes, dual, mode, made⟩
    simp only [List.forall_mem_cons] at classes
    have valid : (e.id < 32 && e.high ≤ 99999999 && e.low ≤ e.high && perClassValid e.ceilings
        && perClassValid e.limits && inRange 1 15 e.countLimit) = true := by
      simp only [perClassValid, inRange, Bool.and_eq_true, decide_eq_true_eq]
      omega
    simp only [programOf, dual, mode, valid, if_true]
    rw [← made]

theorem programOf_eq_none {e : ProgramArg} : programOf e = none ↔ ∀ p, ¬ GoodProgram e p := by
  simp only [Option.eq_none_iff_forall_ne_some, ne_eq, programOf_eq_some]

theorem GoodProgram.lawful {e : ProgramArg} {p : Program} (good : GoodProgram e p) :
    p.low ≤ p.high ∧ p.countLimit ≤ 15 := by
  obtain ⟨_, range, _, _, count, _, _, _, made⟩ := good
  rw [made]
  exact ⟨range, count⟩

/-- In a table in ascending order the new entry stands behind the entries that do not begin above it. -/
theorem insertProgram_split (p : Program) {programs : List Program} (ascending : programs.Pairwise (·.low < ·.low)) :
    ∃ before after, programs = before ++ after ∧ insertProgram p programs = before ++ p :: after
      ∧ (∀ q ∈ before, q.low ≤ p.low) ∧ ∀ q ∈ after, p.low < q.low := by
  induction programs with
  | nil => exact ⟨[], [], rfl, rfl, by simp, by simp⟩
  | cons q rest ih =>
    obtain ⟨first, others⟩ := List.pairwise_cons.mp ascending
    by_cases lower : p.low < q.low
    · refine ⟨[], q :: rest, rfl, by simp [insertProgram, lower], by simp, ?_⟩
      exact List.forall_mem_cons.mpr ⟨lower, fun x hx => lower.trans (first x hx)⟩
    · obtain ⟨before, after, split, inserted, below, above⟩ := ih others
      refine ⟨q :: before, after, by simp [split], by simp [insertProgram, lower, inserted], ?_, above⟩
      exact List.forall_mem_cons.mpr ⟨not_lt.mp lower, below⟩

/-- Entries in ascending order whose ranges are disjoint. -/
theorem ascending_of_disjoint {programs : List Program} (disjoint : programs.Pairwise (·.high < ·.low))
    (ranges : ∀ q ∈ programs, q.low ≤ q.high) : programs.Pairwise (·.low < ·.low) :=
  disjoint.imp_of_mem fun ha _ h => (ranges _ ha).trans_lt h

theorem programsLawful_filter {programs : List Program} (law : ProgramsLawful programs) (keep : Program → Bool) :
    ProgramsLawful (programs.filter keep) := by
  obtain ⟨length, ids, disjoint, entries⟩ := law
  exact ⟨(List.length_filter_le ..).trans length, ids.sublist (List.filter_sublist.map _), disjoint.filter _,
    fun p hp => entries p (List.mem_of_mem_filter hp)⟩

/-- The table has room for the entry: it replaces one of its id, or the table is not full (R37's check 3). -/
theorem putProgram_length {p : Program} {programs : List Program} (length : programs.length ≤ 32)
    (room : (∃ q ∈ programs, q.id = p.id) ∨ programs.length < 32) : (putProgram p programs).length ≤ 32 := by
  have put : (putProgram p programs).length = (programs.filter (·.id != p.id)).length + 1 :=
    (insertProgram_perm p _).length_eq
  have kept : (programs.filter (·.id != p.id)).length ≤ programs.length := List.length_filter_le ..
  rcases room with ⟨q, hq, same⟩ | notFull
  · have dropped : (programs.filter (·.id != p.id)).length < programs.length :=
      List.length_filter_lt_length_iff_exists.mpr ⟨q, hq, by simp [same]⟩
    omega
  · omega

/-- An entry that passes the checks of R37 leaves the table lawful. -/
theorem programsLawful_put {p : Program} {programs : List Program} (law : ProgramsLawful programs)
    (range : p.low ≤ p.high) (count : p.countLimit ≤ 15)
    (clear : ∀ q ∈ programs, q.id ≠ p.id → ¬ (p.low ≤ q.high ∧ q.low ≤ p.high))
    (room : (∃ q ∈ programs, q.id = p.id) ∨ programs.length < 32) : ProgramsLawful (putProgram p programs) := by
  obtain ⟨_, ids, disjoint, entries⟩ := programsLawful_filter law (·.id != p.id)
  have perm : (putProgram p programs).Perm (p :: programs.filter (·.id != p.id)) := insertProgram_perm ..
  have apart : ∀ q ∈ programs.filter (·.id != p.id), ¬ (p.low ≤ q.high ∧ q.low ≤ p.high) := fun q hq => by
    obtain ⟨listed, other⟩ := List.mem_filter.mp hq
    exact clear q listed (by simpa using other)
  refine ⟨putProgram_length law.1 room, ?_, ?_, ?_⟩
  · rw [(perm.map _).nodup_iff, List.map_cons, List.nodup_cons]
    exact ⟨by simp [List.mem_filter], ids⟩
  · obtain ⟨before, after, split, inserted, below, above⟩ :=
      insertProgram_split p (ascending_of_disjoint disjoint fun q hq => (entries q hq).1)
    rw [putProgram, inserted, List.pairwise_append, List.pairwise_cons]
    rw [split] at disjoint apart entries
    obtain ⟨first, last, across⟩ := List.pairwise_append.mp disjoint
    have lower : ∀ q ∈ before, q.high < p.low := fun q hq => by
      have gap := apart q (List.mem_append_left _ hq)
      have order := below q hq
      omega
    have upper : ∀ q ∈ after, p.high < q.low := fun q hq => by
      have gap := apart q (List.mem_append_right _ hq)
      have order := above q hq
      have span := (entries q (List.mem_append_right _ hq)).1
      omega
    exact ⟨first, ⟨upper, last⟩, fun q hq => List.forall_mem_cons.mpr ⟨lower q hq, across q hq⟩⟩
  · intro q hq
    rcases List.mem_cons.mp (perm.mem_iff.mp hq) with rfl | old
    · exact ⟨range, count⟩
    · exact entries q old

/-! ### The rows of the program table and the deny set -/

theorem overlaps_iff {p q : Program} : overlaps p q = true ↔ p.low ≤ q.high ∧ q.low ≤ p.high := by simp [overlaps]

theorem keepsLaws_doProgramPut (e : ProgramArg) (s : State) : KeepsLaws s (doProgramPut e s).1 := by
  unfold doProgramPut
  split
  · exact .refl s
  next p made =>
  obtain ⟨range, count⟩ := (programOf_eq_some.mp made).lawful
  split
  · exact .refl s
  next clear =>
  split
  · exact .refl s
  next room =>
  dsimp only
  refine keepsLaws_modSu fun law => ⟨programsLawful_put law.programs range count ?_ ?_, law.denied, law.tally⟩
  · intro q hq other overlap
    exact clear (List.any_eq_true.mpr ⟨q, hq, by simp [other, overlaps_iff.mpr overlap]⟩)
  · by_contra full
    obtain ⟨fresh, longer⟩ := not_or.mp full
    refine room ?_
    simp only [Bool.and_eq_true, Bool.not_eq_true', List.any_eq_false, beq_iff_eq, decide_eq_true_eq]
    exact ⟨fun q hq same => fresh ⟨q, hq, same⟩, not_lt.mp longer⟩

theorem keepsLaws_doProgramDrop (id : Nat) (s : State) : KeepsLaws s (doProgramDrop id s).1 := by
  unfold doProgramDrop
  split
  · exact .refl s
  split
  · dsimp only
    exact keepsLaws_modSu fun law => ⟨programsLawful_filter law.programs _, law.denied, law.tally⟩
  · exact .refl s

theorem keepsLaws_doDenyAdd (pan : Pan) (s : State) : KeepsLaws s (doDenyAdd pan s).1 := by
  unfold doDenyAdd
  split
  · exact .refl s
  split
  · exact .refl s
  next fresh =>
  split
  · exact .refl s
  next room =>
  dsimp only
  refine keepsLaws_modSu fun law => ⟨law.programs, ⟨?_, ?_⟩, law.tally⟩
  · have less : s.su.denied.length < 1024 := not_le.mp room
    simp only [List.length_append, List.length_singleton]
    omega
  · exact law.denied.2.append (List.nodup_singleton _) (by simpa using fresh)

theorem keepsLaws_doDenyDrop (pan : Pan) (s : State) : KeepsLaws s (doDenyDrop pan s).1 := by
  unfold doDenyDrop
  split
  · exact .refl s
  split
  · dsimp only
    exact keepsLaws_modSu fun law => ⟨law.programs, ⟨(List.length_filter_le ..).trans law.denied.1, law.denied.2.filter _⟩, law.tally⟩
  · exact .refl s

theorem keepsLaws_doDenyClear (s : State) : KeepsLaws s (doDenyClear s).1 := by
  dsimp only [doDenyClear]
  exact keepsLaws_modSu fun law => ⟨law.programs, ⟨Nat.zero_le _, List.nodup_nil⟩, law.tally⟩

/-! ### The tally -/

/-- A tally whose entries are those of a lawful one, of the same cards and still within their ranges. -/
theorem ScreeningUnit.TallyLawful.of_entries {u u' : ScreeningUnit} (law : u.TallyLawful)
    (old : ∀ k e', u'.entryAt k = some e' →
      ∃ e, u.entryAt k = some e ∧ e.pan = e'.pan ∧ e'.count ≤ 15 ∧ e'.amount ≤ 99999999) : u'.TallyLawful := by
  refine ⟨fun j k e' f' he' hf' same => ?_, fun k e' he' => ?_⟩
  · obtain ⟨e, he, panE, _⟩ := old j e' he'
    obtain ⟨f, hf, panF, _⟩ := old k f' hf'
    exact law.1 j k e f he hf (panE.trans (same.trans panF.symm))
  · obtain ⟨_, _, _, range⟩ := old k e' he'
    exact range

theorem tallyLawful_setEntry_none {u : ScreeningUnit} (law : u.TallyLawful) (k : Fin 128) :
    (u.setEntry k none).TallyLawful := by
  refine law.of_entries fun j e he => ?_
  rw [setEntry_entryAt] at he
  split at he
  · exact absurd he (by simp)
  · exact ⟨e, he, rfl, law.2 j e he⟩

theorem tallyLawful_addAmount {u : ScreeningUnit} (law : u.TallyLawful) (pan : Pan) (amount : Nat) :
    (u.addAmount pan amount).TallyLawful := by
  refine law.of_entries fun k e' he' => ?_
  rw [addAmount_entryAt] at he'
  split at he'
  · obtain ⟨e, he, rfl⟩ := Option.map_eq_some_iff.mp he'
    exact ⟨e, he, rfl, (law.2 k e he).1, Nat.min_le_right ..⟩
  · exact ⟨e', he', rfl, law.2 k e' he'⟩

/-- The checks approve a card only below its program's count (R53). -/
theorem count_lt_of_approved {timeout : Bool} {pan : Pan} {p : Program} {u : ScreeningUnit}
    (approved : standinChecks timeout pan p u = .approved) :
    ((u.entryOf pan).map (·.count)).getD 0 < p.countLimit := by
  unfold standinChecks at approved
  split at approved
  · exact absurd approved (by simp)
  split at approved
  · exact absurd approved (by simp)
  · next below => exact not_le.mp below

/-- A booking that the checks approved leaves the tally lawful (R53, R54). -/
theorem tallyLawful_book {u : ScreeningUnit} {pan : Pan} {program : Nat} (law : u.TallyLawful)
    (below : ((u.entryOf pan).map (·.count)).getD 0 < 15) : (u.book pan program).TallyLawful := by
  unfold ScreeningUnit.book
  split
  · next k found =>
    refine law.of_entries fun j e' he' => ?_
    rw [setEntry_entryAt] at he'
    split at he'
    · next same =>
      subst same
      obtain ⟨e, he, rfl⟩ := Option.map_eq_some_iff.mp he'
      have entry : u.entryOf pan = some e := by simp [ScreeningUnit.entryOf, found, he]
      rw [entry] at below
      exact ⟨e, he, rfl, below, (law.2 j e he).2⟩
    · exact ⟨e', he', rfl, law.2 j e' he'⟩
  · next unlisted =>
    split
    · next k empty =>
      have others := positionOf_eq_none.mp unlisted
      have made : ∀ {j e}, (u.setEntry k (some { pan := pan, program := program, count := 1, amount := 0 })).entryAt j
          = some e → j = k ∧ e = { pan := pan, program := program, count := 1, amount := 0 } ∨ u.entryAt j = some e :=
        fun {j e} he => by
          rw [setEntry_entryAt] at he
          split at he
          · next same => exact .inl ⟨same, (Option.some.inj he).symm⟩
          · exact .inr he
      refine ⟨fun j m e f he hf same => ?_, fun j e he => ?_⟩
      · rcases made he with ⟨atK, rfl⟩ | oldE <;> rcases made hf with ⟨atK', rfl⟩ | oldF
        · exact atK.trans atK'.symm
        · exact absurd same.symm (others m f oldF)
        · exact absurd same (others j e oldE)
        · exact law.1 j m e f oldE oldF same
      · rcases made he with ⟨_, rfl⟩ | oldE
        · simp
        · exact law.2 j e oldE
    · exact law

theorem lawful_book {u : ScreeningUnit} {timeout : Bool} {pan : Pan} {p : Program} (law : u.Lawful)
    (listed : p ∈ u.programs) (approved : standinChecks timeout pan p u = .approved) : (u.book pan p.id).Lawful := by
  obtain ⟨programs, denied, _, _⟩ := book_frame u pan p.id
  obtain ⟨_, _, _, entries⟩ := law.programs
  exact ⟨programs ▸ law.programs, denied ▸ law.denied,
    tallyLawful_book law.tally ((count_lt_of_approved approved).trans_le (entries p listed).2)⟩

theorem lawful_addAmount {u : ScreeningUnit} (law : u.Lawful) (pan : Pan) (amount : Nat) :
    (u.addAmount pan amount).Lawful := by
  obtain ⟨programs, denied, _, _⟩ := addAmount_frame u pan amount
  exact ⟨programs ▸ law.programs, denied ▸ law.denied, tallyLawful_addAmount law.tally pan amount⟩

theorem keepsLaws_doTallyDrop (pan : Pan) (s : State) : KeepsLaws s (doTallyDrop pan s).1 := by
  unfold doTallyDrop
  split
  · exact .refl s
  split
  · dsimp only
    exact keepsLaws_modSu fun law => ⟨law.programs, law.denied, tallyLawful_setEntry_none law.tally _⟩
  · exact .refl s

/-- An emptied tally holds no entry. -/
theorem emptied_entryAt (u : ScreeningUnit) (k : Fin 128) :
    ScreeningUnit.entryAt { u with tally := Vector.replicate 128 none } k = none := by
  simp only [ScreeningUnit.entryAt, Vector.getElem_replicate]

theorem keepsLaws_doTallyClear (s : State) : KeepsLaws s (doTallyClear s).1 := by
  dsimp only [doTallyClear]
  refine keepsLaws_modSu fun law => ⟨law.programs, law.denied, law.tally.of_entries fun k e he => ?_⟩
  rw [emptied_entryAt] at he
  exact absurd he (by simp)

/-! ### Link state and site date -/

theorem keepsLaws_doLinkSet (link : Option LinkState) (s : State) : KeepsLaws s (doLinkSet link s).1 := by
  unfold doLinkSet
  split
  · exact .refl s
  split
  · exact .refl s
  · refine .trans (keepsLaws_modSu ?_) (keepsLaws_placeSiteNotice _)
    exact fun law => ⟨law.programs, law.denied, law.tally⟩

theorem keepsLaws_doDateSet (date : Option Yymm) (s : State) : KeepsLaws s (doDateSet date s).1 := by
  unfold doDateSet
  split
  · dsimp only
    exact keepsLaws_modSu fun law => ⟨law.programs, law.denied, law.tally⟩
  · exact .refl s

end Sys2Proof.Machine
end

section
/-! PROOFS. The bounds and the table law under the Grant Manager's operations: settlement, closing, holding, arming and
the reports of the Point Interface. -/

namespace Sys2Proof.Machine

/-! ### Settlement and closing -/

theorem keepsLaws_addAmount (pan : Pan) (amount : Nat) (s : State) : KeepsLaws s (s.modSu (·.addAmount pan amount)) :=
  keepsLaws_modSu fun law => lawful_addAmount law pan amount

theorem keepsLaws_handAmount (g : Grant) (s : State) : KeepsLaws s (handAmount g s) := by
  unfold handAmount
  split
  · exact keepsLaws_addAmount ..
  · exact keepsLaws_addAmount ..
  · exact .refl s

theorem keepsLaws_settleCore (i : Fin 24) (s : State) : KeepsLaws s (settleCore i s) := by
  unfold settleCore
  split
  · refine keepsLaws_if (.refl s) (.trans (.trans (.trans ?_ (keepsLaws_detachAll ..)) (keepsLaws_queueNotice ..))
      (keepsLaws_handAmount ..))
    exact .of_same
  · exact .refl s

theorem keepsLaws_haltTest (s : State) : KeepsLaws s (haltTest s) := .of_same

theorem keepsLaws_settle (i : Fin 24) (s : State) : KeepsLaws s (settle i s) :=
  (keepsLaws_settleCore i s).trans (keepsLaws_haltTest _)

theorem keepsLaws_completionTest (i : Fin 24) (s : State) : KeepsLaws s (completionTest i s) :=
  keepsLaws_if (keepsLaws_settle i s) (.refl s)

theorem keepsLaws_enterClosingCore (i : Fin 24) (r : EndReason) (s : State) : KeepsLaws s (enterClosingCore i r s) := by
  unfold enterClosingCore
  split
  · exact (keepsLaws_setSlot ..).trans (keepsLaws_closeOrders ..)
  · exact .refl s

theorem keepsLaws_enterClosing (i : Fin 24) (r : EndReason) (s : State) : KeepsLaws s (enterClosing i r s) :=
  (keepsLaws_enterClosingCore i r s).trans (keepsLaws_completionTest i _)

theorem keepsLaws_endNow (i : Fin 24) (r : EndReason) (s : State) : KeepsLaws s (endNow i r s) :=
  (keepsLaws_modGrant ..).trans (keepsLaws_settle ..)

theorem keepsLaws_enterHeld (i : Fin 24) (s : State) : KeepsLaws s (enterHeld i s) := by
  unfold enterHeld
  split
  · exact (keepsLaws_setSlot ..).trans (keepsLaws_closeOrders ..)
  · exact .refl s

/-! ### Timers and reports -/

theorem keepsLaws_startWaitTimer (i : Fin 24) (s : State) : KeepsLaws s (startWaitTimer i s) := .of_same

theorem keepsLaws_removePoint (i : Fin 24) (p : Fin 32) (s : State) : KeepsLaws s (removePoint i p s) := by
  unfold removePoint
  split
  · next g hg =>
    have removed : KeepsLaws s (s.setSlot i (some { g with attached := g.attached.filter (· != p) })) :=
      keepsLaws_setSlot ..
    dsimp only
    split
    · exact keepsLaws_if removed (removed.trans (keepsLaws_startWaitTimer ..))
    · exact removed.trans (keepsLaws_completionTest ..)
    all_goals exact removed
  · exact .refl s

theorem keepsLaws_liftReport (i : Fin 24) (p : Fin 32) (conditions : Bool) (s : State) :
    KeepsLaws s (liftReport i p conditions s) := by
  unfold liftReport
  split
  · split
    · exact keepsLaws_if ((keepsLaws_setSlot ..).trans (keepsLaws_enterPriming ..)) (.refl s)
    · exact keepsLaws_if ((keepsLaws_setSlot ..).trans (keepsLaws_enterPriming ..)) (keepsLaws_setSlot ..)
    all_goals exact .refl s
  · exact .refl s

theorem keepsLaws_reportLift (p : Fin 32) (conditions : Bool) (s : State) : KeepsLaws s (reportLift p conditions s) := by
  unfold reportLift
  split
  · exact keepsLaws_liftReport ..
  · exact .refl s

theorem keepsLaws_reportHangUp (p : Fin 32) (s : State) : KeepsLaws s (reportHangUp p s) := by
  unfold reportHangUp
  split
  · exact keepsLaws_startWaitTimer ..
  · exact .refl s

theorem keepsLaws_reportExit (p : Fin 32) (s : State) : KeepsLaws s (reportExit p s) := by
  unfold reportExit
  split
  · exact keepsLaws_completionTest ..
  · exact .refl s

theorem keepsLaws_exhaustionReport (i : Fin 24) (s : State) : KeepsLaws s (exhaustionReport i s) := by
  unfold exhaustionReport
  split
  · exact keepsLaws_if (keepsLaws_enterClosing ..) (.refl s)
  · exact .refl s

/-! ### Arming and creation -/

theorem keepsLaws_leavePending (i : Fin 24) (s : State) : KeepsLaws s (leavePending i s) := .of_same

theorem keepsLaws_armingEnd (i : Fin 24) (s : State) : KeepsLaws s (armingEnd i s) := by
  unfold armingEnd
  split
  · refine keepsLaws_if (keepsLaws_endNow ..) (keepsLaws_if (keepsLaws_endNow ..) ?_)
    exact keepsLaws_if (keepsLaws_setSlot ..) ((keepsLaws_setSlot ..).trans (keepsLaws_queueNotice ..))
  · exact .refl s

theorem keepsLaws_arm (i : Fin 24) (s : State) : KeepsLaws s (arm i s) := by
  unfold arm
  split
  · exact ((keepsLaws_setSlot ..).trans (keepsLaws_attachAll ..)).trans (keepsLaws_armingEnd ..)
  · exact .refl s

theorem keepsLaws_createIn (i : Fin 24) (g : Grant) (s : State) : KeepsLaws s (createIn i g s) :=
  (keepsLaws_setSlot ..).trans (keepsLaws_modGm ..)

/-! ### The nozzles -/

theorem keepsLaws_setNozzlePin (p : Fin 32) (level : Bool) (s : State) : KeepsLaws s (setNozzlePin p level s) :=
  .of_same rfl rfl rfl rfl rfl rfl

theorem keepsLaws_setNozzle (p : Fin 32) (level : Bool) (s : State) : KeepsLaws s (setNozzle p level s) :=
  (keepsLaws_setNozzlePin p level s).trans keepsLaws_setPoint_same

theorem keepsLaws_nozzleLift (p : Fin 32) (s : State) : KeepsLaws s (nozzleLift p s) := by
  unfold nozzleLift
  refine keepsLaws_if (keepsLaws_setNozzlePin ..) (keepsLaws_if (.refl s) ((keepsLaws_setNozzle p true s).trans ?_))
  unfold liftFollowed
  split
  · exact .trans keepsLaws_setPoint_same (keepsLaws_reportLift ..)
  · exact keepsLaws_reportLift ..
  all_goals exact .refl _

theorem keepsLaws_nozzleHangUp (p : Fin 32) (s : State) : KeepsLaws s (nozzleHangUp p s) := by
  unfold nozzleHangUp
  refine keepsLaws_if (keepsLaws_setNozzlePin ..) (keepsLaws_if ((keepsLaws_setNozzle p false s).trans ?_) (.refl s))
  unfold hangUpFollowed
  split
  · exact .trans (.trans (.trans keepsLaws_setPoint_same (keepsLaws_withdrawOwn ..)) (keepsLaws_reportHangUp ..))
      (keepsLaws_reportExit ..)
  · exact .trans keepsLaws_setPoint_same (keepsLaws_reportHangUp ..)
  · exact (keepsLaws_closeValve ..).trans (keepsLaws_reportHangUp ..)
  · exact (keepsLaws_closeValve ..).trans (keepsLaws_reportHangUp ..)
  · exact keepsLaws_reportHangUp ..
  all_goals exact .refl _

theorem keepsLaws_noFlowExpiry (p : Fin 32) (s : State) : KeepsLaws s (noFlowExpiry p s) := by
  have stopped : KeepsLaws s (s.setPoint p { s.point p with noFlow := .stopped }) := keepsLaws_setPoint_same
  unfold noFlowExpiry
  refine keepsLaws_if ?_ (.refl s)
  dsimp only
  split
  · exact keepsLaws_if (stopped.trans (keepsLaws_enterClosing ..)) stopped
  · exact stopped

/-! ### The host commands and the timers of the grants -/

theorem keepsLaws_doService (s : State) : KeepsLaws s (doService s).1 := by
  unfold doService
  split
  · exact .refl s
  split
  · exact .of_same
  · exact .of_same

theorem keepsLaws_doCollect (s : State) : KeepsLaws s (doCollect s).1 := by
  unfold doCollect
  split
  · exact .refl s
  split
  · exact .of_same
  · exact .of_same

theorem keepsLaws_approve (i : Fin 24) (es : List LimitEntry) (s : State) : KeepsLaws s (approve i es s) :=
  ((keepsLaws_modGrant ..).trans (keepsLaws_leavePending ..)).trans (keepsLaws_arm ..)

theorem keepsLaws_declineGrant (i : Fin 24) (code : Nat) (s : State) : KeepsLaws s (declineGrant i code s) := by
  unfold declineGrant
  split
  · exact .trans (.trans ((keepsLaws_setSlot ..).trans (keepsLaws_leavePending ..)) (keepsLaws_queueNotice ..))
      (keepsLaws_settle ..)
  · exact .refl s

theorem keepsLaws_doDecide (tag : Nat) (verdict : Verdict) (s : State) : KeepsLaws s (doDecide tag verdict s).1 := by
  unfold doDecide
  split
  · exact .refl s
  split
  · exact .refl s
  split
  · exact .refl s
  split
  · exact .refl s
  split
  · split
    · exact keepsLaws_approve ..
    · exact .refl s
  · exact keepsLaws_declineGrant ..
  · exact .refl s

theorem keepsLaws_doOpenGrant (lane : Nat) (es : List LimitEntry) (s : State) : KeepsLaws s (doOpenGrant lane es s).1 := by
  unfold doOpenGrant
  split
  · exact .refl s
  split
  · exact .refl s
  split
  · exact .refl s
  split
  · exact .refl s
  split
  · exact .refl s
  split
  · exact .refl s
  · exact (keepsLaws_createIn ..).trans (keepsLaws_arm ..)

theorem keepsLaws_doHold (tag : Nat) (s : State) : KeepsLaws s (doHold tag s).1 := by
  unfold doHold
  split
  · exact .refl s
  split
  · exact keepsLaws_enterHeld ..
  · exact .refl s

theorem keepsLaws_resumeReports (i : Fin 24) (ps : List (Fin 32)) (s : State) : KeepsLaws s (resumeReports i ps s) :=
  keepsLaws_foldl
    (f := fun s p => if (s.point p).state = .lifted then liftReport i p (s.liftConditions p) s else s)
    (fun s _ => keepsLaws_if (keepsLaws_liftReport ..) (.refl s)) ps s

theorem keepsLaws_resumeGrant (i : Fin 24) (s : State) : KeepsLaws s (resumeGrant i s) := by
  unfold resumeGrant
  split
  · exact ((keepsLaws_setSlot ..).trans (keepsLaws_resumeReports ..)).trans (keepsLaws_startWaitTimer ..)
  · exact .refl s

theorem keepsLaws_doResume (tag : Nat) (s : State) : KeepsLaws s (doResume tag s).1 := by
  unfold doResume
  split
  · exact .refl s
  split
  · exact keepsLaws_resumeGrant ..
  · exact .refl s

theorem keepsLaws_doStop (tag : Nat) (s : State) : KeepsLaws s (doStop tag s).1 := by
  unfold doStop
  split
  · exact .refl s
  split
  · exact keepsLaws_endNow ..
  · exact keepsLaws_endNow ..
  · exact keepsLaws_enterClosing ..
  · exact keepsLaws_enterClosing ..
  all_goals exact .refl s

theorem keepsLaws_doCancel (lane : Fin 8) (tag : Nat) (s : State) : KeepsLaws s (doCancel lane tag s).1 := by
  unfold doCancel
  split
  · exact .refl s
  split
  · exact .refl s
  split
  · exact .refl s
  split
  · exact keepsLaws_endNow ..
  · exact keepsLaws_endNow ..
  · exact keepsLaws_enterClosing ..
  · exact keepsLaws_enterClosing ..
  all_goals exact .refl s

/-- An approval that the checks gave is booked within the tally's law (R53, R54). -/
theorem keepsLaws_book {s : State} {timeout : Bool} {pan : Pan} {p : Program} (listed : p ∈ s.su.programs)
    (approved : standinChecks timeout pan p s.su = .approved) : KeepsLaws s (s.modSu (·.book pan p.id)) :=
  keepsLaws_modSu fun law => lawful_book law listed approved

theorem keepsLaws_decisionExpiry (tag : Nat) (s : State) : KeepsLaws s (decisionExpiry tag s) := by
  unfold decisionExpiry
  split
  · exact .refl s
  next i _ =>
  split
  · exact .refl s
  refine keepsLaws_if (.refl s) ?_
  have waiting := keepsLaws_leavePending i s
  have ended := waiting.trans (keepsLaws_endNow i .declinedTimeout _)
  dsimp only
  split
  · exact ended
  split
  · exact ended
  next p found =>
  split
  · next approved =>
    have su : (leavePending i s).su = s.su := leavePending_su i s
    have booked := keepsLaws_book (s := leavePending i s) (su ▸ List.mem_of_find?_eq_some found) (su ▸ approved)
    exact ((waiting.trans booked).trans (keepsLaws_modGrant ..)).trans (keepsLaws_arm ..)
  · exact ended
  · exact (waiting.trans (.of_same (t := (leavePending i s).raiseTallyFull))).trans (keepsLaws_endNow ..)

theorem keepsLaws_liftExpiry (tag : Nat) (s : State) : KeepsLaws s (liftExpiry tag s) := by
  unfold liftExpiry
  split
  · exact .refl s
  split
  · exact .refl s
  refine keepsLaws_if ?_ (.refl s)
  split
  · exact keepsLaws_endNow ..
  · exact keepsLaws_enterClosing ..
  all_goals exact .refl s

theorem keepsLaws_idleEndExpiry (tag : Nat) (s : State) : KeepsLaws s (idleEndExpiry tag s) := by
  unfold idleEndExpiry
  split
  · exact .refl s
  · exact keepsLaws_if (keepsLaws_enterClosing ..) (.refl s)

theorem keepsLaws_holdExpiry (tag : Nat) (s : State) : KeepsLaws s (holdExpiry tag s) := by
  unfold holdExpiry
  split
  · exact .refl s
  · exact keepsLaws_if (keepsLaws_enterClosing ..) (.refl s)

/-! ### Screening -/

theorem keepsLaws_acceptOnline (i : Fin 24) (g : Grant) (s : State) : KeepsLaws s (acceptOnline i g s).1 := by
  dsimp only [acceptOnline]
  exact (keepsLaws_createIn ..).trans (keepsLaws_modGm ..)

/-- A check of screening that is passed hands on to the next. -/
theorem passed_of_check {c : Prop} [Decidable c] {x : ReplyResult} {next : Screened} {p : Program}
    {products : List (Fin 4)} (passed : (if c then .refused x else next) = .passed p products) :
    next = .passed p products := by
  split at passed
  · exact absurd passed (by simp)
  · exact passed

/-- A request that passes does so under an entry of the program table (R50). -/
theorem screen_passed_listed {lane : Fin 8} {r : AuthRequest} {s : State} {p : Program} {products : List (Fin 4)}
    (passed : screen lane r s = .passed p products) : p ∈ s.su.programs := by
  have permitted := passed_of_check (passed_of_check (passed_of_check (passed_of_check (passed_of_check passed))))
  split at permitted
  · exact absurd permitted (by simp)
  · next covers =>
    obtain ⟨rfl, _⟩ := Screened.passed.inj (passed_of_check (passed_of_check (passed_of_check permitted)))
    exact List.mem_of_find?_eq_some covers

theorem keepsLaws_doAuthRequest (lane : Fin 8) (request : Option AuthRequest) (s : State) :
    KeepsLaws s (doAuthRequest lane request s).1 := by
  unfold doAuthRequest
  split
  · exact .refl s
  split
  · exact .refl s
  next passed =>
  have listed := screen_passed_listed passed
  unfold admitRequest
  split
  · exact .refl s
  split
  · exact keepsLaws_acceptOnline ..
  split
  · next approved =>
    exact ((keepsLaws_book listed approved).trans (keepsLaws_createIn ..)).trans (keepsLaws_arm ..)
  · exact .refl s
  · exact .of_same

end Sys2Proof.Machine
end

section
/-! PROOFS. The bounds and the table law under faults, period ends, the site, the probes and the tick; every step keeps
them. -/

namespace Sys2Proof.Machine

/-! ### Points out of service and line lockout -/

theorem keepsLaws_raisePointFault (p : Fin 32) (s : State) : KeepsLaws s (s.raisePointFault p) := .of_same

theorem keepsLaws_raiseLineLockout (l : Fin 4) (s : State) : KeepsLaws s (s.raiseLineLockout l) := .of_same

theorem keepsLaws_leaveGrant (p : Fin 32) (s : State) : KeepsLaws s (leaveGrant p s) := by
  unfold leaveGrant
  split
  · exact (keepsLaws_detach ..).trans (keepsLaws_removePoint ..)
  · exact keepsLaws_detach ..

/-- A point's creep count restarts. -/
theorem keepsLaws_creepRestarts (p : Fin 32) (s : State) : KeepsLaws s (s.setPoint p { s.point p with creep := 0 }) :=
  keepsLaws_setPoint_lower (Nat.le_refl _) (Nat.zero_le _)

theorem keepsLaws_outOfService (p : Fin 32) (s : State) : KeepsLaws s (outOfService p s) := by
  have takenOut : KeepsLaws s (s.setPoint p (s.point p).takenOut) :=
    keepsLaws_setPoint_lower (Nat.zero_le _) (Nat.le_refl _)
  have left := (takenOut.trans (keepsLaws_withdrawOwn p _)).trans (keepsLaws_leaveGrant p _)
  exact (left.trans (keepsLaws_creepRestarts p _)).trans (keepsLaws_raisePointFault p _)

theorem keepsLaws_lineLockedOut (l : Fin 4) (s : State) : KeepsLaws s (lineLockedOut l s) := by
  refine .trans (.trans ?_ (keepsLaws_forcedStop l _)) (keepsLaws_closeOrders ..)
  exact keepsLaws_setLine rfl

theorem keepsLaws_exhaustLine (l : Fin 4) (slots : List (Fin 24)) (s : State) : KeepsLaws s (exhaustLine l slots s) :=
  keepsLaws_foldl (f := fun s i => s.modGrant i (·.modAllowance l Allowance.exhaust)) (fun _ _ => keepsLaws_modGrant ..)
    slots s

theorem keepsLaws_lockoutGrant (i : Fin 24) (s : State) : KeepsLaws s (lockoutGrant i s) := by
  unfold lockoutGrant
  split
  · exact keepsLaws_if (keepsLaws_enterClosing ..) (.refl s)
  · exact .refl s

theorem keepsLaws_lockout (l : Fin 4) (s : State) : KeepsLaws s (lockout l s) := by
  have exhausted := fun slots => (keepsLaws_lineLockedOut l s).trans (keepsLaws_exhaustLine l slots _)
  have counted : ∀ t : State, KeepsLaws t { t with draws := s.draws + 1 } := fun _ => .of_same
  unfold lockout
  refine keepsLaws_if (.refl s) (.trans (.trans ?_ (keepsLaws_foldl (fun s i => keepsLaws_lockoutGrant i s) _ _))
    (keepsLaws_raiseLineLockout ..))
  exact (exhausted _).trans (counted _)

/-! ### Creep and pulser faults -/

theorem keepsLaws_unauthorizedFlow (p : Fin 32) (s : State) : KeepsLaws s (unauthorizedFlow p s) := by
  refine .trans ?_ (keepsLaws_outOfService p _)
  split
  · exact keepsLaws_if (keepsLaws_enterClosing ..) (.refl s)
  · exact .refl s

/-- Creep watch leaves a count within the allowance of the point's configuration (R147). -/
theorem keepsLaws_creepWatch {p : Fin 32} {c : PointConfig} {s : State} (config : (s.point p).config = some c)
    (n : Int) : KeepsLaws s (creepWatch p c n s) := by
  unfold creepWatch
  split
  · exact (keepsLaws_creepRestarts p s).trans (keepsLaws_if (keepsLaws_lockout ..) (keepsLaws_unauthorizedFlow ..))
  · next within =>
    refine keepsLaws_setPoint fun _ h => ?_
    obtain ⟨forward, reverse, errors, latchForward, latchReverse, latchErrors, window, _⟩ := h
    refine ⟨forward, reverse, errors, latchForward, latchReverse, latchErrors, window, fun d hd => ?_⟩
    obtain rfl := Option.some.inj (config.symm.trans hd)
    exact not_lt.mp within

theorem keepsLaws_faultHold (p : Fin 32) (s : State) : KeepsLaws s (faultHold p s) := by
  unfold faultHold
  split
  · exact (keepsLaws_enterHeld ..).trans (keepsLaws_raisePointFault ..)
  · exact .refl s

theorem keepsLaws_compoundFault (p : Fin 32) (s : State) : KeepsLaws s (compoundFault p s) := by
  refine .trans ?_ (keepsLaws_outOfService p _)
  split
  · exact keepsLaws_enterClosing ..
  · exact .refl s

theorem keepsLaws_pulserFault (p : Fin 32) (s : State) : KeepsLaws s (pulserFault p s) := by
  have delivering := fun c [Decidable c] => keepsLaws_if (c := c) (keepsLaws_faultHold p s) (.refl s)
  have closed := fun c [Decidable c] => keepsLaws_if (c := c) (keepsLaws_compoundFault p s) (keepsLaws_outOfService p s)
  unfold pulserFault
  split
  · exact .refl s
  · exact .refl s
  · exact delivering _
  · exact delivering _
  all_goals exact closed _

/-! ### Period ends -/

theorem keepsLaws_exhaustAllowance (i : Fin 24) (l : Fin 4) (points : List (Fin 32)) (s : State) :
    KeepsLaws s (exhaustAllowance i l points s) :=
  ((keepsLaws_modGrant ..).trans (keepsLaws_closeOrders ..)).trans (keepsLaws_exhaustionReport ..)

theorem keepsLaws_evaluate (i : Fin 24) (l : Fin 4) (s : State) : KeepsLaws s (evaluate i l s) := by
  unfold evaluate
  split
  · split
    · exact keepsLaws_if (.refl s)
        (keepsLaws_if (keepsLaws_exhaustAllowance ..) (keepsLaws_if (keepsLaws_slowOrders ..) (.refl s)))
    · exact .refl s
  · exact .refl s

theorem keepsLaws_saleStep (p : Fin 32) (c : PointConfig) (n : Int) (s : State) : KeepsLaws s (saleStep p c n s) := by
  unfold saleStep
  split
  · exact (keepsLaws_modGrant ..).trans (keepsLaws_evaluate ..)
  · exact .refl s

theorem keepsLaws_windowEnd (p : Fin 32) (s : State) : KeepsLaws s (windowEnd p s) := by
  have left : KeepsLaws s
      (s.setPoint p
        { s.point p with state := if (s.point p).nozzle then .lifted else .idle, settleLeft := 0, creep := 0 }) :=
    keepsLaws_setPoint_lower (Nat.zero_le _) (Nat.zero_le _)
  have reported := left.trans (keepsLaws_reportExit p _)
  exact keepsLaws_if (reported.trans (keepsLaws_reportLift ..)) reported

theorem keepsLaws_pointTimers (p : Fin 32) (was : PointState) (n : Int) (s : State) :
    KeepsLaws s (pointTimers p was n s) := by
  unfold pointTimers
  refine keepsLaws_if (keepsLaws_if (keepsLaws_windowEnd p s) ?_) (keepsLaws_if keepsLaws_setPoint_same (.refl s))
  exact keepsLaws_setPoint_lower (Nat.sub_le ..) (Nat.le_refl _)

theorem keepsLaws_periodEnd (p : Fin 32) (s : State) : KeepsLaws s (periodEnd p s) := by
  cases config : (s.point p).config with
  | none => simpa only [periodEnd, config] using KeepsLaws.refl s
  | some c =>
    have latched : KeepsLaws s (s.setPoint p (s.point p).latched) := keepsLaws_setPoint fun _ h => h.latched
    by_cases watched : (s.point p).state.creepWatched = true
    · have counted := latched.trans (keepsLaws_creepWatch (c := c) (by rw [setPoint_point, if_pos rfl]; exact config) (s.point p).net)
      rw [periodEnd_watched config watched]
      exact keepsLaws_if (counted.trans (keepsLaws_pulserFault ..)) counted
    · have sold := latched.trans (keepsLaws_if (c := (s.point p).state.metersSale = true)
        (keepsLaws_saleStep p c (s.point p).net _) (.refl _))
      have timed := sold.trans (keepsLaws_pointTimers p (s.point p).state (s.point p).net _)
      simp only [periodEnd, config, watched]
      exact keepsLaws_if (timed.trans (keepsLaws_pulserFault ..)) timed

/-! ### The site -/

theorem keepsLaws_haltGrant (i : Fin 24) (s : State) : KeepsLaws s (haltGrant i s) := by
  have settles := (keepsLaws_modGrant s i (·.recordOutcome .halt)).trans (keepsLaws_settleCore i _)
  have closing := keepsLaws_enterClosingCore i .halt s
  have closes := fun c [Decidable c] => keepsLaws_if (c := c) (closing.trans (keepsLaws_settleCore i _)) closing
  unfold haltGrant
  split
  · split
    · exact settles
    · exact settles
    · exact closes _
    · exact closes _
    all_goals exact .refl s
  · exact .refl s

theorem keepsLaws_stopForecourt (s : State) : KeepsLaws s (stopForecourt s) := by
  refine .trans (.trans ?_ (keepsLaws_closeOrders ..)) (keepsLaws_foldl (fun s l => keepsLaws_forcedStop l s) _ _)
  exact .of_same rfl rfl rfl rfl rfl rfl

theorem keepsLaws_haltGrants (s : State) : KeepsLaws s (haltGrants s) :=
  keepsLaws_foldl (fun s i => keepsLaws_haltGrant i s) _ s

theorem keepsLaws_enterHalting (s : State) : KeepsLaws s (enterHalting s) :=
  (((keepsLaws_stopForecourt s).trans (keepsLaws_haltGrants _)).trans (keepsLaws_placeSiteNotice _)).trans
    (keepsLaws_haltTest _)

theorem keepsLaws_doSiteHalt (s : State) : KeepsLaws s (doSiteHalt s).1 := by
  unfold doSiteHalt
  split
  · dsimp only
    exact keepsLaws_enterHalting s
  · exact .refl s

theorem keepsLaws_doSiteResume (s : State) : KeepsLaws s (doSiteResume s).1 := by
  unfold doSiteResume
  split
  · exact .refl s
  · exact .refl s
  split
  · exact .refl s
  · exact .of_same rfl rfl rfl rfl rfl rfl

theorem keepsLaws_setEstop (level : Bool) (s : State) : KeepsLaws s (setEstop level s) :=
  .of_same rfl rfl rfl rfl rfl rfl

theorem keepsLaws_estopAssert (s : State) : KeepsLaws s (estopAssert s) :=
  keepsLaws_if ((keepsLaws_setEstop true s).trans (keepsLaws_enterHalting _)) (keepsLaws_setEstop true s)

/-- A reset leaves the tables and ranges as they are at power-on, where the laws hold. -/
theorem keepsLaws_resetPart (s : State) : KeepsLaws s (resetPart s) := by
  have powerOn : KeepsLaws State.reset (resetPart s) := .of_same rfl rfl rfl rfl rfl rfl
  exact ⟨fun _ => powerOn.bounds (boundLaw_iff.mp boundLaw_reset),
    fun _ => powerOn.tables (tableLaw_iff.mp tableLaw_reset)⟩

/-! ### The probes -/

theorem keepsLaws_chooseChannel (s : State) : KeepsLaws s (chooseChannel s) := by
  unfold chooseChannel
  split <;> exact keepsLaws_modTu rfl

theorem probeForm_entered (x : Probe) : ProbeForm x.entered := by simp [ProbeForm, Probe.entered]

theorem probeForm_leftRotation (x : Probe) : ProbeForm x.leftRotation := by simp [ProbeForm, Probe.leftRotation]

/-- A conversion lies within the range of T (R127). -/
theorem convert_range (offset : Int) (span code : Nat) : -400 ≤ convert offset span code ∧ convert offset span code ≤ 700 := by
  unfold convert
  omega

/-- A completion of a probe in rotation leaves it in the form of its new state (R129, R131). -/
theorem ProbeFits.completed {x : Probe} {y : Line} (h : ProbeFits x y) (inRotation : x.inRotation = true)
    (code holdCode : Nat) : ProbeFits (x.completed code holdCode) y := by
  have kept := h
  obtain ⟨⟨low, high, _⟩, rotation⟩ := h
  unfold Probe.completed
  split
  · exact ⟨⟨(convert_range ..).1, (convert_range ..).2, inRotation, rfl⟩, rotation⟩
  · split
    · exact ⟨⟨low, high, inRotation, start_ne_stopped holdCode⟩, rotation⟩
    all_goals exact kept

theorem keepsLaws_probeCompletion {l : Fin 4} {s : State} (inRotation : (s.probe l).inRotation = true) (code : Nat) :
    KeepsLaws s (probeCompletion l code s) := by
  have done : KeepsLaws s (s.setProbe l ((s.probe l).completed code s.cp.timers.probeHold)) :=
    keepsLaws_setProbe fun h => h.completed inRotation ..
  exact keepsLaws_if (done.trans .of_same) done

theorem keepsLaws_conversionCompletion (code : Nat) (s : State) : KeepsLaws s (conversionCompletion code s) := by
  unfold conversionCompletion
  split
  · refine .trans ?_ (keepsLaws_chooseChannel _)
    split
    · next taken => exact keepsLaws_probeCompletion (by simp_all) code
    · exact .refl s
  · exact .refl s

/-- Only a probe that HOLDS has a timer that can expire, and it falls back to REFERENCE (R130). -/
theorem ProbeFits.holdExpired {x : Probe} {y : Line} (h : ProbeFits x y) (runs : x.hold.mayExpire = true) :
    ProbeFits { x with state := .reference, temperature := 150, hold := .stopped } y := by
  have ambient : (-400 : Int) ≤ 150 ∧ (150 : Int) ≤ 700 := by decide
  obtain ⟨⟨_, _, form⟩, rotation⟩ := h
  obtain ⟨n, running⟩ := (mayExpire_iff _).mp runs
  have inRotation : x.inRotation = true := by
    cases state : x.state <;> simp_all
  exact ⟨⟨ambient.1, ambient.2, inRotation, rfl, rfl⟩, rotation⟩

theorem keepsLaws_probeHoldExpiry (l : Fin 4) (s : State) : KeepsLaws s (probeHoldExpiry l s) := by
  unfold probeHoldExpiry
  split
  · next runs => exact keepsLaws_setProbe fun h => h.holdExpired runs
  · exact .refl s

theorem keepsLaws_doProbeSet (line : Nat) (offset : Int) (span : Nat) (s : State) :
    KeepsLaws s (doProbeSet line offset span s).1 := by
  unfold doProbeSet
  split
  · exact .refl s
  split
  · exact keepsLaws_setProbe fun h => h
  · exact .refl s

/-! ### The tick -/

theorem ProbeFits.ticked {x : Probe} {y : Line} (h : ProbeFits x y) : ProbeFits { x with hold := x.hold.tick } y := by
  obtain ⟨⟨low, high, form⟩, rotation⟩ := h
  refine ⟨⟨low, high, ?_⟩, rotation⟩
  dsimp only
  cases state : x.state <;> simpa [state] using form

theorem keepsLaws_tickLine (s : State) (l : Fin 4) : KeepsLaws s (tickLine s l) := by
  refine .trans (keepsLaws_setLine ?_) (keepsLaws_setProbe fun h => h.ticked)
  rfl

theorem keepsLaws_tickTimers (s : State) : KeepsLaws s (tickTimers s) := by
  unfold tickTimers
  refine .trans (.trans ?_ (keepsLaws_foldl (fun _ _ => keepsLaws_setPoint_same) _ _))
    (keepsLaws_foldl keepsLaws_tickLine _ _)
  exact keepsLaws_foldl (fun _ _ => keepsLaws_modGrant ..) _ s

theorem keepsLaws_tick (s : State) : KeepsLaws s (tick s) := by
  refine (keepsLaws_tickTimers s).trans ?_
  unfold tick
  exact .of_same

end Sys2Proof.Machine
end

section
/-! PROOFS. LINE_SET's change of rotation (R89, R124), and the step: every row keeps the bounds and the table law. -/

namespace Sys2Proof.Machine

/-! ### LINE_SET -/

theorem ProbeFits.entered (x : Probe) {y : Line} (has : y.hasProbe = true) : ProbeFits x.entered y :=
  ⟨probeForm_entered x, by simp [Probe.entered, has]⟩

theorem ProbeFits.leftRotation (x : Probe) {y : Line} (has : y.hasProbe = false) : ProbeFits x.leftRotation y :=
  ⟨probeForm_leftRotation x, by simp [Probe.leftRotation, has]⟩

/-- `t` is `s` with the entry of line `l` alone replaced. -/
structure Relined (l : Fin 4) (s t : State) : Prop where
  points : t.points = s.points
  tu : t.tu = s.tu
  lanes : t.ibi.lanes = s.ibi.lanes
  timers : t.cp.timers = s.cp.timers
  su : t.su = s.su
  others : ∀ k, k ≠ l → t.line k = s.line k

/-- With the line's entry replaced, its probe replaced as well keeps the laws where the two fit. -/
theorem Relined.keepsLaws_setProbe {l : Fin 4} {s t : State} (h : Relined l s t) {x : Probe}
    (fits : ProbeFits x (t.line l)) : KeepsLaws s (t.setProbe l x) :=
  keepsLaws_reline l h.points h.lanes h.timers h.su
    (fun k ne => ⟨h.others k ne, by rw [setProbe_probe, if_neg ne, probe_of_tu h.tu]⟩) fun _ => by simpa using fits

/-- A line's new entry and the change of rotation it asks for keep the laws together (R124). -/
theorem Relined.keepsLaws_changeRotation {l : Fin 4} {s t : State} (h : Relined l s t) {after : Bool}
    (now : (t.line l).hasProbe = after) : KeepsLaws s (changeRotation l (s.line l).hasProbe after t) := by
  cases before : (s.line l).hasProbe <;> cases after
  case false.true =>
    have entered := h.keepsLaws_setProbe (.entered (t.probe l) now)
    exact keepsLaws_if (entered.trans (keepsLaws_chooseChannel _)) entered
  case true.false =>
    dsimp only [changeRotation, leaveRotation]
    exact (h.keepsLaws_setProbe (.leftRotation (t.probe l) now)).trans (keepsLaws_modTu rfl)
  all_goals
    refine keepsLaws_reline l h.points h.lanes h.timers h.su (fun k ne => ⟨h.others k ne, probe_of_tu h.tu k⟩) ?_
    rintro ⟨form, rotation⟩
    change ProbeFits (t.probe l) (t.line l)
    rw [probe_of_tu h.tu]
    exact ⟨form, by rw [rotation, before, now]⟩

theorem keepsLaws_eraseLine (l : Fin 4) (s : State) : KeepsLaws s (eraseLine l s) := by
  have erased : Relined l s (forcedStop l (s.setLine l { s.line l with config := none, state := .unconfigured })) :=
    ⟨rfl, rfl, rfl, rfl, rfl, fun k ne => by simp [forcedStop, ne]⟩
  exact erased.keepsLaws_changeRotation (by simp [forcedStop, Line.stopped, Line.hasProbe])

theorem keepsLaws_configureLine (l : Fin 4) (c : LineConfig) (s : State) : KeepsLaws s (configureLine l c s) := by
  have configured : Relined l s (s.setLine l { s.line l with config := some c, state := .available }) :=
    ⟨rfl, rfl, rfl, rfl, rfl, fun k ne => by simp [ne]⟩
  exact configured.keepsLaws_changeRotation (by simp [Line.hasProbe])

theorem keepsLaws_doLineSet (line : Nat) (arg : LineArg) (s : State) : KeepsLaws s (doLineSet line arg s).1 := by
  unfold doLineSet
  split
  · exact .refl s
  · exact .refl s
  · split
    · exact .refl s
    · exact keepsLaws_eraseLine ..
  · split
    · exact .refl s
    split
    · exact .refl s
    · exact keepsLaws_configureLine ..

/-! ### The commands that answer without a change of what the laws read -/

theorem keepsLaws_doReadGrant (tag : Nat) (s : State) : KeepsLaws s (doReadGrant tag s).1 := by
  unfold doReadGrant
  split <;> exact .refl s

theorem keepsLaws_doProgramRead (index : Nat) (s : State) : KeepsLaws s (doProgramRead index s).1 := by
  unfold doProgramRead
  split
  · exact .refl s
  split <;> exact .refl s

theorem keepsLaws_doDenyTest (pan : Pan) (s : State) : KeepsLaws s (doDenyTest pan s).1 := by
  unfold doDenyTest
  split <;> exact .refl s

theorem keepsLaws_doTallyRead (position : Nat) (s : State) : KeepsLaws s (doTallyRead position s).1 := by
  unfold doTallyRead
  split
  · split <;> exact .refl s
  · exact .refl s

theorem keepsLaws_doPointRead (point : Nat) (s : State) : KeepsLaws s (doPointRead point s).1 := by
  unfold doPointRead
  split <;> exact .refl s

theorem keepsLaws_doLineRead (line : Nat) (s : State) : KeepsLaws s (doLineRead line s).1 := by
  unfold doLineRead
  split <;> exact .refl s

theorem keepsLaws_doEventRead (s : State) : KeepsLaws s (doEventRead s).1 := .of_same rfl rfl rfl rfl rfl rfl

theorem keepsLaws_doEventMask (mask : Nat) (s : State) : KeepsLaws s (doEventMask mask s).1 := by
  unfold doEventMask
  split
  · exact .of_same
  · exact .refl s

/-! ### The host commands and the rows -/

theorem keepsLaws_owner {i : Instr} {act : State → State × Response} (owned : ownerOf i = some act) (s : State) :
    KeepsLaws s (act s).1 := by
  cases i <;> cases owned
  case service => exact keepsLaws_doService s
  case decide tag verdict => exact keepsLaws_doDecide tag verdict s
  case openGrant lane es => exact keepsLaws_doOpenGrant lane es s
  case readGrant tag => exact keepsLaws_doReadGrant tag s
  case hold tag => exact keepsLaws_doHold tag s
  case resume tag => exact keepsLaws_doResume tag s
  case stop tag => exact keepsLaws_doStop tag s
  case collect => exact keepsLaws_doCollect s
  case programPut e => exact keepsLaws_doProgramPut e s
  case programDrop id => exact keepsLaws_doProgramDrop id s
  case programRead index => exact keepsLaws_doProgramRead index s
  case denyAdd pan => exact keepsLaws_doDenyAdd pan s
  case denyDrop pan => exact keepsLaws_doDenyDrop pan s
  case denyTest pan => exact keepsLaws_doDenyTest pan s
  case denyClear => exact keepsLaws_doDenyClear s
  case tallyRead position => exact keepsLaws_doTallyRead position s
  case tallyDrop pan => exact keepsLaws_doTallyDrop pan s
  case tallyClear => exact keepsLaws_doTallyClear s
  case pointSet point arg => exact keepsLaws_doPointSet point arg s
  case pointRead point => exact keepsLaws_doPointRead point s
  case pointEnable point => exact keepsLaws_doPointEnable point s
  case lineSet line arg => exact keepsLaws_doLineSet line arg s
  case lineRead line => exact keepsLaws_doLineRead line s
  case priceSet line price => exact keepsLaws_doPriceSet line price s
  case lineRestore line => exact keepsLaws_doLineRestore line s
  case probeSet line offset span => exact keepsLaws_doProbeSet line offset span s
  case siteHalt => exact keepsLaws_doSiteHalt s
  case siteResume => exact keepsLaws_doSiteResume s
  case linkSet link => exact keepsLaws_doLinkSet link s
  case dateSet date => exact keepsLaws_doDateSet date s
  case timersSet t => exact keepsLaws_doTimersSet t s
  case statusRead => exact .refl s
  case eventRead => exact keepsLaws_doEventRead s
  case eventMask mask => exact keepsLaws_doEventMask mask s

theorem keepsLaws_completion (s : State) : KeepsLaws s (completion s) := by
  unfold completion
  split
  · exact keepsLaws_placeResponse ..
  · split
    · next act owned => exact (keepsLaws_owner owned s).trans (keepsLaws_placeResponse ..)
    · exact .refl s
  · exact .refl s

theorem keepsLaws_exec {i : Instr} {s t : State} (h : exec i s = .next t) : KeepsLaws s t := by
  cases owned : ownerOf i with
  | some act =>
    rw [exec_of_owner owned s] at h
    obtain rfl := Host.Outcome.next.inj h
    rcases takeCommand_cases i act s with e | e <;> rw [e]
    · exact .refl s
    · exact (keepsLaws_owner owned s).trans (keepsLaws_giveAnswer ..)
  | none =>
    cases i <;> first | exact absurd owned (Option.some_ne_none _) | skip
    all_goals obtain rfl := Host.Outcome.next.inj h
    case reset => exact keepsLaws_resetPart s
    case commandFrame edge => exact keepsLaws_scsEdge edge s
    case commandCompletion => exact keepsLaws_completion s
    case fetch n => exact keepsLaws_fetchSelection n s
    case lift p => exact keepsLaws_nozzleLift p s
    case hangUp p => exact keepsLaws_nozzleHangUp p s
    case pulserStep p phase => exact keepsLaws_pulserStep p phase s
    case estopAssertion => exact keepsLaws_estopAssert s
    case estopRelease => exact keepsLaws_setEstop false s
    case periodEnd p => exact keepsLaws_periodEnd p s
    case decisionTimerExpiry tag => exact keepsLaws_decisionExpiry tag s
    case liftTimerExpiry tag => exact keepsLaws_liftExpiry tag s
    case idleEndTimerExpiry tag => exact keepsLaws_idleEndExpiry tag s
    case holdTimerExpiry tag => exact keepsLaws_holdExpiry tag s
    case noFlowTimerExpiry p => exact keepsLaws_noFlowExpiry p s
    case startTimerExpiry l => exact keepsLaws_startExpiry l s
    case runOnTimerExpiry l => exact keepsLaws_runOnExpiry l s
    case probeHoldTimerExpiry l => exact keepsLaws_probeHoldExpiry l s
    case conversionCompletion code => exact keepsLaws_conversionCompletion code s
    case dutyInForceChange p => exact keepsLaws_dutyTakesForce p s
    case startCondition => exact (keepsLaws_breakOff s).trans (keepsLaws_modIbi (started_lanes _))
    case stopCondition => exact (keepsLaws_breakOff s).trans (keepsLaws_modIbi rfl)
    case writePhaseEnd bytes ending => exact keepsLaws_writePhaseEnd bytes ending s
    case authRequest lane request => exact keepsLaws_answerMessage lane _ (keepsLaws_doAuthRequest lane request) s
    case cancel lane tag => exact keepsLaws_answerMessage lane _ (keepsLaws_doCancel lane tag) s
    case replyRead n => exact keepsLaws_replyRead n s
    case busStuckTimerExpiry => exact keepsLaws_busStuck s
    case retryWaitEnd n => exact keepsLaws_retryWaitEnd n s
    case noticeTransferStart => exact keepsLaws_startTransfer s
    case laneNoticeTransferEnd nak => exact keepsLaws_laneTransferEnd nak s
    case generalCallTransferEnd => exact keepsLaws_generalTransferEnd s
    case arbitrationLoss loss => exact keepsLaws_arbitrationLoss loss s
    case addressByte b => exact keepsLaws_addressByte b s

theorem keepsLaws_step {s t : State} (h : step s = .next t) : KeepsLaws s t := by
  unfold step at h
  split at h
  · obtain rfl := Host.Outcome.next.inj h
    exact keepsLaws_tick s
  · next rest _ => exact .trans (t := { s with pending := rest }) .of_same (keepsLaws_exec h)

/-- Settles O57: each row is made of single updates of points, lanes, lines with their probes, settings and tables, and
each of these keeps both laws. -/
theorem stepKeepsBoundAndTableLaws : Obligations.StepKeepsBoundAndTableLaws :=
  ⟨fun _ _ law h => boundLaw_iff.mpr ((keepsLaws_step h).bounds (boundLaw_iff.mp law)),
    fun _ _ law h => tableLaw_iff.mpr ((keepsLaws_step h).tables (tableLaw_iff.mp law))⟩

end Sys2Proof.Machine
end

section
/-! PROOFS. The commands of the Screening Unit's tables (R37 to R46, R60, R61): the checks in their order, and what each
table holds and answers afterwards. -/

namespace Sys2Proof.Machine

/-! ### PROGRAM_PUT, PROGRAM_DROP, PROGRAM_READ -/

/-- The model drops entries by `!=`, the statements by `≠`. -/
theorem filter_key_ne {α β : Type} [BEq β] [LawfulBEq β] [DecidableEq β] (key : α → β) (k : β) (l : List α) :
    l.filter (key · != k) = l.filter (key · ≠ k) :=
  List.filter_congr fun x _ => by simp [bne, beq_eq_decide]

/-- An entry of this id stands in the table. -/
theorem any_id_iff {programs : List Program} {id : Nat} :
    programs.any (·.id == id) = true ↔ ∃ q ∈ programs, q.id = id := by
  simp [List.any_eq_true]

/-- Some other entry's range overlaps that of the new one (R37's check 2). -/
theorem any_overlap_iff {programs : List Program} {p : Program} :
    (programs.any fun q => q.id != p.id && overlaps p q) = true ↔
      ∃ q ∈ programs, q.id ≠ p.id ∧ p.low ≤ q.high ∧ q.low ≤ p.high := by
  simp [List.any_eq_true, overlaps_iff]

section ProgramPut

variable {e : ProgramArg} {p : Program} {s : State}

theorem doProgramPut_badParam (bad : ∀ p, ¬ GoodProgram e p) : doProgramPut e s = (s, refusal .badParam) := by
  simp only [doProgramPut, programOf_eq_none.mpr bad]

theorem doProgramPut_overlap (good : GoodProgram e p)
    (overlap : ∃ q ∈ s.su.programs, q.id ≠ p.id ∧ p.low ≤ q.high ∧ q.low ≤ p.high) :
    doProgramPut e s = (s, refusal .overlap) := by
  simp only [doProgramPut, programOf_eq_some.mpr good, any_overlap_iff.mpr overlap, if_true]

theorem doProgramPut_tableFull (good : GoodProgram e p)
    (clear : ¬ ∃ q ∈ s.su.programs, q.id ≠ p.id ∧ p.low ≤ q.high ∧ q.low ≤ p.high)
    (fresh : ¬ ∃ q ∈ s.su.programs, q.id = p.id) (full : 32 ≤ s.su.programs.length) :
    doProgramPut e s = (s, refusal .tableFull) := by
  simp [doProgramPut, programOf_eq_some.mpr good, any_overlap_iff.not.mpr clear, any_id_iff.not.mpr fresh,
    Config.programSlots, full]

theorem doProgramPut_put (good : GoodProgram e p)
    (clear : ¬ ∃ q ∈ s.su.programs, q.id ≠ p.id ∧ p.low ≤ q.high ∧ q.low ≤ p.high)
    (room : (∃ q ∈ s.su.programs, q.id = p.id) ∨ s.su.programs.length < 32) :
    doProgramPut e s =
      ({ s with su := { s.su with programs := putProgram p s.su.programs } },
        okWith
          [if s.su.programs.any (·.id == p.id) then 2#8 else 1#8,
           byteOf ((putProgram p s.su.programs).findIdx (·.id == p.id))]) := by
  have admits : ¬ (!(s.su.programs.any (·.id == p.id)) && decide (Config.programSlots ≤ s.su.programs.length)) = true := by
    rw [Bool.and_eq_true, Bool.not_eq_true', decide_eq_true_eq, ← Bool.not_eq_true, any_id_iff]
    rintro ⟨fresh, full⟩
    exact (room.resolve_left fresh).not_ge full
  simp only [doProgramPut, programOf_eq_some.mpr good, any_overlap_iff.not.mpr clear, admits]
  rfl

end ProgramPut

/-- The new entry stands behind the entries below it, and that is its index. -/
theorem putProgram_index {p : Program} {programs before after : List Program}
    (split : programs.filter (·.id != p.id) = before ++ after) (put : putProgram p programs = before ++ p :: after) :
    (putProgram p programs).findIdx (·.id == p.id) = before.length := by
  have others : ∀ q ∈ before, q.id ≠ p.id := fun q hq => by
    have kept : q ∈ programs.filter (·.id != p.id) := split ▸ List.mem_append_left _ hq
    simpa using (List.mem_filter.mp kept).2
  have none : before.findIdx (·.id == p.id) = before.length :=
    List.findIdx_eq_length.mpr fun q hq => by simpa using others q hq
  rw [put, List.findIdx_append, none]
  simp [List.findIdx_cons]

/-- In a table in ascending order, PROGRAM_PUT parts the other entries at the new one (R38). -/
theorem putProgram_split {p : Program} {programs : List Program} (ascending : programs.Pairwise (·.low < ·.low))
    (ranges : ∀ q ∈ programs, q.low ≤ q.high) (range : p.low ≤ p.high)
    (clear : ¬ ∃ q ∈ programs, q.id ≠ p.id ∧ p.low ≤ q.high ∧ q.low ≤ p.high) :
    ∃ before after, programs.filter (·.id != p.id) = before ++ after ∧ putProgram p programs = before ++ p :: after
      ∧ (∀ q ∈ before, q.low < p.low) ∧ ∀ q ∈ after, p.low < q.low := by
  obtain ⟨before, after, split, put, below, above⟩ := insertProgram_split p (ascending.filter (·.id != p.id))
  refine ⟨before, after, split, put, fun q hq => (below q hq).lt_of_ne fun same => clear ?_, above⟩
  have kept : q ∈ programs.filter (·.id != p.id) := split ▸ List.mem_append_left _ hq
  obtain ⟨listed, other⟩ := List.mem_filter.mp kept
  exact ⟨q, listed, by simpa using other, same ▸ ranges q listed, same ▸ range⟩

theorem doProgramDrop_eq (id : Nat) (s : State) :
    doProgramDrop id s =
      if 31 < id then (s, refusal .badParam)
      else if ∃ q ∈ s.su.programs, q.id = id then
        ({ s with su := { s.su with programs := s.su.programs.filter (·.id ≠ id) } }, okWith [])
      else (s, refusal .notFound) := by
  simp only [doProgramDrop, any_id_iff, filter_key_ne Program.id, State.modSu]

theorem doProgramRead_empty {index : Nat} {s : State} (inTable : index ≤ 31) (past : s.su.programs.length ≤ index) :
    doProgramRead index s = (s, refusal .empty) := by
  simp only [doProgramRead, inTable.not_gt, if_false, List.getElem?_eq_none past]

theorem doProgramRead_stands {index : Nat} {s : State} {p : Program} (inTable : index ≤ 31)
    (stands : s.su.programs[index]? = some p) : doProgramRead index s = (s, okWith (bytesOfProgram p.toArg)) := by
  simp only [doProgramRead, inTable.not_gt, if_false, stands]

/-- Settles O42: the entries below the new one are those whose low is below its own, for no other range overlaps
it. -/
theorem programCommands : Obligations.ProgramCommands := by
  refine ⟨fun e s takes => ⟨fun bad => exec_answers takes rfl (doProgramPut_badParam bad), fun p good =>
    ⟨fun overlap => exec_answers takes rfl (doProgramPut_overlap good overlap), fun apart => ?_⟩⟩,
    fun id s takes => ?_, fun index s takes => ⟨fun above => ?_, fun inTable past => ?_, fun p inTable stands => ?_⟩⟩
  · have clear : ¬ ∃ q ∈ s.su.programs, q.id ≠ p.id ∧ p.low ≤ q.high ∧ q.low ≤ p.high :=
      fun ⟨q, hq, other, overlap⟩ => apart q hq other overlap
    refine ⟨fun fresh full => exec_answers takes rfl (doProgramPut_tableFull good clear
      (fun ⟨q, hq, same⟩ => fresh q hq same) full), fun room ascending ranges => ?_⟩
    obtain ⟨before, after, split, put, below, above⟩ := putProgram_split ascending ranges good.lawful.1 clear
    refine ⟨before, after, if s.su.programs.any (·.id == p.id) then 2#8 else 1#8, ?_, below, above,
      fun listed => if_pos (any_id_iff.mpr listed),
      fun fresh => if_neg (any_id_iff.not.mpr fun ⟨q, hq, same⟩ => fresh q hq same), ?_⟩
    · rw [← split, filter_key_ne Program.id]
    · rw [exec_answers takes rfl (doProgramPut_put good clear room), putProgram_index split put, put]
  · rw [exec_taken takes rfl, doProgramDrop_eq]
    split_ifs <;> rfl
  · exact exec_answers takes rfl (if_pos above)
  · exact exec_answers takes rfl (doProgramRead_empty inTable past)
  · exact exec_answers takes rfl (doProgramRead_stands inTable stands)

end Sys2Proof.Machine
end

section
/-! PROOFS. The commands of the deny set and of the stand-in tally (R43, R44, R60, R61), and LINK_SET and DATE_SET (R45,
R46, R161). -/

namespace Sys2Proof.Machine

/-! ### The deny set -/

theorem panValid_iff {pan : Pan} : panValid pan = true ↔ GoodPan pan := by
  simp [panValid, isDigit, GoodPan, and_assoc]

theorem doDenyAdd_eq (pan : Pan) (s : State) :
    doDenyAdd pan s =
      if ¬ GoodPan pan then (s, refusal .badParam)
      else if pan ∈ s.su.denied then (s, okWith [2#8])
      else if 1024 ≤ s.su.denied.length then (s, refusal .tableFull)
      else ({ s with su := { s.su with denied := s.su.denied ++ [pan] } }, okWith [1#8]) := by
  simp only [doDenyAdd, Bool.not_eq_true', ← Bool.not_eq_true, panValid_iff, List.contains_iff_mem, Config.denySlots,
    State.modSu]
  rfl

theorem doDenyDrop_eq (pan : Pan) (s : State) :
    doDenyDrop pan s =
      if ¬ GoodPan pan then (s, refusal .badParam)
      else if pan ∈ s.su.denied then
        ({ s with su := { s.su with denied := s.su.denied.filter (· ≠ pan) } }, okWith [])
      else (s, refusal .notFound) := by
  simp only [doDenyDrop, Bool.not_eq_true', ← Bool.not_eq_true, panValid_iff, List.contains_iff_mem,
    filter_key_ne fun x : Pan => x, State.modSu]

theorem doDenyTest_eq (pan : Pan) (s : State) :
    doDenyTest pan s =
      if ¬ GoodPan pan then (s, refusal .badParam) else (s, okWith [if pan ∈ s.su.denied then 1#8 else 0#8]) := by
  simp only [doDenyTest, Bool.not_eq_true', ← Bool.not_eq_true, panValid_iff, List.contains_iff_mem]

/-- A number that fits a field of `k` bytes stands in it unsaturated (R199). -/
theorem unsignedField_fits {k n : Nat} (fits : n ≤ 256 ^ k - 1) : unsignedField k n = bytesOfNat k n := by
  rw [unsignedField, Nat.min_eq_left fits]

/-! ### The stand-in tally -/

section Tally

variable {pan : Pan} {s : State}

theorem doTallyDrop_badParam (bad : ¬ GoodPan pan) : doTallyDrop pan s = (s, refusal .badParam) := by
  rw [← panValid_iff, Bool.not_eq_true] at bad
  simp [doTallyDrop, bad]

theorem doTallyDrop_notFound (good : GoodPan pan) (absent : ∀ k e, s.su.entryAt k = some e → e.pan ≠ pan) :
    doTallyDrop pan s = (s, refusal .notFound) := by
  simp [doTallyDrop, panValid_iff.mpr good, positionOf_eq_none.mpr absent]

theorem doTallyDrop_drops {k : Fin 128} {e : TallyEntry} (good : GoodPan pan) (stands : s.su.entryAt k = some e)
    (own : e.pan = pan) (unique : ∀ j f, s.su.entryAt j = some f → f.pan = pan → j = k) :
    doTallyDrop pan s =
      (s.modSu fun u => u.setEntry k none, okWith (unsignedField 1 e.count ++ unsignedField 4 e.amount)) := by
  have position : s.su.positionOf pan = some k := positionOf_unique stands own unique
  have entry : s.su.entryOf pan = some e := by rw [ScreeningUnit.entryOf, position, Option.bind_some, stands]
  simp [doTallyDrop, panValid_iff.mpr good, position, entry]

end Tally

section TallyRead

variable {k : Fin 128} {s : State}

theorem doTallyRead_empty (h : s.su.entryAt k = none) : doTallyRead k.val s = (s, refusal .empty) := by
  simp [doTallyRead, h]

theorem doTallyRead_stands {e : TallyEntry} (h : s.su.entryAt k = some e) :
    doTallyRead k.val s = (s, okWith (tallyField e)) := by
  simp [doTallyRead, h]

end TallyRead

/-- The 128 positions give a count that fits its byte. -/
theorem unsignedField_tallyCount (s : State) : unsignedField 1 (tallyCount s) = [byteOf (tallyCount s)] := by
  have bound : tallyCount s ≤ 128 := List.countP_le_length.trans_eq (by simp)
  have fits : tallyCount s < 256 := by omega
  rw [unsignedField_fits (by omega)]
  simp [bytesOfNat, Nat.mod_eq_of_lt fits]

/-- Settles O43: each command is its checks in order; a tally with one entry a card has one position to drop. -/
theorem denyAndTallyCommands : Obligations.DenyAndTallyCommands := by
  refine ⟨fun pan s takes => ?_, fun pan s takes => ?_, fun pan s takes => ?_, fun s takes bound => ?_,
    fun position s takes => ⟨fun above => ?_, ?_⟩,
    fun pan s takes => ⟨fun bad => ?_, fun good absent => ?_, fun k e good stands own unique => ?_⟩,
    fun s takes => ?_⟩
  · rw [exec_taken takes rfl, doDenyAdd_eq]
    split_ifs <;> rfl
  · rw [exec_taken takes rfl, doDenyDrop_eq]
    split_ifs <;> rfl
  · rw [exec_taken takes rfl, doDenyTest_eq]
    split_ifs <;> rfl
  · rw [← unsignedField_fits (k := 2) (by omega)]
    exact exec_taken takes rfl
  · exact exec_answers takes rfl (dif_neg above.not_gt)
  · rintro k rfl
    exact ⟨fun h => exec_answers takes rfl (doTallyRead_empty h),
      fun e h => exec_answers takes rfl (doTallyRead_stands h)⟩
  · exact exec_answers takes rfl (doTallyDrop_badParam bad)
  · exact exec_answers takes rfl (doTallyDrop_notFound good absent)
  · exact exec_answers takes rfl (doTallyDrop_drops good stands own unique)
  · refine ⟨(doTallyClear s).1, ?_, emptied_entryAt s.su, rfl⟩
    rw [exec_taken takes rfl, ← tallyCount, ← unsignedField_tallyCount]
    rfl

/-! ### LINK_SET and DATE_SET -/

theorem yymmValid_iff {d : Yymm} : yymmValid d = true ↔ GoodMonth d := by
  simp only [yymmValid, isDigit, GoodMonth, Bool.and_eq_true, decide_eq_true_eq, and_assoc]
  rfl

theorem doLinkSet_inForce (s : State) : doLinkSet (some s.su.link) s = (s, okWith []) := if_pos rfl

theorem doLinkSet_change {l : LinkState} {s : State} (change : l ≠ s.su.link) :
    doLinkSet (some l) s = (placeSiteNotice (s.modSu fun u => { u with link := l }), okWith []) := if_neg change.symm

theorem doDateSet_refused {date : Option Yymm} {s : State} (bad : ∃ d, date = some d ∧ ¬ GoodMonth d) :
    doDateSet date s = (s, refusal .badParam) := by
  obtain ⟨d, rfl, notGood⟩ := bad
  rw [← yymmValid_iff] at notGood
  exact if_neg notGood

theorem doDateSet_sets {date : Option Yymm} {s : State} (good : ∀ d, date = some d → GoodMonth d) :
    doDateSet date s = ({ s with su := { s.su with date := date } }, okWith []) :=
  if_pos ((Option.all_eq_true _ _).mpr fun d h => yymmValid_iff.mpr (good d h))

/-- A notice reports whether the site runs, as the statements write it. -/
theorem siteNotice_eq (s : State) :
    s.siteNotice = { halted := decide (s.ss.site ≠ SiteState.running), link := s.su.link } := by
  simp [State.siteNotice, bne, beq_eq_decide]

/-- Settles O44: a change of the link is the placing of a notice that carries the new state. -/
theorem linkAndDate : Obligations.LinkAndDate := by
  refine ⟨fun link s takes => ⟨?_, ?_, ?_⟩, fun date s takes => ⟨fun bad => ?_, fun good => ?_⟩⟩
  · rintro rfl
    exact exec_answers takes rfl rfl
  · rintro rfl
    exact exec_answers takes rfl (doLinkSet_inForce s)
  · rintro l rfl change
    rw [exec_answers takes rfl (doLinkSet_change change), placeSiteNotice, siteNotice_eq]
    rfl
  · exact exec_answers takes rfl (doDateSet_refused bad)
  · exact exec_answers takes rfl (doDateSet_sets good)

end Sys2Proof.Machine
end

section
/-! PROOFS. The nine screening checks before the link (R47 to R51): the first that refuses gives the reply. -/

namespace Sys2Proof.Machine

/-- The screening answers as this list of checks says, read from its head: the result of the first check that refuses.
It says nothing where none refuses. -/
def AnswersFirst : List (Prop × ReplyResult) → Screened → Prop
  | [], _ => True
  | check :: rest, answer => (check.1 → answer = .refused check.2) ∧ (¬ check.1 → AnswersFirst rest answer)

/-- One check of the list, which the model writes as a test with its result. -/
theorem answersFirst_cons {refuses : Prop} {result : ReplyResult} {rest : List (Prop × ReplyResult)} {test : Prop}
    [Decidable test] {next : Screened} (tests : test ↔ refuses) (later : AnswersFirst rest next) :
    AnswersFirst ((refuses, result) :: rest) (if test then .refused result else next) :=
  ⟨fun h => if_pos (tests.mpr h), fun h => (if_neg (tests.not.mpr h)).symm ▸ later⟩

/-- The check that refuses while those before it pass gives the answer. -/
theorem AnswersFirst.refused {answer : Screened} {refuses : Prop} {result : ReplyResult}
    {after : List (Prop × ReplyResult)} (h : refuses) :
    ∀ {before : List (Prop × ReplyResult)}, AnswersFirst (before ++ (refuses, result) :: after) answer →
      (∀ c ∈ before, ¬ c.1) → answer = .refused result
  | [], answers, _ => answers.1 h
  | c :: _, answers, pass =>
    AnswersFirst.refused h (answers.2 (pass c List.mem_cons_self)) fun d hd => pass d (List.mem_cons_of_mem c hd)

section Checks

variable {lane : Fin 8} {r : AuthRequest} {s : State} {p : Program}

theorem promptMissing_iff (covers : s.programFor r.pan = some p) :
    (!promptsMet p.prompts r.prompts) = true ↔
      ∃ p k, s.programFor r.pan = some p ∧ p.prompts.getLsbD (promptBit k) = true ∧ ∀ q ∈ r.prompts, q.kind ≠ some k := by
  rw [Bool.not_eq_true', ← Bool.not_eq_true, promptsMet_iff]
  simp [covers]

theorem noProduct_iff (covers : s.programFor r.pan = some p) :
    (productSet s lane p r.lines).isEmpty = true ↔
      ∃ p, s.programFor r.pan = some p ∧ ∀ l, ¬ InProducts s lane p r.lines l := by
  simp [covers, List.isEmpty_iff, List.eq_nil_iff_forall_not_mem, mem_productSet]

theorem screenCard_uncovered (uncovered : s.programFor r.pan = none) :
    screenCard lane r s =
      if s.su.denied.contains r.pan then .refused .deniedCard else .refused .unknownProgram := by
  simp only [screenCard, coveringProgram_eq, uncovered]

theorem screenCard_covered (covers : s.programFor r.pan = some p) :
    screenCard lane r s =
      if s.su.denied.contains r.pan then .refused .deniedCard
      else if cardExpired s r.expiry then .refused .expired
      else if !promptsMet p.prompts r.prompts then .refused .promptMissing
      else if (productSet s lane p r.lines).isEmpty then .refused .noProduct
      else .passed p (productSet s lane p r.lines) := by
  simp only [screenCard, coveringProgram_eq, covers]

theorem screenCard_answersFirst (lane : Fin 8) (r : AuthRequest) (s : State) :
    AnswersFirst ((refusals s lane r).drop 4) (screenCard lane r s) := by
  cases program : s.programFor r.pan with
  | none =>
    rw [screenCard_uncovered program]
    exact answersFirst_cons List.contains_iff_mem ⟨fun _ => rfl, fun covered => absurd program covered⟩
  | some p =>
    rw [screenCard_covered program]
    have covered : s.programFor r.pan ≠ none := by simp [program]
    exact answersFirst_cons List.contains_iff_mem ⟨fun uncovered => absurd uncovered covered, fun _ =>
      answersFirst_cons cardExpired_iff (answersFirst_cons (promptMissing_iff program)
        (answersFirst_cons (noProduct_iff program) trivial))⟩

/-- The screening of R47 goes through the nine checks in their order. -/
theorem screen_answersFirst (lane : Fin 8) (r : AuthRequest) (s : State) :
    AnswersFirst (refusals s lane r) (screen lane r s) := by
  have format : (!requestValid r) = true ↔ ¬ GoodRequest r := by
    rw [Bool.not_eq_true', ← Bool.not_eq_true, requestValid_iff]
  have noSlot : s.freeSlot.isNone = true ↔ ∀ i, s.grantAt i ≠ none := Option.isNone_iff_eq_none.trans freeSlot_eq_none
  exact answersFirst_cons format (answersFirst_cons Iff.rfl (answersFirst_cons laneBusy_iff
    (answersFirst_cons noSlot (screenCard_answersFirst lane r s))))

theorem doAuthRequest_refused {result : ReplyResult} (h : screen lane r s = .refused result) :
    doAuthRequest lane (some r) s = (s, { result := result, tag := 0, caps := [] }) := by
  simp only [doAuthRequest, h, refusedReply]

end Checks

/-- Settles O49: no check reads the host interface, which alone may differ where the lane's row is taken. -/
theorem screeningRefusesInOrder : Obligations.ScreeningRefusesInOrder := by
  refine fun lane s s₁ => ⟨fun taken => exec_auth taken rfl, fun r before after refuses result taken checks pass h => ?_⟩
  have same : refusals s₁ lane r = refusals s lane r := by rw [taken.eq]; rfl
  have screened : screen lane r s₁ = .refused result :=
    AnswersFirst.refused h (checks ▸ same ▸ screen_answersFirst lane r s₁) pass
  exact exec_auth taken (doAuthRequest_refused screened)

end Sys2Proof.Machine
end

section
/-! PROOFS. What a step can do to the field: the points with their valves, the lines with their pumps and the site state.
Whatever the row, it is a run of a few elementary moves, so that a law of the field need be checked against these alone. -/

namespace Sys2Proof.Machine

/-- One elementary change of the field. What the Grant Manager and the other blocks do at the same time is left free. -/
inductive FieldMove (s : State) : State → Prop where
  /-- Something apart from the field. -/
  | aside {t : State} (points : t.points = s.points) (lines : t.lines = s.lines) (site : t.ss.site = s.ss.site) :
      FieldMove s t
  /-- A point is attached or detached (R68, R84). -/
  | tag (p : Fin 32) (tag : Option Nat) : FieldMove s (s.setPoint p { s.point p with tag := tag })
  /-- A point is eased: it may open from PRIMING, close, or leave the sale, but it does not come to prime. -/
  | point {p : Fin 32} {x : Point} (eases : (s.point p).Eases x)
      (config : x.state.isOpenOrPriming = true → x.config = (s.point p).config) : FieldMove s (s.setPoint p x)
  /-- A lifted point primes and asks for its pump, on the conditions of a lift (R70, R71). -/
  | prime {p : Fin 32} {c : PointConfig} (config : (s.point p).config = some c) (lifted : (s.point p).state = .lifted)
      (conditions : s.liftConditions p = true) :
      FieldMove s (requestPump p c.line (s.setPoint p { s.point p with state := .priming })).1
  /-- A point withdraws its pump request (R96). -/
  | withdraw (p : Fin 32) : FieldMove s (withdrawOwn p s)
  /-- A pump's start delay is met (R95). -/
  | delayMet {l : Fin 4} {k : Nat} (runs : (s.line l).startTimer = .running k) :
      FieldMove s (s.setLine l { s.line l with delayMet := true, startTimer := .stopped })
  /-- A pump has run on (R96). -/
  | ranOn {l : Fin 4} {k : Nat} (runs : (s.line l).runOnTimer = .running k) :
      FieldMove s (s.setLine l { s.line l with pump := .off, delayMet := false, runOnTimer := .stopped })
  /-- A line's timers count a period. -/
  | count (l : Fin 4) : FieldMove s (tickLine s l)
  /-- A line is priced (R90). -/
  | price (l : Fin 4) (n : Nat) : FieldMove s (s.setLine l { s.line l with price := n })
  /-- A line comes back from lockout (R151). -/
  | restore {l : Fin 4} (locked : (s.line l).state = .lockedOut) :
      FieldMove s
        (s.setLine l { s.line l with state := if (s.line l).config.isSome then .available else .unconfigured })
  /-- A line's configuration is erased and its pump stopped (R89). -/
  | erase (l : Fin 4) :
      FieldMove s (forcedStop l (s.setLine l { s.line l with config := none, state := .unconfigured }))
  /-- A line is configured (R89). -/
  | configure (l : Fin 4) (c : LineConfig) :
      FieldMove s (s.setLine l { s.line l with config := some c, state := .available })
  /-- A line is locked out: its points are closed and its pump stopped (R98). -/
  | lockOut (l : Fin 4) : FieldMove s (lineLockedOut l s)
  /-- The site halts: every point is closed and every pump stopped (R154). -/
  | halt : FieldMove s (stopForecourt s)
  /-- The halt is complete (R157). -/
  | halted (halting : s.ss.site = .halting) : FieldMove s { s with ss := { s.ss with site := .halted } }
  /-- The site runs again (R160). -/
  | resume (halted : s.ss.site = .halted) : FieldMove s { s with ss := { s.ss with site := .running } }
  /-- The part is reset. -/
  | reset : FieldMove s (resetPart s)

/-- A run of elementary changes. -/
abbrev FieldRun : State → State → Prop := Relation.ReflTransGen FieldMove

theorem fieldRun_aside {s t : State} (points : t.points = s.points := by simp) (lines : t.lines = s.lines := by simp)
    (site : t.ss.site = s.ss.site := by simp) : FieldRun s t :=
  .single (.aside points lines site)

theorem SameForecourt.fieldRun {s t : State} (h : SameForecourt s t) : FieldRun s t :=
  fieldRun_aside h.points h.lines h.site

theorem fieldRun_foldl {α : Type} {f : State → α → State} (each : ∀ s x, FieldRun s (f s x)) (xs : List α) (s : State) :
    FieldRun s (xs.foldl f s) :=
  foldl_keeps (P := FieldRun s) (fun t x h => h.trans (each t x)) xs s .refl

theorem fieldRun_if {c : Prop} [Decidable c] {s t u : State} (yes : FieldRun s t) (no : FieldRun s u) :
    FieldRun s (if c then t else u) := by
  split
  · exact yes
  · exact no

/-- A law that every elementary change keeps is kept by a run of them. -/
theorem FieldRun.keeps {P : State → Prop} (each : ∀ s t, FieldMove s t → P s → P t) {s t : State} (run : FieldRun s t)
    (law : P s) : P t := by
  induction run with
  | refl => exact law
  | tail _ move ih => exact each _ _ move ih

theorem fieldRun_modGrant (s : State) (i : Fin 24) (f : Grant → Grant) : FieldRun s (s.modGrant i f) := fieldRun_aside

theorem fieldRun_setSlot (s : State) (i : Fin 24) (x : Option Grant) : FieldRun s (s.setSlot i x) := fieldRun_aside

/-- A point changes in nothing that bears on its valve. -/
theorem fieldRun_setPoint_same {s : State} {p : Fin 32} {x : Point} (tag : x.tag = (s.point p).tag := by rfl)
    (config : x.config = (s.point p).config := by rfl) (state : x.state = (s.point p).state := by rfl)
    (nozzle : x.nozzle = (s.point p).nozzle := by rfl) (stage : x.stageDuty = (s.point p).stageDuty := by rfl)
    (duty : x.dutyInForce = (s.point p).dutyInForce := by rfl) : FieldRun s (s.setPoint p x) :=
  .single (.point (.of_same tag config state nozzle stage duty) fun _ => config)

/-! ### Close and slow orders -/

theorem fieldRun_withdrawOwn (p : Fin 32) (s : State) : FieldRun s (withdrawOwn p s) := .single (.withdraw p)

theorem fieldRun_closeOrder (p : Fin 32) (s : State) : FieldRun s (closeOrder p s) := by
  unfold closeOrder
  split
  · next busy => exact .head (.point (.settlingFrom _ busy) fun _ => rfl) (fieldRun_withdrawOwn p _)
  · exact .refl

theorem fieldRun_closeOrders (ps : List (Fin 32)) (s : State) : FieldRun s (closeOrders ps s) :=
  fieldRun_foldl (fun s p => fieldRun_closeOrder p s) ps s

/-- A FLOWING point that goes to SLOWING is eased (R75). -/
theorem Point.Eases.slowed {x : Point} (flowing : x.state = .flowing) (duty : Nat) :
    x.Eases { x.withStage duty with state := .slowing } where
  tag := rfl
  config _ := rfl
  duties _ h := absurd h (by simp [PointState.isOpen])
  lifted _ h := absurd h (by simp)
  busy _ := ⟨by rw [flowing]; rfl, id⟩
  settling h := absurd h (by simp)

theorem fieldRun_slowOrder (p : Fin 32) (s : State) : FieldRun s (slowOrder p s) := by
  unfold slowOrder
  split
  · next flowing _ => exact .single (.point (.slowed flowing _) fun _ => rfl)
  · exact .refl

theorem fieldRun_slowOrders (ps : List (Fin 32)) (s : State) : FieldRun s (slowOrders ps s) :=
  fieldRun_foldl (fun s p => fieldRun_slowOrder p s) ps s

/-! ### Priming, opening and attachment -/

theorem fieldRun_pumpReady (p : Fin 32) (s : State) : FieldRun s (pumpReady p s) := by
  unfold pumpReady
  split
  · next primes _ _ _ =>
    refine .head (.point (.opened (by rw [primes]; rfl) _ _ _ _ _) fun _ => ?_) (fieldRun_modGrant ..)
    unfold Point.opened
    split <;> rfl
  · exact .refl

theorem fieldRun_enterPriming {p : Fin 32} {s : State} (lifted : (s.point p).state = .lifted)
    (conditions : s.liftConditions p = true) : FieldRun s (enterPriming p s) := by
  unfold enterPriming
  split
  · next c config =>
    have primed : FieldRun s _ := .single (.prime config lifted conditions)
    exact fieldRun_if (primed.trans (fieldRun_pumpReady p _)) primed
  · exact .refl

theorem fieldRun_detachAll (ps : List (Fin 32)) (s : State) : FieldRun s (detachAll ps s) :=
  fieldRun_foldl (f := fun s p => detach p s) (fun _ p => .single (.tag p none)) ps s

theorem fieldRun_attachAll (tag : Nat) (ps : List (Fin 32)) (s : State) : FieldRun s (attachAll tag ps s) :=
  fieldRun_foldl (f := fun s p => s.setPoint p { s.point p with tag := some tag })
    (fun _ p => .single (.tag p (some tag))) ps s

/-! ### Settlement and closing -/

theorem fieldRun_queueNotice (n : Fin 8) (x : Notice) (s : State) : FieldRun s (queueNotice n x s) := fieldRun_aside

theorem fieldRun_handAmount (g : Grant) (s : State) : FieldRun s (handAmount g s) := fieldRun_aside

theorem fieldRun_settleCore (i : Fin 24) (s : State) : FieldRun s (settleCore i s) := by
  unfold settleCore
  split
  · refine fieldRun_if .refl (.trans (.trans (.trans ?_ (fieldRun_detachAll ..)) (fieldRun_queueNotice ..))
      (fieldRun_handAmount ..))
    exact fieldRun_aside
  · exact .refl

theorem fieldRun_haltTest (s : State) : FieldRun s (haltTest s) := by
  unfold haltTest
  split
  · next due => exact .head (.halted due.1) (fieldRun_aside rfl rfl rfl)
  · exact .refl

theorem fieldRun_settle (i : Fin 24) (s : State) : FieldRun s (settle i s) :=
  (fieldRun_settleCore i s).trans (fieldRun_haltTest _)

theorem fieldRun_completionTest (i : Fin 24) (s : State) : FieldRun s (completionTest i s) :=
  fieldRun_if (fieldRun_settle i s) .refl

theorem fieldRun_enterClosingCore (i : Fin 24) (r : EndReason) (s : State) : FieldRun s (enterClosingCore i r s) := by
  unfold enterClosingCore
  split
  · exact (fieldRun_setSlot ..).trans (fieldRun_closeOrders ..)
  · exact .refl

theorem fieldRun_enterClosing (i : Fin 24) (r : EndReason) (s : State) : FieldRun s (enterClosing i r s) :=
  (fieldRun_enterClosingCore i r s).trans (fieldRun_completionTest i _)

theorem fieldRun_endNow (i : Fin 24) (r : EndReason) (s : State) : FieldRun s (endNow i r s) :=
  (fieldRun_modGrant ..).trans (fieldRun_settle ..)

theorem fieldRun_enterHeld (i : Fin 24) (s : State) : FieldRun s (enterHeld i s) := by
  unfold enterHeld
  split
  · exact (fieldRun_setSlot ..).trans (fieldRun_closeOrders ..)
  · exact .refl

/-! ### Timers and reports -/

theorem fieldRun_startWaitTimer (i : Fin 24) (s : State) : FieldRun s (startWaitTimer i s) := fieldRun_aside

theorem fieldRun_leaveGrant (p : Fin 32) (s : State) : FieldRun s (leaveGrant p s) := by
  have detached : FieldRun s (detach p s) := .single (.tag p none)
  unfold leaveGrant
  split
  · refine detached.trans ?_
    unfold removePoint
    split
    · dsimp only
      split
      · exact fieldRun_if (fieldRun_setSlot ..) ((fieldRun_setSlot ..).trans (fieldRun_startWaitTimer ..))
      · exact (fieldRun_setSlot ..).trans (fieldRun_completionTest ..)
      all_goals exact fieldRun_setSlot ..
    · exact .refl
  · exact detached

/-- A lift reported with the conditions met admits a point that is LIFTED and meets them. -/
theorem fieldRun_liftReport {p : Fin 32} {conditions : Bool} {s : State} (i : Fin 24)
    (met : conditions = true → s.liftConditions p = true ∧ (s.point p).state = .lifted) :
    FieldRun s (liftReport i p conditions s) := by
  have enters : ∀ g : Grant, (conditions && s.drawsOnOpen g p) = true → ∀ g' : Grant,
      FieldRun s (enterPriming p (s.setSlot i (some g'))) := by
    intro g admitted g'
    obtain ⟨conditions, lifted⟩ := met (Bool.and_eq_true_iff.mp admitted).1
    exact (fieldRun_setSlot ..).trans (fieldRun_enterPriming lifted conditions)
  unfold liftReport
  split
  · next g _ =>
    split
    · split
      · next admitted => exact enters g admitted _
      · exact .refl
    · split
      · next admitted => exact enters g admitted _
      · exact fieldRun_setSlot ..
    all_goals exact .refl
  · exact .refl

theorem fieldRun_reportLift {p : Fin 32} {conditions : Bool} {s : State}
    (met : conditions = true → s.liftConditions p = true ∧ (s.point p).state = .lifted) :
    FieldRun s (reportLift p conditions s) := by
  unfold reportLift
  split
  · exact fieldRun_liftReport _ met
  · exact .refl

theorem fieldRun_reportHangUp (p : Fin 32) (s : State) : FieldRun s (reportHangUp p s) := by
  unfold reportHangUp
  split
  · exact fieldRun_startWaitTimer ..
  · exact .refl

theorem fieldRun_reportExit (p : Fin 32) (s : State) : FieldRun s (reportExit p s) := by
  unfold reportExit
  split
  · exact fieldRun_completionTest ..
  · exact .refl

/-! ### Arming and creation -/

theorem fieldRun_leavePending (i : Fin 24) (s : State) : FieldRun s (leavePending i s) := fieldRun_aside

theorem fieldRun_armingEnd (i : Fin 24) (s : State) : FieldRun s (armingEnd i s) := by
  unfold armingEnd
  split
  · refine fieldRun_if (fieldRun_endNow ..) (fieldRun_if (fieldRun_endNow ..) ?_)
    exact fieldRun_if (fieldRun_setSlot ..) ((fieldRun_setSlot ..).trans (fieldRun_queueNotice ..))
  · exact .refl

theorem fieldRun_arm (i : Fin 24) (s : State) : FieldRun s (arm i s) := by
  unfold arm
  split
  · exact ((fieldRun_setSlot ..).trans (fieldRun_attachAll ..)).trans (fieldRun_armingEnd ..)
  · exact .refl

theorem fieldRun_createIn (i : Fin 24) (g : Grant) (s : State) : FieldRun s (createIn i g s) := fieldRun_aside rfl rfl rfl

end Sys2Proof.Machine
end

section
/-! PROOFS. The runs of the nozzles, the points and the lines. -/

namespace Sys2Proof.Machine

/-! ### Nozzles -/

theorem fieldRun_setNozzlePin (p : Fin 32) (level : Bool) (s : State) : FieldRun s (setNozzlePin p level s) :=
  fieldRun_aside rfl rfl rfl

/-- A point whose nozzle level is taken and that is eased in the same moment. -/
theorem fieldRun_hungUp {p : Fin 32} {x : Point} {s : State} (level : Bool) (eases : (s.point p).Eases x)
    (config : x.config = (s.point p).config) : FieldRun s ((setNozzle p level s).setPoint p x) := by
  have both : (setNozzle p level s).setPoint p x = (setNozzlePin p level s).setPoint p x := setPoint_setPoint ..
  rw [both]
  exact (fieldRun_setNozzlePin ..).trans (.single (.point (s := setNozzlePin p level s) eases fun _ => config))

theorem fieldRun_setNozzle_up (p : Fin 32) (s : State) : FieldRun s (setNozzle p true s) := by
  rw [setNozzle_eq_setPoint]
  exact fieldRun_hungUp true ⟨rfl, fun _ => rfl, id, fun _ _ => rfl, fun h => ⟨h, fun _ => rfl⟩, .inl⟩ rfl

theorem fieldRun_nozzleLift (p : Fin 32) (s : State) : FieldRun s (nozzleLift p s) := by
  unfold nozzleLift
  refine fieldRun_if (fieldRun_setNozzlePin ..) (fieldRun_if .refl ((fieldRun_setNozzle_up p s).trans ?_))
  have up : ((setNozzle p true s).point p).nozzle = true := by rw [setNozzle_point, if_pos rfl]
  unfold liftFollowed
  split
  · next idle =>
    have lifted : FieldRun (setNozzle p true s)
        ((setNozzle p true s).setPoint p { (setNozzle p true s).point p with state := .lifted }) := by
      refine .single (.point (.of_quiet rfl (fun _ => rfl) rfl ?_ fun _ => up) fun _ => rfl)
      rw [idle]
      exact fun duties => duties rfl
    exact lifted.trans (fieldRun_reportLift fun met => ⟨met, by rw [setPoint_point, if_pos rfl]⟩)
  · exact fieldRun_reportLift (by simp)
  all_goals exact .refl

theorem fieldRun_nozzleHangUp (p : Fin 32) (s : State) : FieldRun s (nozzleHangUp p s) := by
  have x : (setNozzle p false s).point p = { s.point p with nozzle := false } := by rw [setNozzle_point, if_pos rfl]
  have down : (s.point p).state.isOpenOrPriming = false → (s.point p).state ≠ .lifted →
      FieldRun s (setNozzle p false s) := by
    intro closed lowered
    rw [setNozzle_eq_setPoint]
    refine fieldRun_hungUp false ⟨rfl, fun _ => rfl, id, fun _ h => absurd h lowered, fun h => ?_, .inl⟩ rfl
    exact absurd (closed.symm.trans h) (by simp)
  have idled : (s.point p).state.isOpen = false →
      FieldRun s ((setNozzle p false s).setPoint p { (setNozzle p false s).point p with state := .idle }) := by
    intro closed
    rw [x]
    exact fieldRun_hungUp false (.of_quiet rfl (fun _ => rfl) rfl (fun duties => duties closed) (by simp)) rfl
  have closes : (s.point p).state.isOpenOrPriming = true → FieldRun s (closeValve p (setNozzle p false s)) := by
    intro busy
    unfold closeValve
    rw [x]
    have settles : (s.point p).Eases (({ s.point p with nozzle := false } : Point).settlingFrom s.cp.timers.settle) := by
      obtain ⟨tag, config, duties, _, _, _⟩ := Point.Eases.settlingFrom s.cp.timers.settle busy
      exact ⟨tag, config, duties, fun _ h => absurd h (by simp), fun h => absurd h (by simp), fun _ => .inr busy⟩
    exact (fieldRun_hungUp false settles rfl).trans (fieldRun_withdrawOwn p _)
  unfold nozzleHangUp
  refine fieldRun_if (fieldRun_setNozzlePin ..) (fieldRun_if ?_ .refl)
  unfold hangUpFollowed
  rw [show ((setNozzle p false s).point p).state = (s.point p).state by rw [x]]
  split
  · next h =>
    exact (((idled (by rw [h]; rfl)).trans (fieldRun_withdrawOwn p _)).trans (fieldRun_reportHangUp p _)).trans
      (fieldRun_reportExit p _)
  · next h => exact (idled (by rw [h]; rfl)).trans (fieldRun_reportHangUp p _)
  · next h => exact (closes (by rw [h]; rfl)).trans (fieldRun_reportHangUp p _)
  · next h => exact (closes (by rw [h]; rfl)).trans (fieldRun_reportHangUp p _)
  · next h => exact (down (by rw [h]; rfl) (by simp [h])).trans (fieldRun_reportHangUp p _)
  all_goals next h => exact down (by rw [h]; rfl) (by simp [h])

theorem fieldRun_noFlowExpiry (p : Fin 32) (s : State) : FieldRun s (noFlowExpiry p s) := by
  have stopped : FieldRun s (s.setPoint p { s.point p with noFlow := .stopped }) := fieldRun_setPoint_same
  unfold noFlowExpiry
  refine fieldRun_if ?_ .refl
  dsimp only
  split
  · exact fieldRun_if (stopped.trans (fieldRun_enterClosing ..)) stopped
  · exact stopped

/-! ### Points -/

theorem fieldRun_pulserStep (p : Fin 32) (phase : Fin 4) (s : State) : FieldRun s (pulserStep p phase s) := by
  unfold pulserStep
  split
  · exact fieldRun_aside rfl rfl rfl
  · refine .head (.point (stepped_eases (s.point p) phase) fun _ => ?_) (fieldRun_aside rfl rfl rfl)
    unfold Point.stepped
    repeat' split
    all_goals rfl

theorem fieldRun_dutyTakesForce (p : Fin 32) (s : State) : FieldRun s (dutyTakesForce p s) := by
  refine .single (.point ⟨rfl, fun _ => rfl, fun duties closed => ?_, id, fun h => ⟨h, id⟩, .inl⟩ fun _ => rfl)
  exact ⟨(duties closed).1, (duties closed).1⟩

/-- POINT_SET changes nothing, or a point that is attached to no grant and is IDLE or DISABLED (R63). -/
theorem doPointSet_cases (n : Nat) (arg : PointArg) (s : State) :
    (doPointSet n arg s).1 = s
      ∨ ∃ p x, (s.point p).settable = true ∧ (doPointSet n arg s).1 = s.setPoint p x := by
  unfold doPointSet
  split
  · exact .inl rfl
  · exact .inl rfl
  · split
    · exact .inr ⟨_, _, ‹_›, rfl⟩
    · exact .inl rfl
  · split
    · exact .inl rfl
    split
    · exact .inr ⟨_, _, ‹_›, rfl⟩
    · exact .inl rfl

theorem settable_iff (x : Point) : x.settable = true ↔ x.tag = none ∧ (x.state = .idle ∨ x.state = .disabled) := by
  simp [Point.settable]

theorem fieldRun_doPointSet (n : Nat) (arg : PointArg) (s : State) : FieldRun s (doPointSet n arg s).1 := by
  rcases doPointSet_cases n arg s with same | ⟨p, x, settable, set⟩
  · rw [same]
  · have eases := (eases_doPointSet n arg s).points p
    rw [set] at eases ⊢
    rw [setPoint_point, if_pos rfl] at eases
    refine .single (.point eases fun busy => absurd (eases.busy busy).1 ?_)
    rcases ((settable_iff _).mp settable).2 with h | h <;> rw [h] <;> simp [PointState.isOpenOrPriming]

theorem fieldRun_doPointEnable (n : Nat) (s : State) : FieldRun s (doPointEnable n s).1 := by
  unfold doPointEnable
  split
  · exact .refl
  split
  · exact .refl
  next out =>
  split
  · exact .refl
  split
  · exact .refl
  · refine .single (.point (.of_quiet rfl (fun _ => rfl) rfl (fun duties => duties ?_) (by simp)) fun _ => rfl)
    rw [not_not.mp out]
    rfl

theorem fieldRun_startExpiry (l : Fin 4) (s : State) : FieldRun s (startExpiry l s) := by
  unfold startExpiry
  split
  · next runs =>
    obtain ⟨k, running⟩ := (mayExpire_iff _).mp runs
    exact .head (.delayMet running) (fieldRun_foldl (fun s p => fieldRun_pumpReady p s) _ _)
  · exact .refl

/-! ### Lines -/

theorem fieldRun_runOnExpiry (l : Fin 4) (s : State) : FieldRun s (runOnExpiry l s) := by
  unfold runOnExpiry
  split
  · next runs =>
    obtain ⟨k, running⟩ := (mayExpire_iff _).mp runs
    exact .single (.ranOn running)
  · exact .refl

theorem fieldRun_doPriceSet (n price : Nat) (s : State) : FieldRun s (doPriceSet n price s).1 := by
  unfold doPriceSet
  split
  · exact .refl
  split
  · exact .single (.price ..)
  · exact .refl

theorem fieldRun_doLineRestore (n : Nat) (s : State) : FieldRun s (doLineRestore n s).1 := by
  unfold doLineRestore
  split
  · exact .refl
  split
  · exact .single (.restore ‹_›)
  · exact .refl

theorem fieldRun_doLineSet (n : Nat) (arg : LineArg) (s : State) : FieldRun s (doLineSet n arg s).1 := by
  unfold doLineSet
  split
  · exact .refl
  · exact .refl
  · split
    · exact .refl
    · exact .head (.erase _) (changeRotation_sameForecourt ..).fieldRun
  · split
    · exact .refl
    split
    · exact .refl
    · exact .head (.configure ..) (changeRotation_sameForecourt ..).fieldRun

/-! ### The site -/

theorem fieldRun_haltGrant (i : Fin 24) (s : State) : FieldRun s (haltGrant i s) := by
  have settles := (fieldRun_modGrant s i (·.recordOutcome .halt)).trans (fieldRun_settleCore i _)
  have closing := fieldRun_enterClosingCore i .halt s
  have closes := fun c [Decidable c] => fieldRun_if (c := c) (closing.trans (fieldRun_settleCore i _)) closing
  unfold haltGrant
  split
  · split
    · exact settles
    · exact settles
    · exact closes _
    · exact closes _
    all_goals exact .refl
  · exact .refl

theorem fieldRun_placeSiteNotice (s : State) : FieldRun s (placeSiteNotice s) := fieldRun_aside rfl rfl rfl

theorem fieldRun_enterHalting (s : State) : FieldRun s (enterHalting s) := by
  have stopped : FieldRun s (haltGrants (stopForecourt s)) :=
    .head .halt (fieldRun_foldl (fun s i => fieldRun_haltGrant i s) _ _)
  exact (stopped.trans (fieldRun_placeSiteNotice _)).trans (fieldRun_haltTest _)

theorem fieldRun_doSiteHalt (s : State) : FieldRun s (doSiteHalt s).1 := by
  unfold doSiteHalt
  split
  · dsimp only
    exact fieldRun_enterHalting s
  · exact .refl

theorem fieldRun_doSiteResume (s : State) : FieldRun s (doSiteResume s).1 := by
  unfold doSiteResume
  split
  · exact .refl
  · exact .refl
  · next halted =>
    split
    · exact .refl
    · exact .head (.resume halted) (fieldRun_placeSiteNotice _)

theorem fieldRun_estopAssert (s : State) : FieldRun s (estopAssert s) := by
  have set : FieldRun s (setEstop true s) := fieldRun_aside rfl rfl rfl
  exact fieldRun_if (set.trans (fieldRun_enterHalting _)) set

/-! ### The tick -/

theorem fieldRun_tick (s : State) : FieldRun s (tick s) := by
  have grants := fieldRun_foldl (f := fun s i => s.modGrant i (·.tick)) (fun s i => fieldRun_modGrant s i _) allSlots s
  have points := fieldRun_foldl (f := fun s p => s.setPoint p { s.point p with noFlow := (s.point p).noFlow.tick })
    (fun _ _ => fieldRun_setPoint_same) allPoints
  have lines := fieldRun_foldl (f := tickLine) (fun _ l => .single (.count l)) allLines
  refine Relation.ReflTransGen.tail (b := tickTimers s) ((grants.trans (points _)).trans (lines _)) ?_
  rw [tick]
  generalize tickTimers s = t
  exact .aside rfl rfl rfl

end Sys2Proof.Machine
end

section
/-! PROOFS. The runs of the grants' rows, of faults and of period ends; every step is a run of elementary moves. -/

namespace Sys2Proof.Machine

/-! ### The host commands and the timers of the grants -/

theorem fieldRun_doService (s : State) : FieldRun s (doService s).1 := by
  unfold doService
  split
  · exact .refl
  split
  · exact fieldRun_aside
  · exact fieldRun_aside

theorem fieldRun_doCollect (s : State) : FieldRun s (doCollect s).1 := by
  unfold doCollect
  split
  · exact .refl
  split
  · exact fieldRun_aside
  · exact fieldRun_aside

theorem fieldRun_approve (i : Fin 24) (es : List LimitEntry) (s : State) : FieldRun s (approve i es s) :=
  ((fieldRun_modGrant ..).trans (fieldRun_leavePending ..)).trans (fieldRun_arm ..)

theorem fieldRun_declineGrant (i : Fin 24) (code : Nat) (s : State) : FieldRun s (declineGrant i code s) := by
  unfold declineGrant
  split
  · exact .trans (.trans ((fieldRun_setSlot ..).trans (fieldRun_leavePending ..)) (fieldRun_queueNotice ..))
      (fieldRun_settle ..)
  · exact .refl

theorem fieldRun_doDecide (tag : Nat) (verdict : Verdict) (s : State) : FieldRun s (doDecide tag verdict s).1 := by
  unfold doDecide
  split
  · exact .refl
  split
  · exact .refl
  split
  · exact .refl
  split
  · exact .refl
  split
  · split
    · exact fieldRun_approve ..
    · exact .refl
  · exact fieldRun_declineGrant ..
  · exact .refl

theorem fieldRun_doOpenGrant (lane : Nat) (es : List LimitEntry) (s : State) : FieldRun s (doOpenGrant lane es s).1 := by
  unfold doOpenGrant
  split
  · exact .refl
  split
  · exact .refl
  split
  · exact .refl
  split
  · exact .refl
  split
  · exact .refl
  split
  · exact .refl
  · exact (fieldRun_createIn ..).trans (fieldRun_arm ..)

theorem fieldRun_doHold (tag : Nat) (s : State) : FieldRun s (doHold tag s).1 := by
  unfold doHold
  split
  · exact .refl
  split
  · exact fieldRun_enterHeld ..
  · exact .refl

theorem fieldRun_resumeReports (i : Fin 24) (ps : List (Fin 32)) (s : State) : FieldRun s (resumeReports i ps s) := by
  refine fieldRun_foldl
    (f := fun s p => if (s.point p).state = .lifted then liftReport i p (s.liftConditions p) s else s) (fun t p => ?_) ps s
  split
  · next lifted => exact fieldRun_liftReport i fun met => ⟨met, lifted⟩
  · exact .refl

theorem fieldRun_doResume (tag : Nat) (s : State) : FieldRun s (doResume tag s).1 := by
  unfold doResume
  split
  · exact .refl
  split
  · unfold resumeGrant
    split
    · exact ((fieldRun_setSlot ..).trans (fieldRun_resumeReports ..)).trans (fieldRun_startWaitTimer ..)
    · exact .refl
  · exact .refl

theorem fieldRun_doStop (tag : Nat) (s : State) : FieldRun s (doStop tag s).1 := by
  unfold doStop
  split
  · exact .refl
  split
  · exact fieldRun_endNow ..
  · exact fieldRun_endNow ..
  · exact fieldRun_enterClosing ..
  · exact fieldRun_enterClosing ..
  all_goals exact .refl

theorem fieldRun_doCancel (lane : Fin 8) (tag : Nat) (s : State) : FieldRun s (doCancel lane tag s).1 := by
  unfold doCancel
  split
  · exact .refl
  split
  · exact .refl
  split
  · exact .refl
  split
  · exact fieldRun_endNow ..
  · exact fieldRun_endNow ..
  · exact fieldRun_enterClosing ..
  · exact fieldRun_enterClosing ..
  all_goals exact .refl

theorem fieldRun_modSu (s : State) (f : ScreeningUnit → ScreeningUnit) : FieldRun s (s.modSu f) := fieldRun_aside

theorem fieldRun_decisionExpiry (tag : Nat) (s : State) : FieldRun s (decisionExpiry tag s) := by
  unfold decisionExpiry
  split
  · exact .refl
  next i _ =>
  split
  · exact .refl
  refine fieldRun_if .refl ?_
  have waiting := fieldRun_leavePending i s
  have ended := waiting.trans (fieldRun_endNow i .declinedTimeout _)
  dsimp only
  split
  · exact ended
  split
  · exact ended
  split
  · exact ((waiting.trans (fieldRun_modSu ..)).trans (fieldRun_modGrant ..)).trans (fieldRun_arm ..)
  · exact ended
  · exact (waiting.trans (fieldRun_aside (t := (leavePending i s).raiseTallyFull))).trans (fieldRun_endNow ..)

theorem fieldRun_liftExpiry (tag : Nat) (s : State) : FieldRun s (liftExpiry tag s) := by
  unfold liftExpiry
  split
  · exact .refl
  split
  · exact .refl
  refine fieldRun_if ?_ .refl
  split
  · exact fieldRun_endNow ..
  · exact fieldRun_enterClosing ..
  all_goals exact .refl

theorem fieldRun_idleEndExpiry (tag : Nat) (s : State) : FieldRun s (idleEndExpiry tag s) := by
  unfold idleEndExpiry
  split
  · exact .refl
  · exact fieldRun_if (fieldRun_enterClosing ..) .refl

theorem fieldRun_holdExpiry (tag : Nat) (s : State) : FieldRun s (holdExpiry tag s) := by
  unfold holdExpiry
  split
  · exact .refl
  · exact fieldRun_if (fieldRun_enterClosing ..) .refl

theorem fieldRun_doAuthRequest (lane : Fin 8) (request : Option AuthRequest) (s : State) :
    FieldRun s (doAuthRequest lane request s).1 := by
  unfold doAuthRequest
  split
  · exact .refl
  split
  · exact .refl
  unfold admitRequest
  split
  · exact .refl
  split
  · exact fieldRun_aside rfl rfl rfl
  split
  · exact ((fieldRun_modSu ..).trans (fieldRun_createIn ..)).trans (fieldRun_arm ..)
  · exact .refl
  · exact fieldRun_aside rfl rfl rfl

/-! ### Points out of service and line lockout -/

theorem fieldRun_raisePointFault (p : Fin 32) (s : State) : FieldRun s (s.raisePointFault p) := fieldRun_aside

theorem fieldRun_outOfService (p : Fin 32) (s : State) : FieldRun s (outOfService p s) := by
  have takenOut : FieldRun s (s.setPoint p (s.point p).takenOut) := .single (.point (takenOut_eases _) fun _ => rfl)
  have left := (takenOut.trans (fieldRun_withdrawOwn p _)).trans (fieldRun_leaveGrant p _)
  exact (left.trans fieldRun_setPoint_same).trans (fieldRun_raisePointFault p _)

theorem fieldRun_exhaustLine (l : Fin 4) (slots : List (Fin 24)) (s : State) : FieldRun s (exhaustLine l slots s) :=
  fieldRun_foldl (f := fun s i => s.modGrant i (·.modAllowance l Allowance.exhaust)) (fun _ _ => fieldRun_modGrant ..)
    slots s

theorem fieldRun_lockoutGrant (i : Fin 24) (s : State) : FieldRun s (lockoutGrant i s) := by
  unfold lockoutGrant
  split
  · exact fieldRun_if (fieldRun_enterClosing ..) .refl
  · exact .refl

theorem fieldRun_lockout (l : Fin 4) (s : State) : FieldRun s (lockout l s) := by
  have counted : ∀ t : State, FieldRun t { t with draws := s.draws + 1 } := fun _ => fieldRun_aside rfl rfl rfl
  have raised : ∀ t : State, FieldRun t (t.raiseLineLockout l) := fun _ => fieldRun_aside rfl rfl rfl
  unfold lockout
  refine fieldRun_if .refl (.trans (.trans ?_ (fieldRun_foldl (fun s i => fieldRun_lockoutGrant i s) _ _)) (raised _))
  exact .head (.lockOut l) ((fieldRun_exhaustLine ..).trans (counted _))

/-! ### Creep and pulser faults -/

theorem fieldRun_unauthorizedFlow (p : Fin 32) (s : State) : FieldRun s (unauthorizedFlow p s) := by
  refine .trans ?_ (fieldRun_outOfService p _)
  split
  · exact fieldRun_if (fieldRun_enterClosing ..) .refl
  · exact .refl

theorem fieldRun_creepWatch (p : Fin 32) (c : PointConfig) (n : Int) (s : State) : FieldRun s (creepWatch p c n s) := by
  have restarted : ∀ k, FieldRun s (s.setPoint p { s.point p with creep := k }) := fun _ => fieldRun_setPoint_same
  unfold creepWatch
  split
  · exact (restarted 0).trans (fieldRun_if (fieldRun_lockout ..) (fieldRun_unauthorizedFlow ..))
  · exact restarted _

theorem fieldRun_faultHold (p : Fin 32) (s : State) : FieldRun s (faultHold p s) := by
  unfold faultHold
  split
  · exact (fieldRun_enterHeld ..).trans (fieldRun_raisePointFault ..)
  · exact .refl

theorem fieldRun_compoundFault (p : Fin 32) (s : State) : FieldRun s (compoundFault p s) := by
  refine .trans ?_ (fieldRun_outOfService p _)
  split
  · exact fieldRun_enterClosing ..
  · exact .refl

theorem fieldRun_pulserFault (p : Fin 32) (s : State) : FieldRun s (pulserFault p s) := by
  have delivering := fun c [Decidable c] => fieldRun_if (c := c) (fieldRun_faultHold p s) .refl
  have closed := fun c [Decidable c] => fieldRun_if (c := c) (fieldRun_compoundFault p s) (fieldRun_outOfService p s)
  unfold pulserFault
  split
  · exact .refl
  · exact .refl
  · exact delivering _
  · exact delivering _
  all_goals exact closed _

/-! ### Period ends -/

theorem fieldRun_exhaustionReport (i : Fin 24) (s : State) : FieldRun s (exhaustionReport i s) := by
  unfold exhaustionReport
  split
  · exact fieldRun_if (fieldRun_enterClosing ..) .refl
  · exact .refl

theorem fieldRun_exhaustAllowance (i : Fin 24) (l : Fin 4) (points : List (Fin 32)) (s : State) :
    FieldRun s (exhaustAllowance i l points s) :=
  ((fieldRun_modGrant ..).trans (fieldRun_closeOrders ..)).trans (fieldRun_exhaustionReport i _)

theorem fieldRun_evaluate (i : Fin 24) (l : Fin 4) (s : State) : FieldRun s (evaluate i l s) := by
  unfold evaluate
  split
  · split
    · exact fieldRun_if .refl
        (fieldRun_if (fieldRun_exhaustAllowance ..) (fieldRun_if (fieldRun_slowOrders ..) .refl))
    · exact .refl
  · exact .refl

theorem fieldRun_saleStep (p : Fin 32) (c : PointConfig) (n : Int) (s : State) : FieldRun s (saleStep p c n s) := by
  unfold saleStep
  split
  · exact (fieldRun_modGrant ..).trans (fieldRun_evaluate ..)
  · exact .refl

/-- The end of a settle window finds the valve closed, and only a LIFTED point is reported to be admitted (R81). -/
theorem fieldRun_windowEnd {p : Fin 32} {s : State} (shut : ShutAt p s) : FieldRun s (windowEnd p s) := by
  have left : ∀ state, state = .idle ∨ state = .lifted ∧ (s.point p).nozzle = true →
      FieldRun s (reportExit p (s.setPoint p { s.point p with state := state, settleLeft := 0, creep := 0 })) := by
    intro state free
    have eases : (s.point p).Eases { s.point p with state := state, settleLeft := 0, creep := 0 } := by
      refine .of_quiet rfl (fun _ => rfl) ?_ (fun duties => duties shut) ?_
      · rcases free with rfl | ⟨rfl, _⟩ <;> rfl
      · rcases free with rfl | ⟨rfl, down⟩
        · simp
        · exact fun _ => down
    exact .head (.point eases fun _ => rfl) (fieldRun_reportExit p _)
  unfold windowEnd
  dsimp only
  split
  · next down =>
    refine (left .lifted (.inr ⟨rfl, down⟩)).trans (fieldRun_reportLift fun met => ⟨met, ?_⟩)
    rw [reportExit_point_state, setPoint_point, if_pos rfl]
  · exact left .idle (.inl rfl)

theorem fieldRun_pointTimers {p : Fin 32} {was : PointState} {s : State} (n : Int)
    (shut : was = .settling → ShutAt p s) : FieldRun s (pointTimers p was n s) := by
  unfold pointTimers
  split
  · next settling => exact fieldRun_if (fieldRun_windowEnd (shut settling)) fieldRun_setPoint_same
  · exact fieldRun_if fieldRun_setPoint_same .refl

theorem fieldRun_periodEnd (p : Fin 32) (s : State) : FieldRun s (periodEnd p s) := by
  have latched : FieldRun s (s.setPoint p (s.point p).latched) := fieldRun_setPoint_same
  unfold periodEnd
  split
  · exact .refl
  · next c _ =>
    have sold := latched.trans (fieldRun_if (c := (s.point p).state.metersSale = true)
      (fieldRun_saleStep p c (s.point p).net _) .refl)
    have shut : (s.point p).state = .settling → ShutAt p (if (s.point p).state.metersSale = true then
        saleStep p c (s.point p).net (s.setPoint p (s.point p).latched) else s.setPoint p (s.point p).latched) := by
      intro settling
      have closed : ShutAt p (s.setPoint p (s.point p).latched) := by
        simp [ShutAt, Point.latched, settling, PointState.isOpen]
      split
      · exact shutAt_saleStep closed ..
      · exact closed
    have timed := sold.trans (fieldRun_pointTimers (s.point p).net shut)
    have watched := timed.trans (fieldRun_if (c := (s.point p).state.creepWatched = true)
      (fieldRun_creepWatch p c (s.point p).net _) .refl)
    exact fieldRun_if (watched.trans (fieldRun_pulserFault p _)) watched

/-! ### The step -/

theorem fieldRun_command {act : State → State × Response} (command : ForecourtCommand act) (s : State) :
    FieldRun s (act s).1 := by
  cases command with
  | service => exact fieldRun_doService s
  | decide tag verdict => exact fieldRun_doDecide tag verdict s
  | openGrant lane es => exact fieldRun_doOpenGrant lane es s
  | hold tag => exact fieldRun_doHold tag s
  | resume tag => exact fieldRun_doResume tag s
  | stop tag => exact fieldRun_doStop tag s
  | collect => exact fieldRun_doCollect s
  | pointSet n arg => exact fieldRun_doPointSet n arg s
  | pointEnable n => exact fieldRun_doPointEnable n s
  | lineSet n arg => exact fieldRun_doLineSet n arg s
  | priceSet n price => exact fieldRun_doPriceSet n price s
  | lineRestore n => exact fieldRun_doLineRestore n s
  | siteHalt => exact fieldRun_doSiteHalt s
  | siteResume => exact fieldRun_doSiteResume s

theorem ForecourtStep.fieldRun {s t : State} (h : ForecourtStep s t) : FieldRun s t := by
  cases h with
  | same same => exact same.fieldRun
  | command command after => exact (fieldRun_command command s).trans after.fieldRun
  | auth before after => exact (before.fieldRun.trans (fieldRun_doAuthRequest ..)).trans after.fieldRun
  | cancel before after => exact (before.fieldRun.trans (fieldRun_doCancel ..)).trans after.fieldRun
  | reset => exact .single .reset
  | lift p => exact fieldRun_nozzleLift p s
  | hangUp p => exact fieldRun_nozzleHangUp p s
  | pulser p phase => exact fieldRun_pulserStep p phase s
  | estopAssertion => exact fieldRun_estopAssert s
  | periodEnd p => exact fieldRun_periodEnd p s
  | decisionTimer tag => exact fieldRun_decisionExpiry tag s
  | liftTimer tag => exact fieldRun_liftExpiry tag s
  | idleEndTimer tag => exact fieldRun_idleEndExpiry tag s
  | holdTimer tag => exact fieldRun_holdExpiry tag s
  | noFlowTimer p => exact fieldRun_noFlowExpiry p s
  | startTimer l => exact fieldRun_startExpiry l s
  | runOnTimer l => exact fieldRun_runOnExpiry l s
  | duty p => exact fieldRun_dutyTakesForce p s
  | tick => exact fieldRun_tick s

/-- Every step moves the field by a run of elementary moves. -/
theorem step_fieldRun {s t : State} (h : step s = .next t) : FieldRun s t := by
  obtain ⟨s₀, same, row⟩ := step_forecourtStep h
  exact same.fieldRun.trans row.fieldRun

end Sys2Proof.Machine
end

section
/-! PROOFS. The valve law (R71, R82, R83, R98, R154): each elementary move of the field keeps it, and so every step. -/

namespace Sys2Proof.Machine

/-- What the valve law asks of one point. -/
def Point.Valved (s : State) (x : Point) : Prop :=
  (x.state.isOpen = false → x.stageDuty = 0 ∧ x.dutyInForce = 0)
    ∧ (x.state.isOpenOrPriming = true →
      x.nozzle = true ∧ s.ss.site = .running ∧ ∃ c, x.config = some c ∧ (s.line c.line).state ≠ .lockedOut)
    ∧ (x.state = .lifted → x.nozzle = true)

theorem valveLaw_iff {s : State} : ValveLaw s ↔ ∀ p, (s.point p).Valved s := Iff.rfl

/-- A point that is eased keeps the law where its site goes on and its line is not newly locked out. -/
theorem Point.Valved.eases {s t : State} {x y : Point} (h : x.Valved s) (eases : x.Eases y)
    (config : y.state.isOpenOrPriming = true → y.config = x.config)
    (site : y.state.isOpenOrPriming = true → s.ss.site = .running → t.ss.site = .running)
    (lines : ∀ c, y.state.isOpenOrPriming = true → y.config = some c →
      (s.line c.line).state ≠ .lockedOut → (t.line c.line).state ≠ .lockedOut) : y.Valved t := by
  obtain ⟨duties, busy, lifted⟩ := h
  refine ⟨eases.duties duties, fun now => ?_, eases.lifted lifted⟩
  obtain ⟨before, nozzle⟩ := eases.busy now
  obtain ⟨down, running, c, configured, unlocked⟩ := busy before
  have configured := (config now).trans configured
  exact ⟨nozzle down, site now running, c, configured, lines c now configured unlocked⟩

/-- States whose points keep their configurations and are eased, site and lines permitting. -/
theorem valveLaw_eases {s t : State} (law : ValveLaw s) (h : Eases s t)
    (config : ∀ p, (t.point p).state.isOpenOrPriming = true → (t.point p).config = (s.point p).config) : ValveLaw t :=
  valveLaw_iff.mpr fun p => Point.Valved.eases (law p) (h.points p) (config p) (h.site p) (h.lines p)

theorem valveLaw_of_points {s t : State} (law : ValveLaw s) (points : t.points = s.points)
    (site : s.ss.site = .running → t.ss.site = .running)
    (lines : ∀ l, (t.line l).state = .lockedOut → (s.line l).state = .lockedOut) : ValveLaw t := by
  rw [valveLaw_iff]
  intro p
  rw [point_of_points points]
  exact Point.Valved.eases (law p) (.refl _) (fun _ => rfl) (fun _ => site) fun c _ _ h e => h (lines c.line e)

theorem valveLaw_setPoint {s : State} {p : Fin 32} {x : Point} (law : ValveLaw s) (valved : x.Valved s) :
    ValveLaw (s.setPoint p x) := by
  rw [valveLaw_iff]
  intro q
  rw [setPoint_point]
  split
  · exact valved
  · exact law q

theorem valveLaw_setLine {s : State} {l : Fin 4} {y : Line} (law : ValveLaw s)
    (kept : y.state = .lockedOut → (s.line l).state = .lockedOut) : ValveLaw (s.setLine l y) := by
  refine valveLaw_of_points law rfl id fun k h => ?_
  rw [setLine_line] at h
  split at h
  · next e => rw [e]; exact kept h
  · exact h

theorem valveLaw_resetPart (s : State) : ValveLaw (resetPart s) := by
  rw [valveLaw_iff]
  intro p
  rw [resetPart, afterReset_point]
  exact ⟨fun _ => ⟨rfl, rfl⟩, fun h => absurd h (by decide), fun h => absurd h (by decide)⟩

/-- A LIFTED point has its nozzle up and its duties at 0, and the conditions of a lift are those of the law (R70). -/
theorem valveLaw_prime {s : State} {p : Fin 32} {c : PointConfig} (law : ValveLaw s)
    (config : (s.point p).config = some c) (lifted : (s.point p).state = .lifted)
    (conditions : s.liftConditions p = true) : ValveLaw (s.setPoint p { s.point p with state := .priming }) := by
  obtain ⟨running, available, _⟩ := (liftConditions_iff config).mp conditions
  obtain ⟨duties, _, down⟩ := law p
  refine valveLaw_setPoint law ⟨fun _ => duties (by rw [lifted]; rfl), fun _ => ?_, fun _ => down lifted⟩
  exact ⟨down lifted, running, c, config, by rw [available]; simp⟩

theorem valveLaw_move (s t : State) (move : FieldMove s t) (law : ValveLaw s) : ValveLaw t := by
  cases move with
  | aside points lines site =>
    exact valveLaw_of_points law points (fun h => site.trans h) fun l h => by rwa [line_of_lines lines] at h
  | tag p tag => exact valveLaw_setPoint law (law p)
  | point eases config => exact valveLaw_setPoint law (Point.Valved.eases (law _) eases config (fun _ => id) fun _ _ _ => id)
  | prime config lifted conditions =>
    exact valveLaw_eases (valveLaw_prime law config lifted conditions) (eases_requestPump ..) fun q _ => by
      rw [point_of_points (requestPump_points ..)]
  | withdraw p => exact valveLaw_eases law (eases_withdrawOwn ..) fun q _ => by rw [withdrawOwn_point]
  | delayMet _ => exact valveLaw_setLine law id
  | ranOn _ => exact valveLaw_setLine law id
  | count l =>
    have counted : ValveLaw (s.setLine l
        { s.line l with startTimer := (s.line l).startTimer.tick, runOnTimer := (s.line l).runOnTimer.tick }) :=
      valveLaw_setLine law id
    exact valveLaw_of_points counted rfl id fun _ => id
  | price l n => exact valveLaw_setLine law id
  | restore _ => exact valveLaw_setLine law fun h => by dsimp only at h; split at h <;> exact absurd h (by simp)
  | erase l => exact valveLaw_setLine (valveLaw_setLine law (by simp)) (by simp [Line.stopped])
  | configure l c => exact valveLaw_setLine law (by simp)
  | lockOut l => exact valveLaw_eases law (eases_lineLockedOut ..) fun q _ => by rw [lineLockedOut_point]; split <;> rfl
  | halt => exact valveLaw_eases law (eases_stopForecourt s) fun q _ => by rw [stopForecourt_point]; split <;> rfl
  | halted halting => exact valveLaw_of_points law rfl (fun h => absurd (halting.symm.trans h) (by simp)) fun _ => id
  | resume _ => exact valveLaw_of_points law rfl (fun _ => rfl) fun _ => id
  | reset => exact valveLaw_resetPart s

/-- Settles O55: a step is a run of the field's moves; only priming opens a way to an open valve, and lockout and halt
close every valve that their line or site would leave without the law. -/
theorem stepKeepsValveLaw : Obligations.StepKeepsValveLaw :=
  fun _ _ law h => (step_fieldRun h).keeps valveLaw_move law

end Sys2Proof.Machine
end

section
/-! PROOFS. Close orders (R71, R76, R79, R82, R96): the points they close, and what the withdrawals make of a line. -/

namespace Sys2Proof.Machine

/-! ### The requests that leave a line -/

/-- A line whose pump has lost its last request runs on (R96). -/
def Line.runningOn (x : Line) : Line :=
  { x with
    requesting := 0
    pump := .runOn
    delayMet := true
    startTimer := .stopped
    runOnTimer := Timer.start ((x.config.map (·.runOn)).getD 0) }

/-- From `x` to `y` a pump that was ON for some request has lost the last one. -/
def Line.Empties (x y : Line) : Prop := x.pump = .on ∧ x.requesting ≠ 0 ∧ y.requesting = 0

/-- `y` is the line `x` after the requests of the points in `gone` have been withdrawn. -/
structure Line.Released (x y : Line) (gone : Fin 32 → Bool) : Prop where
  requests : ∀ p, hasPoint y.requesting p = (hasPoint x.requesting p && !gone p)
  runsOn : x.Empties y → y = x.runningOn
  kept : ¬ x.Empties y → y = { x with requesting := y.requesting }

theorem requesting_ne_zero {set : BitVec 32} {p : Fin 32} (h : hasPoint set p = true) : set ≠ 0 := by
  rintro rfl
  exact absurd h (by rw [show (0 : BitVec 32) = 0#32 from rfl, hasPoint_zero]; simp)

theorem Line.Released.refl (x : Line) : x.Released x fun _ => false where
  requests _ := by simp
  runsOn h := absurd h.2.2 h.2.1
  kept _ := rfl

theorem withoutRequest_last {x : Line} {p : Fin 32} (on : x.pump = .on) (last : dropPoint x.requesting p = 0) :
    x.withoutRequest p = x.runningOn := by
  simp [Line.withoutRequest, Line.runningOn, on, last]

theorem withoutRequest_other {x : Line} {p : Fin 32} (h : ¬ (dropPoint x.requesting p = 0 ∧ x.pump = .on)) :
    x.withoutRequest p = { x with requesting := dropPoint x.requesting p } := if_neg h

/-- One more withdrawal, by a point that has a request on the line. -/
theorem Line.Released.withoutRequest {x y : Line} {gone : Fin 32 → Bool} (h : x.Released y gone) {p : Fin 32}
    (has : hasPoint y.requesting p = true) :
    x.Released (y.withoutRequest p) fun q => gone q || q == p := by
  have some : y.requesting ≠ 0 := requesting_ne_zero has
  have hadToo : hasPoint x.requesting p = true := by
    rw [h.requests p, Bool.and_eq_true] at has
    exact has.1
  have form := h.kept fun empties => some empties.2.2
  have pump : y.pump = x.pump := by rw [form]
  refine ⟨fun q => ?_, fun empties => ?_, fun still => ?_⟩
  · rw [withoutRequest_requesting, hasPoint_dropPoint, h.requests q, Bool.not_or, Bool.and_assoc, Bool.beq_comm]
  · obtain ⟨on, _, last⟩ := empties
    rw [withoutRequest_requesting] at last
    rw [withoutRequest_last (pump.trans on) last, form]
    rfl
  · have other : ¬ (dropPoint y.requesting p = 0 ∧ y.pump = .on) := fun ⟨last, on⟩ =>
      still ⟨pump.symm.trans on, requesting_ne_zero hadToo, by rw [withoutRequest_requesting, last]⟩
    rw [withoutRequest_other other, form]

theorem Line.Released.congr {x y : Line} {gone gone' : Fin 32 → Bool} (h : x.Released y gone)
    (same : ∀ p, hasPoint x.requesting p = true → gone p = gone' p) : x.Released y gone' := by
  refine ⟨fun p => ?_, h.runsOn, h.kept⟩
  rw [h.requests p]
  cases has : hasPoint x.requesting p with
  | false => simp
  | true => rw [same p has]

/-! ### Close orders -/

theorem isOpenOrPriming_eq (x : PointState) : x.isOpenOrPriming = (x == .priming || x == .flowing || x == .slowing) := by
  cases x <;> rfl

/-- The points that close orders for `ps` close. -/
def State.closedBy (s : State) (ps : List (Fin 32)) (p : Fin 32) : Bool :=
  ps.contains p && ((s.point p).state == .priming || (s.point p).state == .flowing || (s.point p).state == .slowing)

theorem closedBy_eq (s : State) (ps : List (Fin 32)) (p : Fin 32) :
    s.closedBy ps p = (ps.contains p && (s.point p).state.isOpenOrPriming) := by
  rw [State.closedBy, isOpenOrPriming_eq]

theorem closedBy_iff {s : State} {ps : List (Fin 32)} {p : Fin 32} :
    s.closedBy ps p = true ↔ p ∈ ps ∧ (s.point p).state.isOpenOrPriming = true := by
  simp [closedBy_eq]

theorem closeOrder_line (p : Fin 32) (l : Fin 4) (s : State) :
    (closeOrder p s).line l =
      if (s.point p).state.isOpenOrPriming = true ∧ (s.point p).config.any (·.line == l) = true
          ∧ hasPoint (s.line l).requesting p = true then
        (s.line l).withoutRequest p
      else s.line l := by
  unfold closeOrder closeValve
  split
  · next busy => simp [withdrawOwn_line, busy]
  · next still => simp [still]

theorem closeOrders_append (ps : List (Fin 32)) (p : Fin 32) (s : State) :
    closeOrders (ps ++ [p]) s = closeOrder p (closeOrders ps s) := by
  simp [closeOrders]

/-- Close orders withdraw from a line the requests of the points they close there. -/
theorem closeOrders_released (ps : List (Fin 32)) (l : Fin 4) (s : State) :
    (s.line l).Released ((closeOrders ps s).line l)
      fun p => s.closedBy ps p && (s.point p).config.any (·.line == l) := by
  induction ps using List.reverseRecOn with
  | nil => exact (Line.Released.refl _).congr fun p _ => by simp [State.closedBy]
  | append_singleton ps p ih =>
    have grows : ∀ q, s.closedBy (ps ++ [p]) q = (s.closedBy ps q || q == p && (s.point q).state.isOpenOrPriming) := by
      intro q
      simp only [closedBy_eq, List.contains_append, List.contains_cons, List.contains_nil, Bool.or_false,
        Bool.and_or_distrib_right]
    rw [closeOrders_append, closeOrder_line, closeOrders_point_config]
    split
    · next h =>
      obtain ⟨busy, mine, has⟩ := h
      refine (ih.withoutRequest has).congr fun q _ => ?_
      rw [grows]
      by_cases e : q = p
      · subst e
        have before : (s.point q).state.isOpenOrPriming = true := ((eases_closeOrders ps s).points q).busy busy |>.1
        simp [mine, before]
      · simp [beq_eq_false_iff_ne.mpr e]
    · next h =>
      -- a busy point of the line that still has its request was closed before
      refine ih.congr fun q has => ?_
      rw [grows]
      by_cases e : q = p
      · subst e
        have before : (s.point q).state.isOpenOrPriming = true → (s.point q).config.any (·.line == l) = true →
            s.closedBy ps q = true := by
          intro busy mine
          by_contra fresh
          have same : (closeOrders ps s).point q = s.point q := by
            rw [closeOrders_point, if_neg fun closed => fresh (closedBy_iff.mpr closed)]
          have present : hasPoint ((closeOrders ps s).line l).requesting q = true := by
            rw [ih.requests q, has, eq_false_of_ne_true fresh]
            rfl
          exact h ⟨same ▸ busy, mine, present⟩
        rw [Bool.eq_iff_iff]
        simp only [Bool.and_eq_true, Bool.or_eq_true, beq_self_eq_true, true_and]
        tauto
      · simp [beq_eq_false_iff_ne.mpr e]

theorem settlingFrom_eq (x : Point) (n : Nat) :
    x.settlingFrom n =
      { x with state := .settling, stageDuty := 0, dutyInForce := 0, noFlow := .stopped, settleLeft := n } := rfl

/-- Settles O16. -/
theorem closeOrdersCloseValves : Obligations.CloseOrdersCloseValves := by
  intro ps s closes t
  refine ⟨fun p => ?_, fun l => ?_, by simp [t], by simp [t], by simp [t], by simp [t], by simp [t], by simp [t],
    by simp [t], by simp [t], by simp [t], by simp [t]⟩
  · rw [← settlingFrom_eq]
    exact (closeOrders_point ps p s).trans (if_congr closedBy_iff.symm rfl rfl)
  · obtain ⟨requests, runsOn, kept⟩ := closeOrders_released ps l s
    exact ⟨requests, fun on asked none => runsOn ⟨on, asked, none⟩, kept⟩

end Sys2Proof.Machine
end

section
/-! PROOFS. A lift admitted on a line at pressure (R72, R77, R82, R94). -/

namespace Sys2Proof.Machine

/-- A lift from IDLE that its grant admits enters PRIMING at once (R20, R70). -/
theorem nozzleLift_admitted {p : Fin 32} {s : State} {tag : Nat} {i : Fin 24} {g : Grant} {c : PointConfig}
    (down : (s.point p).nozzle = false) (idle : (s.point p).state = .idle) (tagged : (s.point p).tag = some tag)
    (held : HeldIn s tag i g) (config : (s.point p).config = some c) (waits : g.state = .armed ∨ g.state = .fueling)
    (running : s.ss.site = .running) (available : (s.line c.line).state = .available) (isOpen : g.openOn c.line = true) :
    nozzleLift p s = enterPriming p ((liftedState p s).setSlot i (some g.admitting)) := by
  have tagged : ((liftedState p s).point p).tag = some tag := by rw [liftedState_point, if_pos rfl]; exact tagged
  have held : HeldIn (liftedState p s) tag i g := held
  obtain ⟨conditions, draws⟩ := Bool.and_eq_true_iff.mp ((liftedState_met config g).mpr ⟨running, available, isOpen⟩)
  rw [nozzleLift_idle down idle, reportLift_held tagged held, liftReport_admitted held.2 waits conditions draws]

/-- A request on a line at pressure (R94). -/
theorem withRequest_atPressure {y : Line} (pressure : y.pump = .on ∧ y.delayMet = true ∨ y.pump = .runOn) (p : Fin 32) :
    y.withRequest p =
      { y with
        requesting := addPoint y.requesting p
        pump := .on
        delayMet := true
        runOnTimer := if y.pump = .runOn then .stopped else y.runOnTimer } := by
  rcases pressure with ⟨on, met⟩ | runOn
  · rw [withRequest_on on]
    simp [← on, ← met]
    simp [on]
  · rw [withRequest_runOn runOn]
    simp [runOn]

/-- Settles O26: the lift is admitted, its request finds the line at pressure, and pump ready opens the valve. -/
theorem liftOpensValveAtPressure : Obligations.LiftOpensValveAtPressure := by
  intro p s tag i g c x a terms down idle tagged held waits config running available lineConfig listed armed isOpen fresh
    pressure
  have draws : g.openOn c.line = true := by simp [Grant.openOn, listed, Allowance.isOpen, armed, isOpen]
  have lifted : ((liftedState p s).setSlot i (some g.admitting)).point p =
      { s.point p with state := .lifted, nozzle := true } := by rw [setSlot_point, liftedState_point, if_pos rfl]
  have opens := enterPriming_opens (s := (liftedState p s).setSlot i (some g.admitting)) (g := g.admitting) (i := i)
    (tag := tag) (p := p) (c := c) (by rw [lifted]; exact config) lineConfig running available fresh
    (by rw [lifted]; exact tagged) (HeldIn.setSlot held rfl) listed armed (withRequest_atPressure pressure p) rfl
  rw [lift_row, nozzleLift_admitted down idle tagged held config waits running available draws, opens, lifted, opened_eq]
  simp [liftedState, setNozzlePin, State.setPoint, State.setSlot, State.setLine, State.line, Grant.admitting]

end Sys2Proof.Machine
end

section
/-! PROOFS. A period end that meters a sale and leaves its allowance OPEN (R75, R77, R103, R104, R108, R113, R117, R119). -/

namespace Sys2Proof.Machine

/-! ### Slow orders -/

/-- A FLOWING point under a slow order; without a configuration it stays as it is (R75). -/
def Point.slowedIn (s : State) (x : Point) : Point :=
  match x.config with
  | none => x
  | some c =>
    { x with
      state := .slowing
      stageDuty := s.lineField c.line (·.slowDuty)
      dutyInForce := if s.lineField c.line (·.slowDuty) = 0 then 0 else x.dutyInForce }

theorem slowedIn_none {s : State} {x : Point} (config : x.config = none) : x.slowedIn s = x := by
  simp [Point.slowedIn, config]

theorem slowedIn_some {s : State} {x : Point} {c : PointConfig} (config : x.config = some c) :
    x.slowedIn s =
      { x with
        state := .slowing
        stageDuty := s.lineField c.line (·.slowDuty)
        dutyInForce := if s.lineField c.line (·.slowDuty) = 0 then 0 else x.dutyInForce } := by
  simp only [Point.slowedIn, config]

theorem slowedIn_isOpen {s : State} {x : Point} (h : x.state.isOpen = true) : (x.slowedIn s).state.isOpen = true := by
  cases config : x.config with
  | none => rwa [slowedIn_none config]
  | some c => rw [slowedIn_some config]; rfl

/-- A slow order leaves the no-flow timer as it is, whatever it is. -/
theorem slowedIn_noFlow (s : State) (x : Point) : (x.slowedIn s).noFlow = x.noFlow := by
  cases config : x.config with
  | none => rw [slowedIn_none config]
  | some c => rw [slowedIn_some config]

theorem slowedIn_withTimer (s : State) (x : Point) (timer : Timer) :
    { x.slowedIn s with noFlow := timer } = ({ x with noFlow := timer } : Point).slowedIn s := by
  cases config : x.config <;> simp [Point.slowedIn, config]

theorem lineField_of_lines {s t : State} (lines : t.lines = s.lines) (l : Fin 4) (f : LineConfig → Nat) :
    t.lineField l f = s.lineField l f := by
  simp [State.lineField, line_of_lines lines]

theorem slowedIn_of_lines {s t : State} (lines : t.lines = s.lines) (x : Point) : x.slowedIn t = x.slowedIn s := by
  cases config : x.config with
  | none => rw [slowedIn_none config, slowedIn_none config]
  | some c => rw [slowedIn_some config, slowedIn_some config, lineField_of_lines lines]

theorem slowOrder_point (p q : Fin 32) (s : State) :
    (slowOrder p s).point q =
      if q = p ∧ (s.point q).state = .flowing then (s.point q).slowedIn s else s.point q := by
  unfold slowOrder
  split
  · next c flowing config =>
    rw [setPoint_point]
    by_cases e : q = p
    · subst e
      rw [if_pos rfl, if_pos ⟨rfl, flowing⟩, slowedIn_some config]
      rfl
    · simp [e]
  · next other =>
    split
    · next h =>
      obtain ⟨rfl, flowing⟩ := h
      cases config : (s.point q).config with
      | none => rw [slowedIn_none config]
      | some c => exact absurd config (other c flowing)
    · rfl

/-- What slow orders do to each point. -/
theorem slowOrders_point (ps : List (Fin 32)) (q : Fin 32) (s : State) :
    (slowOrders ps s).point q =
      if q ∈ ps ∧ (s.point q).state = .flowing then (s.point q).slowedIn s else s.point q := by
  induction ps generalizing s with
  | nil => simp [slowOrders]
  | cons p rest ih =>
    have step : slowOrders (p :: rest) s = slowOrders rest (slowOrder p s) := rfl
    rw [step, ih, slowedIn_of_lines (slowOrder_lines p s), slowOrder_point]
    by_cases h : q = p ∧ (s.point q).state = .flowing
    · obtain ⟨rfl, flowing⟩ := h
      cases config : (s.point q).config with
      | none => simp [flowing, slowedIn_none config]
      | some c => simp [flowing, slowedIn_some config]
    · rw [if_neg h]
      by_cases e : q = p <;> simp_all

/-! ### The timers of an open point -/

/-- A period with pulses restarts the no-flow timer of an open point (R77). -/
theorem pointTimers_restarts {p : Fin 32} {was : PointState} {s : State} (unsettled : was ≠ .settling)
    (isOpen : (s.point p).state.isOpen = true) (n : Int) :
    pointTimers p was n s =
      withNoFlow p (if 0 < n then Timer.start s.cp.timers.noFlow else (s.point p).noFlow) s := by
  unfold pointTimers
  rw [if_neg unsettled]
  by_cases h : 0 < n
  · rw [if_pos ⟨h, isOpen⟩, if_pos h]; rfl
  · rw [if_neg fun c => h c.1, if_neg h]
    exact (setPoint_self s p).symm

/-! ### The period end -/

section Metering

variable {s : State} {p : Fin 32} {c : PointConfig} {tag : Nat} {i : Fin 24} {g : Grant} {a : Allowance} {terms : Armed}
  {r : PointRecord}

/-- At its slow margin or below it an allowance that is not used up slows its points (R119). -/
theorem MetersRecord.saleStep_slows (m : MetersRecord s p c tag i g a terms r) (isOpen : terms.exhausted = false)
    (left : 0 < (termsAfter s p c terms).residual)
    (lead : ((increments s g (termsAfter s p c terms) * s.lineField c.line (·.closeLead) : Nat) : Int)
      < (termsAfter s p c terms).residual)
    (margin : (termsAfter s p c terms).residual ≤ (s.lineField c.line (·.slowMargin) : Int)) :
    Machine.saleStep p c (s.point p).net (s.setPoint p (s.point p).latched) =
      slowOrders ((termsAfter s p c terms).attachedPoints g) (meteredState s p c i g r) := by
  have unmet : exhaustionMet (termsAfter s p c terms).residual (increments s g (termsAfter s p c terms))
      (s.lineField c.line (·.closeLead)) = false := by
    simp only [exhaustionMet, Bool.or_eq_false_iff, decide_eq_false_iff_not, not_le]
    exact ⟨left, lead⟩
  rw [m.saleStep, m.evaluate, isOpen, unmet, if_pos margin]
  simp

/-- The no-flow timer after the period of an open point. -/
def noFlowAfter (s : State) (p : Fin 32) : Timer :=
  if 0 < (s.point p).net then Timer.start s.cp.timers.noFlow else (s.point p).noFlow

theorem meteredState_withNoFlow (timer : Timer) :
    withNoFlow p timer (meteredState s p c i g r) =
      (s.setPoint p { (s.point p).latched with noFlow := timer }).setSlot i (some (meteredGrant s p c g r)) := by
  rw [withNoFlow, meteredState_point, if_pos rfl, meteredState, setSlot_setPoint, setPoint_setPoint]

/-- A slow order leaves an open point's timer to restart (R75, R77). -/
theorem pointTimers_slowed (ps : List (Fin 32)) {was : PointState} (unsettled : was ≠ .settling)
    (isOpen : (s.point p).state.isOpen = true) :
    pointTimers p was (s.point p).net (slowOrders ps (meteredState s p c i g r)) =
      withNoFlow p (noFlowAfter s p) (slowOrders ps (meteredState s p c i g r)) := by
  have stands : (meteredState s p c i g r).point p = (s.point p).latched := by rw [meteredState_point, if_pos rfl]
  have still : ((slowOrders ps (meteredState s p c i g r)).point p).state.isOpen = true := by
    rw [slowOrders_point, stands]
    split
    · exact slowedIn_isOpen isOpen
    · exact isOpen
  have timer : ((slowOrders ps (meteredState s p c i g r)).point p).noFlow = (s.point p).noFlow := by
    rw [slowOrders_point, stands]
    split
    · exact slowedIn_noFlow ..
    · rfl
  rw [pointTimers_restarts unsettled still, timer, slowOrders_cp]
  rfl

/-- The points after a period that slows an allowance. -/
theorem slowedPeriod_point (ps : List (Fin 32)) (timer : Timer) (u : Fin 32) :
    (withNoFlow p timer (slowOrders ps (meteredState s p c i g r))).point u =
      if u ∈ ps ∧ (s.point u).state = .flowing then
        (if u = p then { (s.point p).latched with noFlow := timer } else s.point u).slowedIn s
      else if u = p then { (s.point p).latched with noFlow := timer }
      else s.point u := by
  have slowed : ∀ q, (slowOrders ps (meteredState s p c i g r)).point q =
      if q ∈ ps ∧ (s.point q).state = .flowing then (if q = p then (s.point p).latched else s.point q).slowedIn s
      else if q = p then (s.point p).latched else s.point q := fun q => by
    rw [slowOrders_point, meteredState_pointState, meteredState_point]
    rfl
  rw [withNoFlow, setPoint_point]
  by_cases e : u = p
  · subst e
    simp only [if_true, slowed]
    split
    · exact slowedIn_withTimer ..
    · rfl
  · simp only [e, if_false, slowed]

end Metering

/-- Settles O30: no fault and no exhaustion leave the sale step to go on or to slow the allowance's points, and the point's
timer to restart. -/
theorem periodEndMetersSale : Obligations.PeriodEndMetersSale := by
  intro p s c tag i g a terms r x n after q counted sold slowed opens config tagged held listed armed isOpen recorded errors
    forward reverse below left lead
  have m : MetersRecord s p c tag i g a terms r := ⟨config, tagged, held, listed, armed, recorded⟩
  have meters : (s.point p).state.metersSale = true := by rcases opens with h | h <;> rw [h] <;> rfl
  have unsettled : (s.point p).state ≠ .settling := by rcases opens with h | h <;> rw [h] <;> simp
  have flows : (s.point p).state.isOpen = true := by rcases opens with h | h <;> rw [h] <;> rfl
  have sound : ((s.point p).faulty c || s.saturatesAt p (s.point p).net) = false := by
    rw [faulty_eq_false errors forward reverse, m.saturates below]; rfl
  have ends : periodEnd p s = pointTimers p (s.point p).state (s.point p).net
      (saleStep p c (s.point p).net (s.setPoint p (s.point p).latched)) := by
    rw [periodEnd_metering config meters, sound, if_neg (by simp)]
  have sale : some sold = some (meteredGrant s p c g r) := by rw [meteredGrant_eq]; rfl
  rw [periodEnd_row, ends]
  refine ⟨fun margin => ?_, fun margin => ⟨_, rfl, ?_⟩⟩
  · have timed := pointTimers_restarts (s := meteredState s p c i g r) (p := p) unsettled
      (by rw [meteredState_pointState]; exact flows) (s.point p).net
    rw [m.saleStep_goesOn (.inr ⟨left, lead, margin⟩), timed, meteredState_withNoFlow, meteredState_point, if_pos rfl, sale]
    rfl
  · have slows : ∀ y, y.slowedIn s = slowed y := fun y => by
      cases h : y.config with
      | none => rw [slowedIn_none h]; simp only [slowed, h]
      | some d => rw [slowedIn_some h]; simp only [slowed, h]
    rw [m.saleStep_slows isOpen left lead margin, pointTimers_slowed _ unsettled flows]
    refine ⟨fun u => ?_, ?_, by simp [withNoFlow, meteredState]⟩
    · exact (slowedPeriod_point ..).trans (if_congr (by rw [mem_attachedPoints, and_assoc]; rfl) (slows _) rfl)
    · rw [sale, withNoFlow, setPoint_gm, slowOrders_gm]
      rfl

end Sys2Proof.Machine
end

section
/-! PROOFS. The timers of a line (R72, R95, R96): pump ready for the points that wait, and the pump that has run on. -/

namespace Sys2Proof.Machine

/-! ### Pump ready, point after point -/

/-- Pump ready opens a PRIMING point whose grant has an armed allowance on its line, and the grant has flowed (R72). -/
theorem pumpReady_held {p : Fin 32} {s : State} {c : PointConfig} {tag : Nat} {i : Fin 24} {g : Grant} {a : Allowance}
    {terms : Armed} (primes : (s.point p).state = .priming) (config : (s.point p).config = some c)
    (tagged : (s.point p).tag = some tag) (held : HeldIn s tag i g) (listed : g.allowanceOn c.line = some a)
    (armed : a.armed = some terms) :
    pumpReady p s =
      (s.setPoint p
          ((s.point p).opened terms.residual (s.lineField c.line (·.slowMargin)) (s.lineField c.line (·.fullDuty))
            (s.lineField c.line (·.slowDuty)) s.cp.timers.noFlow)).setSlot i
        (some { g with flowed := true }) := by
  have slot := slotOfPoint_held tagged held
  have termsOf : s.termsOfPoint p = some terms := by
    simp [State.termsOfPoint, config, slot, held.2, listed, armed]
  simp only [pumpReady, primes, config, slot, termsOf, State.modGrant, setPoint_grantAt, held.2, Option.map_some]

/-- Pump ready for a list of points, one after the other. -/
def readyAll (ps : List (Fin 32)) (s : State) : State := ps.foldl (fun s p => pumpReady p s) s

theorem readyAll_cons (p : Fin 32) (rest : List (Fin 32)) (s : State) :
    readyAll (p :: rest) s = readyAll rest (pumpReady p s) := rfl

theorem readyAll_unchanged {β : Type} (view : State → β) (same : ∀ p s, view (pumpReady p s) = view s)
    (ps : List (Fin 32)) (s : State) : view (readyAll ps s) = view s :=
  foldl_unchanged view (fun s p => same p s) ps s

theorem readyAll_point_other {ps : List (Fin 32)} {q : Fin 32} (other : q ∉ ps) (s : State) :
    (readyAll ps s).point q = s.point q := by
  induction ps generalizing s with
  | nil => rfl
  | cons p rest ih =>
    rw [List.mem_cons, not_or] at other
    rw [readyAll_cons, ih other.2, pumpReady_point_other other.1]

/-- Pump ready is discarded by a point that does not prime. -/
theorem readyAll_point_deaf {q : Fin 32} {s : State} (deaf : (s.point q).state ≠ .priming) (ps : List (Fin 32)) :
    (readyAll ps s).point q = s.point q := by
  refine foldl_keeps (P := fun t => t.point q = s.point q) (f := fun t p => pumpReady p t) (fun t p h => ?_) ps s rfl
  by_cases e : q = p
  · subst e
    rcases pumpReady_point_cases q t with same | ⟨primes, _⟩
    · rw [same, h]
    · exact absurd (h ▸ primes) deaf
  · rw [pumpReady_point_other e, h]

/-- A grant as it would be had it not flowed yet. -/
def Grant.unflowed (g : Grant) : Grant := { g with flowed := false }

theorem pumpReady_unflowed (p : Fin 32) (i : Fin 24) (s : State) :
    ((pumpReady p s).grantAt i).map Grant.unflowed = (s.grantAt i).map Grant.unflowed := by
  rcases pumpReady_grantAt p i s with h | h
  · rw [h]
  · rw [h, Option.map_map]; rfl

/-- A grant that has flowed stays as it is. -/
theorem readyAll_grantAt_flowed {i : Fin 24} {g : Grant} {s : State} (hg : s.grantAt i = some { g with flowed := true })
    (ps : List (Fin 32)) : (readyAll ps s).grantAt i = some { g with flowed := true } := by
  refine foldl_keeps (P := fun t => t.grantAt i = some { g with flowed := true }) (f := fun t p => pumpReady p t)
    (fun t p h => ?_) ps s hg
  rcases pumpReady_grantAt p i t with e | e <;> rw [e, h]
  rfl

theorem HeldIn.pumpReady {s : State} {tag : Nat} {i : Fin 24} {g : Grant} (held : HeldIn s tag i g) (p : Fin 32) :
    ∃ flowed, HeldIn (pumpReady p s) tag i { g with flowed := flowed } := by
  have found : (Machine.pumpReady p s).findTag tag = some i := by
    refine (findTag_congr (fun j => ?_) tag).trans held.1
    rcases pumpReady_grantAt p j s with h | h
    · rw [h]
    · rw [h, Option.map_map]; rfl
  rcases pumpReady_grantAt p i s with h | h
  · exact ⟨g.flowed, found, h.trans held.2⟩
  · exact ⟨true, found, by rw [h, held.2]; rfl⟩

/-- Each listed point that primes for an armed allowance opens, whatever opened before it. -/
theorem readyAll_opens {p : Fin 32} {c : PointConfig} {tag : Nat} {i : Fin 24} {a : Allowance} {terms : Armed}
    (armed : a.armed = some terms) {ps : List (Fin 32)} (listed : p ∈ ps) {s : State} {g : Grant}
    (primes : (s.point p).state = .priming) (config : (s.point p).config = some c)
    (tagged : (s.point p).tag = some tag) (held : HeldIn s tag i g) (allowed : g.allowanceOn c.line = some a) :
    (readyAll ps s).point p =
        (s.point p).opened terms.residual (s.lineField c.line (·.slowMargin)) (s.lineField c.line (·.fullDuty))
          (s.lineField c.line (·.slowDuty)) s.cp.timers.noFlow
      ∧ (readyAll ps s).grantAt i = some { g with flowed := true } := by
  induction ps generalizing s g with
  | nil => exact absurd listed List.not_mem_nil
  | cons q rest ih =>
    rw [readyAll_cons]
    by_cases e : p = q
    · subst e
      rw [pumpReady_held primes config tagged held allowed armed]
      refine ⟨?_, readyAll_grantAt_flowed (setSlot_grantAt_self ..) rest⟩
      rw [readyAll_point_deaf, setSlot_point, setPoint_point, if_pos rfl]
      rw [setSlot_point, setPoint_point, if_pos rfl]
      intro waits
      have opened := opened_isOpen (s.point p) terms.residual (s.lineField c.line (·.slowMargin))
        (s.lineField c.line (·.fullDuty)) (s.lineField c.line (·.slowDuty)) s.cp.timers.noFlow
      rw [waits] at opened
      exact absurd opened (by decide)
    · have same : (pumpReady q s).point p = s.point p := pumpReady_point_other e s
      obtain ⟨flowed, held'⟩ := held.pumpReady q
      have next := ih ((List.mem_cons.mp listed).resolve_left e) (same ▸ primes) (same ▸ config) (same ▸ tagged) held' allowed
      rw [same, pumpReady_cp, lineField_of_lines (pumpReady_lines q s), lineField_of_lines (pumpReady_lines q s),
        lineField_of_lines (pumpReady_lines q s)] at next
      exact next

theorem pumpReady_pendingTags (p : Fin 32) (s : State) : (pumpReady p s).gm.pendingTags = s.gm.pendingTags := by
  unfold pumpReady; split <;> rfl

theorem pumpReady_settledTags (p : Fin 32) (s : State) : (pumpReady p s).gm.settledTags = s.gm.settledTags := by
  unfold pumpReady; split <;> rfl

theorem pumpReady_tagCounter (p : Fin 32) (s : State) : (pumpReady p s).gm.tagCounter = s.gm.tagCounter := by
  unfold pumpReady; split <;> rfl

/-! ### The rows -/

/-- The points of a line that wait for its pump. -/
def State.primingOn (s : State) (l : Fin 4) : List (Fin 32) :=
  allPoints.filter fun p => (s.point p).state == .priming && (s.point p).config.any (·.line == l)

theorem mem_primingOn {s : State} {l : Fin 4} {p : Fin 32} :
    p ∈ s.primingOn l ↔ (s.point p).state = .priming ∧ (s.point p).config.any (·.line == l) = true := by
  simp [State.primingOn, allPoints]

/-- The state in which a line's start delay is met, before pump ready goes to its points. -/
def State.delayMet (s : State) (l : Fin 4) : State :=
  s.setLine l { s.line l with delayMet := true, startTimer := .stopped }

theorem delayMet_lineField (s : State) (l k : Fin 4) (f : LineConfig → Nat) :
    (s.delayMet l).lineField k f = s.lineField k f := by
  simp only [State.lineField, State.delayMet, setLine_line]
  split
  · next e => rw [e]
  · rfl

theorem startExpiry_running {l : Fin 4} {s : State} {k : Nat} (runs : (s.line l).startTimer = .running k) :
    startExpiry l s = readyAll (s.primingOn l) (s.delayMet l) :=
  if_pos ((mayExpire_iff _).mpr ⟨k, runs⟩)

/-- Settles O40: the expiry of a start timer is pump ready to each point of the line that primes. -/
theorem lineTimersExpire : Obligations.LineTimersExpire := by
  refine ⟨fun l s => ⟨fun k runs => ?_, fun still => ?_, fun still => ?_⟩, fun l s k runs => ?_⟩
  · exact congrArg Host.Outcome.next (if_pos ((mayExpire_iff _).mpr ⟨k, runs⟩))
  · exact congrArg Host.Outcome.next (if_neg (by rw [mayExpire_eq_false still]; simp))
  · exact congrArg Host.Outcome.next (if_neg (by rw [mayExpire_eq_false still]; simp))
  · refine ⟨_, congrArg Host.Outcome.next (startExpiry_running runs), ?_, fun p other => ?_,
      fun p c tag i g a terms primes config line tagged held listed armed => ?_, fun i => ?_, ?_⟩
    · exact readyAll_unchanged (·.lines) (fun p s => pumpReady_lines p s) ..
    · exact readyAll_point_other (fun h => other (mem_primingOn.mp h)) _
    · subst line
      have mine : p ∈ s.primingOn c.line := mem_primingOn.mpr ⟨primes, by simp [config]⟩
      have opens := readyAll_opens (s := s.delayMet c.line) armed mine primes config tagged held listed
      simp only [delayMet_lineField, opened_eq] at opens
      exact opens
    · exact readyAll_unchanged (fun t => (t.grantAt i).map Grant.unflowed) (fun p s => pumpReady_unflowed p i s) ..
    · exact ⟨readyAll_unchanged (·.gm.pendingTags) pumpReady_pendingTags ..,
        readyAll_unchanged (·.gm.settledTags) pumpReady_settledTags ..,
        readyAll_unchanged (·.gm.tagCounter) pumpReady_tagCounter ..,
        readyAll_unchanged (·.su) pumpReady_su .., readyAll_unchanged (·.tu) pumpReady_tu ..,
        readyAll_unchanged (·.ss) pumpReady_ss .., readyAll_unchanged (·.ibi) pumpReady_ibi ..,
        readyAll_unchanged (·.cp) pumpReady_cp .., readyAll_unchanged (·.au) pumpReady_au ..,
        readyAll_unchanged (·.pins) pumpReady_pins .., readyAll_unchanged (·.draws) pumpReady_draws ..,
        readyAll_unchanged (·.pending) pumpReady_pending ..⟩

end Sys2Proof.Machine
end

section
/-! PROOFS. The pulsers and the valve drive (R65, R82, R100, R101), and POINT_SET, POINT_READ and POINT_ENABLE (R63, R64,
R66, R139). -/

namespace Sys2Proof.Machine

/-! ### Pulsers -/

theorem countUp_eq (n : Nat) : countUp n = if n < 4095 then n + 1 else 4095 := by
  unfold countUp Config.counterTop
  split <;> omega

/-- The four places of a phase after the reference, as the decoder takes them (R100). -/
theorem stepped_eq (x : Point) (phase : Fin 4) :
    x.stepped phase =
      if phase.val = x.phase.val then x
      else if phase.val = (x.phase.val + 1) % 4 then { x with phase := phase, forward := countUp x.forward }
      else if phase.val = (x.phase.val + 3) % 4 then { x with phase := phase, reverse := countUp x.reverse }
      else { x with phase := phase, errors := countUp x.errors } := by
  have same : phase = x.phase ↔ phase.val = x.phase.val := Fin.ext_iff
  have ahead : phase = x.phase + 1 ↔ phase.val = (x.phase.val + 1) % 4 := by rw [Fin.ext_iff, Fin.val_add]; rfl
  have behind : phase + 1 = x.phase ↔ phase.val = (x.phase.val + 3) % 4 := by
    rw [Fin.ext_iff, Fin.val_add, show ((1 : Fin 4) : Nat) = 1 from rfl]
    omega
  simp only [Point.stepped, same, ahead, behind]

/-- Settles O28. -/
theorem pulserAndDuty : Obligations.PulserAndDuty := by
  refine ⟨fun p phase s => congrArg Host.Outcome.next ?_, fun p s => rfl⟩
  unfold pulserStep
  rw [stepped_eq]
  simp only [countUp_eq]
  split
  · rfl
  split
  · rw [setPoint_self]
  split
  · rfl
  split <;> rfl

/-! ### POINT_SET -/

theorem pointOf_val (p : Fin 32) : pointOf p.val = some p := by simp [pointOf]

theorem pointOf_above {n : Nat} (above : 32 ≤ n) : pointOf n = none := dif_neg (not_lt.mpr above)

theorem lineOf_val (l : Fin 4) : lineOf l.val = some l := by simp [lineOf]

/-- POINT_SET's ranges (R62, R63). -/
theorem pointConfigOf_good {line : Fin 4} {k threshold creep : Nat} (role : Role)
    (good : GoodPoint line.val k threshold creep) :
    pointConfigOf role line.val k threshold creep =
      some { role := role, line := line, k := k, threshold := threshold, creepAllowance := creep } := by
  obtain ⟨_, k₁, k₂, t₁, t₂, c₁, c₂⟩ := good
  simp [pointConfigOf, lineOf_val, inRange, k₁, k₂, t₁, t₂, c₁, c₂]

theorem pointConfigOf_bad {line k threshold creep : Nat} (role : Role) (bad : ¬ GoodPoint line k threshold creep) :
    pointConfigOf role line k threshold creep = none := by
  unfold pointConfigOf lineOf
  by_cases h : line < 4
  · rw [dif_pos h]
    refine if_neg fun ranges => bad ?_
    simp only [inRange, Bool.and_eq_true, decide_eq_true_eq] at ranges
    obtain ⟨⟨⟨k₁, k₂⟩, t₁, t₂⟩, c₁, c₂⟩ := ranges
    exact ⟨by omega, k₁, k₂, t₁, t₂, c₁, c₂⟩
  · rw [dif_neg h]

theorem doPointSet_above {point : Nat} (above : 32 ≤ point) (arg : PointArg) (s : State) :
    doPointSet point arg s = (s, refusal .badParam) := by
  simp [doPointSet, pointOf_above above]

theorem doPointSet_unlisted (point : Nat) (s : State) : doPointSet point .unlisted s = (s, refusal .badParam) := by
  unfold doPointSet
  cases pointOf point <;> rfl

theorem doPointSet_bad {line k threshold creep : Nat} (bad : ¬ GoodPoint line k threshold creep) (point : Nat) (role : Role)
    (s : State) : doPointSet point (.set role line k threshold creep) s = (s, refusal .badParam) := by
  unfold doPointSet
  cases pointOf point with
  | none => rfl
  | some p => simp only [pointConfigOf_bad role bad]

theorem doPointSet_clear (p : Fin 32) (s : State) :
    doPointSet p.val .clear s =
      if (s.point p).settable then
        (s.setPoint p ((s.point p).disabledBy s.pins.phase[p.val]), okWith [byteOf (codeOfPointState .disabled)])
      else (s, refusal .pointBusy) := by
  simp only [doPointSet, pointOf_val]

theorem doPointSet_good {line : Fin 4} {k threshold creep : Nat} (good : GoodPoint line.val k threshold creep) (p : Fin 32)
    (role : Role) (s : State) {c : PointConfig}
    (config : c = { role := role, line := line, k := k, threshold := threshold, creepAllowance := creep }) :
    doPointSet p.val (.set role line.val k threshold creep) s =
      if (s.point p).settable then
        (s.setPoint p ((s.point p).configured c s.pins.nozzle[p.val] s.pins.phase[p.val]),
          okWith
            [byteOf (codeOfPointState ((s.point p).configured c s.pins.nozzle[p.val] s.pins.phase[p.val]).state)])
      else (s, refusal .pointBusy) := by
  rw [config]
  simp only [doPointSet, pointOf_val, pointConfigOf_good role good]

/-- Settles O36. -/
theorem pointSetConfigures : Obligations.PointSetConfigures := by
  intro point arg s takes
  have answers {t : State} {r : Response} (h : doPointSet point arg s = (t, r)) :
      exec (.pointSet point arg) s = .next (t.giveAnswer r) := exec_answers takes rfl h
  refine ⟨fun bad => answers ?_, ?_⟩
  · rcases bad with above | rfl | ⟨role, line, k, threshold, creep, rfl, bad⟩
    · exact doPointSet_above above arg s
    · exact doPointSet_unlisted point s
    · exact doPointSet_bad bad point role s
  · rintro p rfl x cleared
    refine ⟨fun form busy => answers ?_, fun clear alone free => answers ?_, ?_⟩
    · have unsettable : ¬ (s.point p).settable = true := fun h => busy ((settable_iff _).mp h)
      rcases form with rfl | ⟨role, line, k, threshold, creep, rfl, good⟩
      · rw [doPointSet_clear, if_neg unsettable]
      · obtain ⟨l, rfl⟩ : ∃ l : Fin 4, line = l.val := ⟨⟨line, by have := good.1; omega⟩, rfl⟩
        rw [doPointSet_good good p role s rfl, if_neg unsettable]
    · rw [clear, doPointSet_clear, if_pos ((settable_iff _).mpr ⟨alone, free⟩)]
      rfl
    · intro role line k threshold creep set good alone c
      refine ⟨fun idle => answers ?_, fun disabled => answers ?_⟩
      · have enabled : (s.point p).state ≠ .disabled := by rw [show (s.point p).state = .idle from idle]; simp
        rw [set, doPointSet_good good p role s (c := c) rfl, if_pos ((settable_iff _).mpr ⟨alone, .inl idle⟩),
          Point.configured, if_neg enabled]
        have code : byteOf (codeOfPointState (s.point p).state) = 1#8 := by
          rw [show (s.point p).state = .idle from idle]; rfl
        exact congrArg (fun b => (_, okWith [b])) code
      · rw [set, doPointSet_good good p role s (c := c) rfl, if_pos ((settable_iff _).mpr ⟨alone, .inr disabled⟩),
          Point.configured, if_pos disabled]
        cases s.pins.nozzle[p.val] <;> rfl

/-! ### POINT_READ and POINT_ENABLE -/

theorem bytesOfNat_length (k n : Nat) : (bytesOfNat k n).length = k := by
  induction k generalizing n with
  | zero => rfl
  | succ k ih => simp [bytesOfNat, ih]

theorem unsignedField_length (k n : Nat) : (unsignedField k n).length = k := bytesOfNat_length ..

theorem pointConfigField_length (c : Option PointConfig) : (pointConfigField c).length = 6 := by
  cases c with
  | none => rfl
  | some c => simp [pointConfigField, unsignedField_length]

theorem noFlowField_length (t : Timer) : (noFlowField t).length = 3 := by
  cases t with
  | running n => exact unsignedField_length ..
  | _ => exact bytesOfNat_length ..

theorem pointAnswer_length (x : Point) : (pointAnswer x).length = 21 := by
  simp [pointAnswer, pointConfigField_length, noFlowField_length, unsignedField_length]

theorem byteOf_toNat (b : Bool) : byteOf b.toNat = if b then 1#8 else 0#8 := by
  cases b <;> rfl

/-- Settles O37: a read changes nothing, and an enabled point keeps its configuration. -/
theorem pointReadAndEnable : Obligations.PointReadAndEnable := by
  refine ⟨fun point s takes => ⟨fun above => ?_, ?_⟩, fun point s takes => ⟨fun above => ?_, ?_⟩⟩
  · exact exec_answers takes rfl (by simp [doPointRead, pointOf_above above])
  · rintro p rfl
    refine ⟨exec_answers takes rfl (by simp [doPointRead, pointOf_val]), pointAnswer_length _, ?_⟩
    rw [pointAnswer, byteOf_toNat]
    cases (s.point p).config <;> cases (s.point p).noFlow <;> rfl
  · exact exec_answers takes rfl (by simp [doPointEnable, pointOf_above above])
  · rintro p rfl
    have locked : (s.point p).config.any (fun c => (s.line c.line).state == .lockedOut) = true ↔
        ∃ l, (s.point p).config.map (·.line) = some l ∧ (s.line l).state = .lockedOut := by
      cases (s.point p).config <;> simp
    rw [exec_taken takes rfl]
    simp only [doPointEnable, pointOf_val, locked]
    split
    · rfl
    split
    · rfl
    split <;> rfl

end Sys2Proof.Machine
end

section
/-! PROOFS. The pump law (R94 to R97): each elementary move of the field keeps it, and so every step. -/

namespace Sys2Proof.Machine

/-! ### What each change of a line does to its pump's form -/

/-- What the pump law asks of one line. -/
def Line.Pumped (s : State) (x : Line) : Prop :=
  (x.pump ≠ .off → x.state = .available ∧ s.ss.site = .running) ∧ PumpForm x

theorem pumpLaw_iff {s : State} : PumpLaw s ↔ ∀ l, (s.line l).Pumped s :=
  forall_congr' fun l => by rw [Line.Pumped, State.relay, bne_iff_ne]

theorem pumpForm_off {x : Line} (off : x.pump = .off) :
    PumpForm x ↔ x.requesting = 0 ∧ x.delayMet = false ∧ x.startTimer = .stopped ∧ x.runOnTimer = .stopped := by
  rw [PumpForm, off]

theorem pumpForm_on {x : Line} (on : x.pump = .on) :
    PumpForm x ↔
      x.requesting ≠ 0 ∧ x.runOnTimer = .stopped ∧ (x.delayMet = true ↔ x.startTimer = .stopped) := by
  rw [PumpForm, on]

theorem pumpForm_runOn {x : Line} (runOn : x.pump = .runOn) :
    PumpForm x ↔ x.requesting = 0 ∧ x.delayMet = true ∧ x.startTimer = .stopped ∧ x.runOnTimer ≠ .stopped := by
  rw [PumpForm, runOn]

/-- A pump that is forced to stop meets the law wherever its line stands (R96). -/
theorem pumped_stopped (s : State) (x : Line) : x.stopped.Pumped s :=
  ⟨fun energized => absurd rfl energized, (pumpForm_off rfl).mpr ⟨rfl, rfl, rfl, rfl⟩⟩

/-- The form reads the pump, the requests, the mark and the timers alone. -/
theorem PumpForm.congr {x y : Line} (form : PumpForm x) (pump : y.pump = x.pump := by rfl)
    (requesting : y.requesting = x.requesting := by rfl) (delayMet : y.delayMet = x.delayMet := by rfl)
    (startTimer : y.startTimer = .stopped ↔ x.startTimer = .stopped := by rfl)
    (runOnTimer : y.runOnTimer = .stopped ↔ x.runOnTimer = .stopped := by rfl) : PumpForm y := by
  unfold PumpForm
  rw [pump, requesting, delayMet]
  simp only [ne_eq, startTimer, runOnTimer]
  exact form

/-- A request from any pump state leaves the pump ON, at pressure or with its start timer running (R94). -/
theorem PumpForm.withRequest {x : Line} (form : PumpForm x) (p : Fin 32) : PumpForm (x.withRequest p) := by
  cases pump : x.pump with
  | off =>
    obtain ⟨-, -, -, runOnTimer⟩ := (pumpForm_off pump).mp form
    have form : (x.withRequest p).pump = .on ∧ (x.withRequest p).requesting = addPoint x.requesting p
        ∧ (x.withRequest p).runOnTimer = x.runOnTimer
        ∧ ((x.withRequest p).delayMet = true ↔ (x.withRequest p).startTimer = .stopped) := by
      simp [Line.withRequest, pump]
    obtain ⟨on, requesting, same, delay⟩ := form
    exact (pumpForm_on on).mpr ⟨requesting ▸ addPoint_ne_zero _ _, same.trans runOnTimer, delay⟩
  | on =>
    obtain ⟨-, runOnTimer, delay⟩ := (pumpForm_on pump).mp form
    rw [withRequest_on pump]
    exact (pumpForm_on (by exact pump)).mpr ⟨addPoint_ne_zero _ _, runOnTimer, delay⟩
  | runOn =>
    obtain ⟨-, -, startTimer, -⟩ := (pumpForm_runOn pump).mp form
    rw [withRequest_runOn pump]
    exact (pumpForm_on rfl).mpr ⟨addPoint_ne_zero _ _, rfl, iff_of_true rfl startTimer⟩

/-- The withdrawal of a request leaves the pump ON for the others, or running on (R96). -/
theorem PumpForm.withoutRequest {x : Line} (form : PumpForm x) {p : Fin 32} (has : hasPoint x.requesting p = true) :
    PumpForm (x.withoutRequest p) := by
  have asked : x.requesting ≠ 0 := requesting_ne_zero has
  cases pump : x.pump with
  | off => exact absurd ((pumpForm_off pump).mp form).1 asked
  | runOn => exact absurd ((pumpForm_runOn pump).mp form).1 asked
  | on =>
    obtain ⟨-, runOnTimer, delay⟩ := (pumpForm_on pump).mp form
    by_cases last : dropPoint x.requesting p = 0
    · rw [withoutRequest_last pump last]
      exact (pumpForm_runOn rfl).mpr ⟨rfl, rfl, rfl, start_ne_stopped _⟩
    · rw [withoutRequest_other fun h => last h.1]
      exact (pumpForm_on (by exact pump)).mpr ⟨last, runOnTimer, delay⟩

/-- A start timer runs only on a pump that is ON: its expiry meets the delay (R95). -/
theorem PumpForm.delayMet {x : Line} (form : PumpForm x) {k : Nat} (runs : x.startTimer = .running k) :
    PumpForm { x with delayMet := true, startTimer := .stopped } := by
  have started : x.startTimer ≠ .stopped := by rw [runs]; simp
  cases pump : x.pump with
  | off => exact absurd ((pumpForm_off pump).mp form).2.2.1 started
  | runOn => exact absurd ((pumpForm_runOn pump).mp form).2.2.1 started
  | on =>
    obtain ⟨asked, runOnTimer, -⟩ := (pumpForm_on pump).mp form
    exact (pumpForm_on rfl).mpr ⟨asked, runOnTimer, iff_of_true rfl rfl⟩

/-- A run-on timer runs only in RUN_ON: its expiry stops the pump (R96). -/
theorem PumpForm.ranOn {x : Line} (form : PumpForm x) {k : Nat} (runs : x.runOnTimer = .running k) :
    PumpForm { x with pump := .off, delayMet := false, runOnTimer := .stopped } := by
  have started : x.runOnTimer ≠ .stopped := by rw [runs]; simp
  cases pump : x.pump with
  | off => exact absurd ((pumpForm_off pump).mp form).2.2.2 started
  | on => exact absurd ((pumpForm_on pump).mp form).2.1 started
  | runOn =>
    obtain ⟨none, -, startTimer, -⟩ := (pumpForm_runOn pump).mp form
    exact (pumpForm_off rfl).mpr ⟨none, rfl, startTimer, rfl⟩

/-! ### The forced stop (R96) -/

theorem forcedStop_setLine (l : Fin 4) (x : Line) (s : State) : forcedStop l (s.setLine l x) = s.setLine l x.stopped := by
  simp [forcedStop, State.setLine, State.line]

theorem withoutRequest_stopped (x : Line) (p : Fin 32) : (x.withoutRequest p).stopped = x.stopped := by
  unfold Line.withoutRequest; split <;> rfl

/-! ### The moves -/

theorem pumpLaw_of_lines {s t : State} (law : PumpLaw s) (lines : t.lines = s.lines)
    (site : s.ss.site = .running → t.ss.site = .running) : PumpLaw t := by
  rw [pumpLaw_iff] at *
  intro l
  obtain ⟨energized, form⟩ := law l
  rw [line_of_lines lines]
  exact ⟨fun on => ⟨(energized on).1, site (energized on).2⟩, form⟩

theorem pumpLaw_setLine {s : State} {l : Fin 4} {x : Line} (law : PumpLaw s) (pumped : x.Pumped s) :
    PumpLaw (s.setLine l x) := by
  rw [pumpLaw_iff] at *
  intro k
  rw [setLine_line]
  split
  · exact pumped
  · exact law k

/-- While the site is not RUNNING every pump is OFF, so the site may change to any state. -/
theorem pumpLaw_setSite {s : State} (law : PumpLaw s) (still : s.ss.site ≠ .running) (site : SiteState) :
    PumpLaw { s with ss := { s.ss with site := site } } :=
  pumpLaw_of_lines law rfl fun running => absurd running still

theorem pumpAllowed_iff {s : State} {l : Fin 4} :
    s.pumpAllowed l = true ↔ (s.line l).state = .available ∧ s.ss.site = .running := by
  simp [State.pumpAllowed]

theorem pumpLaw_requestPump (p : Fin 32) (l : Fin 4) {s : State} (law : PumpLaw s) : PumpLaw (requestPump p l s).1 := by
  unfold requestPump
  split
  · exact law
  · next taken =>
    have allowed : s.pumpAllowed l = true ∧ hasPoint (s.line l).requesting p = false := by simpa using taken
    have stands := pumpAllowed_iff.mp allowed.1
    exact pumpLaw_setLine law ⟨fun _ => by rwa [withRequest_state], (pumpLaw_iff.mp law l).2.withRequest p⟩

theorem pumpLaw_withdrawPump (p : Fin 32) (l : Fin 4) {s : State} (law : PumpLaw s) : PumpLaw (withdrawPump p l s) := by
  unfold withdrawPump
  split
  · next has =>
    obtain ⟨energized, form⟩ := pumpLaw_iff.mp law l
    refine pumpLaw_setLine law ⟨fun _ => ?_, form.withoutRequest has⟩
    rw [withoutRequest_state]
    exact energized fun off => requesting_ne_zero has ((pumpForm_off off).mp form).1
  · exact law

theorem pumpLaw_withdrawOwn (p : Fin 32) {s : State} (law : PumpLaw s) : PumpLaw (withdrawOwn p s) := by
  unfold withdrawOwn
  split
  · exact pumpLaw_withdrawPump _ _ law
  · exact law

theorem pumpLaw_closeOrders (ps : List (Fin 32)) {s : State} (law : PumpLaw s) : PumpLaw (closeOrders ps s) := by
  refine foldl_keeps (P := PumpLaw) (fun s p law => ?_) ps s law
  unfold closeOrder closeValve
  split
  · exact pumpLaw_withdrawOwn p (pumpLaw_of_lines law rfl id)
  · exact law

/-- A line locked out is stopped before its points are closed (R98). -/
theorem pumpLaw_lineLockedOut (l : Fin 4) {s : State} (law : PumpLaw s) : PumpLaw (lineLockedOut l s) := by
  rw [lineLockedOut, forcedStop_setLine]
  exact pumpLaw_closeOrders _ (pumpLaw_setLine law (pumped_stopped ..))

theorem forcedStops_line (ls : List (Fin 4)) (l : Fin 4) (s : State) :
    (ls.foldl (fun s k => forcedStop k s) s).line l = if l ∈ ls then (s.line l).stopped else s.line l := by
  induction ls generalizing s with
  | nil => rfl
  | cons k rest ih =>
    rw [List.foldl_cons, ih, forcedStop, setLine_line]
    by_cases e : l = k
    · subst e; simp [Line.stopped]
    · simp [e]

/-- The halt leaves every line as it was but for its pump, which is stopped (R96, R154). -/
theorem stopForecourt_line (s : State) (l : Fin 4) : (stopForecourt s).line l = (s.line l).stopped := by
  rw [stopForecourt, forcedStops_line, if_pos (show l ∈ allLines from List.mem_finRange l)]
  exact closeOrders_line_kept Line.stopped withoutRequest_stopped ..

theorem pumpLaw_move (s t : State) (move : FieldMove s t) (law : PumpLaw s) : PumpLaw t := by
  have pumped := pumpLaw_iff.mp law
  cases move with
  | aside _ lines site => exact pumpLaw_of_lines law lines fun running => site.trans running
  | tag => exact pumpLaw_of_lines law rfl id
  | point => exact pumpLaw_of_lines law rfl id
  | prime => exact pumpLaw_requestPump _ _ (pumpLaw_of_lines law rfl id)
  | withdraw p => exact pumpLaw_withdrawOwn p law
  | delayMet runs => exact pumpLaw_setLine law ⟨(pumped _).1, (pumped _).2.delayMet runs⟩
  | ranOn runs => exact pumpLaw_setLine law ⟨fun on => absurd rfl on, (pumped _).2.ranOn runs⟩
  | count l =>
    have counted : Line.Pumped s { s.line l with
        startTimer := (s.line l).startTimer.tick, runOnTimer := (s.line l).runOnTimer.tick } :=
      ⟨(pumped l).1, (pumped l).2.congr (startTimer := tick_eq_stopped _) (runOnTimer := tick_eq_stopped _)⟩
    exact pumpLaw_of_lines (pumpLaw_setLine law counted) rfl id
  | price l n => exact pumpLaw_setLine law ⟨(pumped l).1, (pumped l).2.congr⟩
  | restore locked =>
    refine pumpLaw_setLine law ⟨fun on => ?_, (pumped _).2.congr⟩
    exact absurd (locked.symm.trans ((pumped _).1 on).1) (by simp)
  | erase l => rw [forcedStop_setLine]; exact pumpLaw_setLine law (pumped_stopped ..)
  | configure l c => exact pumpLaw_setLine law ⟨fun on => ⟨rfl, ((pumped l).1 on).2⟩, (pumped l).2.congr⟩
  | lockOut l => exact pumpLaw_lineLockedOut l law
  | halt => exact pumpLaw_iff.mpr fun l => by rw [stopForecourt_line]; exact pumped_stopped _ _
  | halted halting => exact pumpLaw_setSite law (by rw [halting]; simp) _
  | resume halted => exact pumpLaw_setSite law (by rw [halted]; simp) _
  | reset => exact pumpLaw_iff.mpr fun l => by rw [resetPart, afterReset_line]; exact pumped_stopped _ Line.atReset

/-- Settles O56: a step is a run of the field's moves; a pump starts only on a request that LC takes, and every move that
takes the line or the site away stops it. -/
theorem stepKeepsPumpLaw : Obligations.StepKeepsPumpLaw :=
  fun _ _ law h => (step_fieldRun h).keeps pumpLaw_move law

end Sys2Proof.Machine
end

section
/-! PROOFS. PRICE_SET, LINE_READ and LINE_RESTORE (R90, R92, R151). -/

namespace Sys2Proof.Machine

theorem lineOf_above {n : Nat} (above : 4 ≤ n) : lineOf n = none := dif_neg (not_lt.mpr above)

/-! ### The 35 bytes of LINE_READ -/

theorem signedField_length (k : Nat) (z : Int) : (signedField k z).length = k := bytesOfNat_length ..

theorem lineConfigField_length (c : Option LineConfig) : (lineConfigField c).length = 15 := by
  cases c with
  | none => rfl
  | some c => simp [lineConfigField, unsignedField_length]

theorem runOnField_length (x : Line) : (runOnField x).length = 3 := by
  unfold runOnField
  split
  · exact unsignedField_length ..
  · exact bytesOfNat_length ..
  · exact bytesOfNat_length ..

theorem lineAnswer_length (s : State) (l : Fin 4) : (lineAnswer s l).length = 35 := by
  simp [lineAnswer, lineConfigField_length, runOnField_length, unsignedField_length, signedField_length,
    bytesOfNat_length]

/-! ### The commands -/

theorem doPriceSet_refused {line price : Nat} (bad : 4 ≤ line ∨ 99999 < price) (s : State) :
    doPriceSet line price s = (s, refusal .badParam) := by
  unfold doPriceSet
  split
  · rfl
  · next l named =>
    rcases bad with above | dear
    · rw [lineOf_above above] at named; exact absurd named (by simp)
    · rw [if_neg (not_le.mpr dear)]

theorem doPriceSet_sets {price : Nat} (l : Fin 4) {s : State} (new : price ≤ 99999) (old : (s.line l).price ≤ 99999) :
    doPriceSet l.val price s =
      (s.setLine l { s.line l with price := price },
        okWith (bytesOfNat 3 (s.line l).price ++ bytesOfNat 3 price)) := by
  have fits {n : Nat} (h : n ≤ 99999) : n ≤ 256 ^ 3 - 1 := h.trans (by decide)
  simp only [doPriceSet, lineOf_val, if_pos new, unsignedField_fits (fits new), unsignedField_fits (fits old)]

theorem doLineRestore_val (l : Fin 4) (s : State) :
    doLineRestore l.val s =
      if (s.line l).state = .lockedOut then
        (s.setLine l { s.line l with state := if (s.line l).config = none then .unconfigured else .available }, okWith [])
      else (s, refusal .wrongState) := by
  simp only [doLineRestore, lineOf_val]
  cases (s.line l).config <;> rfl

/-- Settles O39. -/
theorem lineCommands : Obligations.LineCommands := by
  refine ⟨fun line price s takes => ⟨fun bad => ?_, ?_⟩, fun line s takes => ⟨fun above => ?_, ?_⟩,
    fun line s takes => ⟨fun above => ?_, ?_⟩⟩
  · exact exec_answers takes rfl (doPriceSet_refused bad s)
  · rintro l rfl new old
    exact exec_answers takes rfl (doPriceSet_sets l new old)
  · exact exec_answers takes rfl (by simp only [doLineRead, lineOf_above above])
  · rintro l rfl
    refine ⟨exec_answers takes rfl (by simp only [doLineRead, lineOf_val]), lineAnswer_length s l, ?_⟩
    simp only [lineAnswer, byteOf_toNat]
    -- the fields that a code or a case of the line stands for, one by one; the others are the same
    congr 8
    · cases (s.line l).config with
      | none => rfl
      | some c => simp only [lineConfigField]; cases c.basis <;> cases c.probe <;> rfl
    · cases (s.line l).state <;> rfl
    · cases (s.line l).pump <;> rfl
    · simp only [startLeft]
      cases (s.line l).pump <;> cases (s.line l).delayMet <;> cases (s.line l).startTimer <;> rfl
    · cases (s.probe l).state <;> rfl
  · exact exec_answers takes rfl (by simp only [doLineRestore, lineOf_above above])
  · rintro l rfl
    rw [exec_taken takes rfl]
    simp only [doLineRestore_val]
    split <;> rfl

end Sys2Proof.Machine
end

section
/-! PROOFS. LINE_SET (R88, R89, R124 to R126): its checks, the line it leaves, and what becomes of the line's probe. -/

namespace Sys2Proof.Machine

/-! ### The checks -/

/-- LINE_SET's ranges (R86, R88). -/
theorem lineConfigOf_eq_some {fuel : FuelClass} {f : LineFields} {c : LineConfig} :
    lineConfigOf fuel f = some c ↔ GoodLine fuel f c := by
  constructor
  · intro h
    unfold lineConfigOf at h
    split at h
    · next basis probe =>
      split at h
      · next good =>
        obtain rfl := Option.some.inj h
        simp only [inRange, Bool.and_eq_true, decide_eq_true_eq] at good
        obtain ⟨⟨⟨⟨⟨⟨⟨ceiling, margin⟩, lead⟩, alpha⟩, full⟩, slow⟩, delay⟩, runOn⟩ := good
        exact ⟨ceiling.1, ceiling.2, margin.2, lead.2, alpha.2, full.1, full.2, slow.1, slow.2, delay.2, runOn.2, basis,
          probe, rfl⟩
      · exact absurd h (by simp)
    · exact absurd h (by simp)
  · rintro ⟨least, most, margin, lead, alpha, full, top, slow, slower, delay, runOn, basis, probe, made⟩
    have valid : (inRange 1 2000000 f.ceiling && inRange 0 50000 f.slowMargin && inRange 0 20 f.closeLead
        && inRange 0 2000 f.alpha && inRange 1 255 f.fullDuty && inRange 1 f.fullDuty f.slowDuty
        && inRange 0 30 f.startDelay && inRange 0 255 f.runOn) = true := by
      simp only [inRange, Bool.and_eq_true, decide_eq_true_eq]
      omega
    simp only [lineConfigOf, basis, probe, valid, if_true]
    rw [← made]

theorem lineConfigOf_eq_none {fuel : FuelClass} {f : LineFields} :
    lineConfigOf fuel f = none ↔ ∀ c, ¬ GoodLine fuel f c := by
  simp only [Option.eq_none_iff_forall_ne_some, ne_eq, lineConfigOf_eq_some]

theorem lineHeld_iff {s : State} {l : Fin 4} :
    s.lineHeld l = true ↔ ∃ i g a, s.grantAt i = some g ∧ a ∈ g.allowances ∧ a.line = l := by
  simp only [State.lineHeld, List.any_eq_true, mem_grants, beq_iff_eq]
  constructor
  · rintro ⟨g, ⟨i, hg⟩, a, ha, on⟩; exact ⟨i, g, a, hg, ha, on⟩
  · rintro ⟨i, g, a, hg, ha, on⟩; exact ⟨g, ⟨i, hg⟩, a, ha, on⟩

theorem lineSetRefusal_locked {s : State} {l : Fin 4} (locked : (s.line l).state = .lockedOut) :
    lineSetRefusal l s = some .lineLocked := if_pos locked

theorem lineSetRefusal_busy {s : State} {l : Fin 4} (unlocked : (s.line l).state ≠ .lockedOut)
    (held : ∃ i g a, s.grantAt i = some g ∧ a ∈ g.allowances ∧ a.line = l) : lineSetRefusal l s = some .lineBusy := by
  rw [lineSetRefusal, if_neg unlocked, if_pos (lineHeld_iff.mpr held)]

theorem lineSetRefusal_free {s : State} {l : Fin 4} (unlocked : (s.line l).state ≠ .lockedOut)
    (free : ∀ i g, s.grantAt i = some g → ∀ a ∈ g.allowances, a.line ≠ l) : lineSetRefusal l s = none := by
  rw [lineSetRefusal, if_neg unlocked, if_neg]
  rw [lineHeld_iff]
  rintro ⟨i, g, a, hg, ha, on⟩
  exact free i g hg a ha on

theorem doLineSet_badParam {line : Nat} {arg : LineArg}
    (bad : 4 ≤ line ∨ arg = .unlisted ∨ ∃ fuel f, arg = .set fuel f ∧ ∀ c, ¬ GoodLine fuel f c) (s : State) :
    doLineSet line arg s = (s, refusal .badParam) := by
  rcases bad with above | rfl | ⟨fuel, f, rfl, bad⟩
  · simp only [doLineSet, lineOf_above above]
  · cases named : lineOf line <;> simp only [doLineSet, named]
  · cases named : lineOf line <;> simp only [doLineSet, named, lineConfigOf_eq_none.mpr bad]

theorem doLineSet_refused {l : Fin 4} {arg : LineArg} {s : State} {r : Result}
    (listed : arg = .clear ∨ ∃ fuel f c, arg = .set fuel f ∧ GoodLine fuel f c) (refused : lineSetRefusal l s = some r) :
    doLineSet l.val arg s = (s, refusal r) := by
  rcases listed with rfl | ⟨fuel, f, c, rfl, good⟩
  · simp only [doLineSet, lineOf_val, refused]
  · simp only [doLineSet, lineOf_val, lineConfigOf_eq_some.mpr good, refused]

theorem doLineSet_clear {l : Fin 4} {s : State} (admits : lineSetRefusal l s = none) :
    doLineSet l.val .clear s = (eraseLine l s, okWith [0#8]) := by
  simp only [doLineSet, lineOf_val, admits]
  rfl

theorem doLineSet_set {l : Fin 4} {s : State} {fuel : FuelClass} {f : LineFields} {c : LineConfig}
    (good : GoodLine fuel f c) (admits : lineSetRefusal l s = none) :
    doLineSet l.val (.set fuel f) s = (configureLine l c s, okWith [1#8]) := by
  simp only [doLineSet, lineOf_val, lineConfigOf_eq_some.mpr good, admits]
  rfl

/-! ### The change of rotation (R124, R125, R126) -/

theorem chooseChannel_setLine (l : Fin 4) (x : Line) (s : State) :
    chooseChannel (s.setLine l x) = { s.setLine l x with tu := (chooseChannel s).tu } := by
  have next : (s.setLine l x).nextChannel = s.nextChannel := rfl
  unfold chooseChannel
  rw [next]
  split <;> rfl

/-- A line's new entry and its change of rotation: of the rest, the Temperature Unit alone changes. -/
theorem changeRotation_setLine (l : Fin 4) (before after : Bool) (x : Line) (s : State) :
    changeRotation l before after (s.setLine l x) =
      { s.setLine l x with tu := (changeRotation l before after s).tu } := by
  cases before <;> cases after
  case false.true =>
    have entered : (s.setLine l x).setProbe l ((s.setLine l x).probe l).entered =
        (s.setProbe l (s.probe l).entered).setLine l x := rfl
    simp only [changeRotation, enterRotation, setLine_tu, entered, chooseChannel_setLine]
    split <;> rfl
  all_goals rfl

theorem chooseChannel_probe (s : State) (l : Fin 4) : (chooseChannel s).probe l = s.probe l := by
  unfold chooseChannel
  split <;> rfl

theorem mem_linesAfter (last l : Fin 4) : l ∈ linesAfter last :=
  List.mem_map.mpr ⟨l - (last + 1), List.mem_finRange _, by abel⟩

/-- The only line in rotation is the next channel, wherever the search starts (R125). -/
theorem nextChannel_only {s : State} {l : Fin 4} (mine : (s.probe l).inRotation = true)
    (others : ∀ k, k ≠ l → (s.probe k).inRotation = false) : s.nextChannel = some l := by
  have only : ∀ k, (s.probe k).inRotation = true → k = l := fun k turns => by
    by_contra ne
    exact absurd turns (by simp [others k ne])
  cases next : s.nextChannel with
  | none => exact absurd mine (List.find?_eq_none.mp next l (mem_linesAfter ..))
  | some k => rw [only k (List.find?_some (p := fun k => (s.probe k).inRotation) next)]

theorem enterRotation_probe (l k : Fin 4) (s : State) :
    (enterRotation l s).probe k = if k = l then (s.probe l).entered else s.probe k := by
  have entered : (s.setProbe l (s.probe l).entered).probe k = if k = l then (s.probe l).entered else s.probe k :=
    setProbe_probe ..
  unfold enterRotation
  dsimp only
  split
  · rw [chooseChannel_probe, entered]
  · exact entered

theorem enterRotation_busy {s : State} (l : Fin 4) (converting : s.tu.converting ≠ none) :
    (enterRotation l s).tu.converting = s.tu.converting := by
  rw [enterRotation, if_neg (by simpa using converting), setProbe_converting]

/-- An idle converter starts the only channel in rotation at once (R125). -/
theorem enterRotation_idle {s : State} {l : Fin 4} (idle : s.tu.converting = none)
    (others : ∀ k, k ≠ l → (s.probe k).inRotation = false) :
    (enterRotation l s).tu.converting = some { line := l, discard := false } ∧ (enterRotation l s).tu.lastServed = l := by
  have next : (s.setProbe l (s.probe l).entered).nextChannel = some l :=
    nextChannel_only (by simp [Probe.entered]) fun k ne => by simp [ne, others k ne]
  simp only [enterRotation, idle, Option.isNone_none, if_true, chooseChannel, next]
  exact ⟨rfl, rfl⟩

/-! ### The line -/

theorem eraseLine_eq (l : Fin 4) (s : State) :
    eraseLine l s =
      { s.setLine l (Line.stopped { s.line l with config := none, state := .unconfigured }) with
        tu := (changeRotation l (s.line l).hasProbe false s).tu } := by
  rw [eraseLine, forcedStop_setLine, changeRotation_setLine]

theorem configureLine_eq (l : Fin 4) (c : LineConfig) (s : State) :
    configureLine l c s =
      { s.setLine l { s.line l with config := some c, state := .available } with
        tu := (changeRotation l (s.line l).hasProbe c.probe s).tu } := by
  rw [configureLine, changeRotation_setLine]

theorem changeRotation_same (l : Fin 4) (has : Bool) (s : State) : changeRotation l has has s = s := by
  cases has <;> rfl

/-- Settles O38. -/
theorem lineSetConfigures : Obligations.LineSetConfigures := by
  intro line arg s takes
  refine ⟨fun bad => exec_answers takes rfl (doLineSet_badParam bad s), ?_⟩
  rintro l rfl listed
  refine ⟨fun locked => exec_answers takes rfl (doLineSet_refused listed (lineSetRefusal_locked locked)),
    fun unlocked held => exec_answers takes rfl (doLineSet_refused listed (lineSetRefusal_busy unlocked held)),
    fun unlocked free => ?_⟩
  have admits := lineSetRefusal_free unlocked free
  refine ⟨?_, ?_⟩
  · rintro rfl
    refine ⟨_, exec_answers takes rfl (doLineSet_clear admits), ?_⟩
    rw [eraseLine_eq]
    refine ⟨rfl, fun had => ?_, fun none => ?_, rfl, rfl, rfl, rfl, rfl, rfl, rfl, rfl, rfl, rfl⟩
    · rw [had]; rfl
    · rw [none]; rfl
  · rintro fuel f c rfl good
    refine ⟨_, exec_answers takes rfl (doLineSet_set good admits), ?_⟩
    rw [configureLine_eq]
    refine ⟨rfl, fun same => ?_, fun had none => ?_, fun none has => ?_, rfl, rfl, rfl, rfl, rfl, rfl, rfl, rfl, rfl, rfl⟩
    · rw [same, changeRotation_same]
    · rw [had, none]; rfl
    · rw [none, has]
      have probe (k : Fin 4) := enterRotation_probe l k s
      exact ⟨(probe l).trans (if_pos rfl), fun k ne => (probe k).trans (if_neg ne), enterRotation_busy l,
        enterRotation_idle⟩

end Sys2Proof.Machine
end

section
/-! PROOFS. A lockout (R98, R149, R150): the line, its points, the allowances it exhausts and the grants it ends, in
whatever order the grants are taken. -/

namespace Sys2Proof.Machine

/-! ### Grants that are taken one after another -/

/-- A slot that is not taken stays as it was. -/
theorem foldl_grantAt_other {f : State → Fin 24 → State}
    (others : ∀ s i j, j ≠ i → (f s i).grantAt j = s.grantAt j) {i : Fin 24} {slots : List (Fin 24)} (out : i ∉ slots)
    (s : State) : (slots.foldl f s).grantAt i = s.grantAt i := by
  induction slots generalizing s with
  | nil => rfl
  | cons j rest ih =>
    rw [List.mem_cons, not_or] at out
    rw [List.foldl_cons, ih out.2, others s j i out.1]

/-- Where each slot's turn leaves the other slots alone, a slot that is taken once finds its grant as it was, in some
state in which everything that the turns keep still holds. -/
theorem foldl_grantAt_turn {P : State → Prop} {f : State → Fin 24 → State} (keeps : ∀ s i, P s → P (f s i))
    (others : ∀ s i j, j ≠ i → (f s i).grantAt j = s.grantAt j) {i : Fin 24} {slots : List (Fin 24)}
    (once : slots.Nodup) (mine : i ∈ slots) {s : State} (holds : P s) :
    ∃ u, P u ∧ u.grantAt i = s.grantAt i ∧ (slots.foldl f s).grantAt i = (f u i).grantAt i := by
  induction slots generalizing s with
  | nil => exact absurd mine List.not_mem_nil
  | cons j rest ih =>
    obtain ⟨fresh, once⟩ := List.nodup_cons.mp once
    rw [List.foldl_cons]
    by_cases e : i = j
    · subst e
      exact ⟨s, holds, rfl, foldl_grantAt_other others fresh _⟩
    · obtain ⟨u, hu, same, turn⟩ := ih once ((List.mem_cons.mp mine).resolve_left e) (keeps s j holds)
      exact ⟨u, hu, same.trans (others s j i e), turn⟩

/-! ### An entry to CLOSING -/

theorem enterClosing_grantAt {i : Fin 24} {g : Grant} {s : State} (hg : s.grantAt i = some g) (r : EndReason)
    (j : Fin 24) :
    ∃ g', (g' = g.closingForm r ∨ g' = (g.closingForm r).settledForm)
      ∧ (enterClosing i r s).grantAt j = if j = i then some g' else s.grantAt j := by
  have closing := enterClosingCore_grantAt hg r
  rcases enterClosing_cases i r s with h | ⟨-, h⟩ <;> rw [h]
  · exact ⟨_, .inl rfl, closing j⟩
  · refine ⟨_, .inr rfl, ?_⟩
    rw [settle_grantAt ((closing i).trans (if_pos rfl)) (by simp [Grant.closingForm]), closing]
    split <;> rfl

/-- A line that no point asks for is left alone by close orders. -/
theorem closeOrders_line_quiet {l : Fin 4} {s : State} (quiet : (s.line l).requesting = 0) (ps : List (Fin 32)) :
    (closeOrders ps s).line l = s.line l := by
  refine foldl_keeps (P := fun t => t.line l = s.line l) (f := fun t p => closeOrder p t) (fun t p same => ?_) ps s rfl
  have none : hasPoint (t.line l).requesting p = false := by rw [same, quiet]; exact hasPoint_zero p
  rw [closeOrder_line, if_neg (by simp [none]), same]

theorem enterClosing_line_quiet {l : Fin 4} {s : State} (quiet : (s.line l).requesting = 0) (i : Fin 24) (r : EndReason) :
    (enterClosing i r s).line l = s.line l := by
  have same : (enterClosing i r s).line l = (enterClosingCore i r s).line l := line_of_lines (completionTest_lines ..) l
  rw [same, enterClosingCore]
  split
  · exact closeOrders_line_quiet (s := s.setSlot ..) quiet _
  · rfl

theorem closeOrders_stays_closed {p : Fin 32} {s : State} (closed : (s.point p).state.isOpenOrPriming = false)
    (ps : List (Fin 32)) : ((closeOrders ps s).point p).state.isOpenOrPriming = false := by
  rw [closeOrders_point, closed, if_neg (by simp)]
  exact closed

theorem enterClosing_stays_closed {p : Fin 32} {s : State} (closed : (s.point p).state.isOpenOrPriming = false)
    (i : Fin 24) (r : EndReason) : ((enterClosing i r s).point p).state.isOpenOrPriming = false := by
  rw [enterClosing, completionTest_point_state, enterClosingCore]
  split
  · exact closeOrders_stays_closed (s := s.setSlot ..) closed _
  · exact closed

/-- Of the Attention Unit an entry to CLOSING touches HALT_COMPLETE alone (R157). -/
theorem enterClosing_lineLockout (i : Fin 24) (r : EndReason) (s : State) :
    (enterClosing i r s).au.lineLockout = s.au.lineLockout := by
  have test (u : State) : (haltTest u).au.lineLockout = u.au.lineLockout := by
    unfold haltTest
    split <;> rfl
  rcases enterClosing_cases i r s with h | ⟨-, h⟩ <;> rw [h]
  · rw [enterClosingCore_au]
  · rw [settle, test, settleCore_au, enterClosingCore_au]

/-! ### One grant's turn (R150) -/

/-- Whether a lockout that leaves the grant without an OPEN allowance ends it (R150). -/
def Grant.endsByLockout (g : Grant) : Bool :=
  g.allExhausted && (g.state == .armed || g.state == .fueling || g.state == .held)

theorem lockoutGrant_eq {i : Fin 24} {g : Grant} {s : State} (hg : s.grantAt i = some g) :
    lockoutGrant i s = if g.endsByLockout then enterClosing i .lineLockout s else s := by
  rw [lockoutGrant, hg]
  rfl

/-- What an entry to CLOSING keeps, a grant's turn keeps. -/
theorem lockoutGrant_keeps {P : State → Prop} (closing : ∀ s i, P s → P (enterClosing i .lineLockout s)) (s : State)
    (i : Fin 24) (h : P s) : P (lockoutGrant i s) := by
  cases hg : s.grantAt i with
  | none => simpa only [lockoutGrant, hg] using h
  | some g =>
    rw [lockoutGrant_eq hg]
    split
    · exact closing s i h
    · exact h

theorem lockoutGrant_grantAt_other (s : State) (i j : Fin 24) (ne : j ≠ i) :
    (lockoutGrant i s).grantAt j = s.grantAt j := by
  cases hg : s.grantAt i with
  | none => simp only [lockoutGrant, hg]
  | some g =>
    rw [lockoutGrant_eq hg]
    split
    · obtain ⟨_, -, at_j⟩ := enterClosing_grantAt hg .lineLockout j
      rw [at_j, if_neg ne]
    · rfl

/-- A grant that the lockout ends has its outcome and is CLOSING or SETTLED; another one stays (R1, R29, R150). -/
theorem lockoutGrant_grantAt {i : Fin 24} {g : Grant} {s : State} (hg : s.grantAt i = some g) :
    ∃ g', (lockoutGrant i s).grantAt i = some g' ∧ g'.allowances = g.allowances
      ∧ (g.endsByLockout = true →
        g'.outcome = some (g.outcome.getD .lineLockout) ∧ (g'.state = .closing ∨ g'.state = .settled))
      ∧ (g.endsByLockout = false → g' = g) := by
  rw [lockoutGrant_eq hg]
  split
  · next ends =>
    obtain ⟨g', form, stands⟩ := enterClosing_grantAt hg .lineLockout i
    refine ⟨g', stands.trans (if_pos rfl), ?_⟩
    rcases form with rfl | rfl
    · exact ⟨rfl, fun _ => ⟨rfl, .inl rfl⟩, fun stays => absurd (ends.symm.trans stays) (by simp)⟩
    · exact ⟨rfl, fun _ => ⟨rfl, .inr rfl⟩, fun stays => absurd (ends.symm.trans stays) (by simp)⟩
  · next stays => exact ⟨g, hg, rfl, fun ends => absurd ends stays, fun _ => rfl⟩

/-! ### The allowances (R149) -/

/-- A grant with its allowance of a line EXHAUSTED. -/
def Grant.exhaustedOn (g : Grant) (l : Fin 4) : Grant := g.modAllowance l Allowance.exhaust

theorem exhaustedOn_allExhausted {g : Grant} {l : Fin 4} :
    (g.exhaustedOn l).allExhausted = true ↔ ∀ a ∈ g.allowances, a.line ≠ l → a.isOpen = false := by
  have exhausted (a : Allowance) : a.exhaust.isOpen = false := by
    cases h : a.armed <;> simp [Allowance.exhaust, Allowance.isOpen, h]
  rw [allExhausted_iff, Grant.exhaustedOn, Grant.modAllowance]
  simp only [List.forall_mem_map]
  refine forall₂_congr fun a _ => ?_
  by_cases e : a.line = l <;> simp [e, exhausted]

theorem exhaustedOn_endsByLockout {g : Grant} {l : Fin 4} :
    (g.exhaustedOn l).endsByLockout = true ↔
      (∀ a ∈ g.allowances, a.line ≠ l → a.isOpen = false)
        ∧ (g.state = .armed ∨ g.state = .fueling ∨ g.state = .held) := by
  have state : (g.exhaustedOn l).state = g.state := rfl
  rw [Grant.endsByLockout, Bool.and_eq_true, exhaustedOn_allExhausted, state]
  simp only [Bool.or_eq_true, beq_iff_eq, or_assoc]

theorem drawsOnLine_iff {x : GrantState} :
    x.drawsOnLine = true ↔ x = .armed ∨ x = .fueling ∨ x = .held ∨ x = .closing := by
  cases x <;> simp [GrantState.drawsOnLine]

theorem mem_slotsOpenOn {s : State} {l : Fin 4} {i : Fin 24} {g : Grant} (hg : s.grantAt i = some g) :
    i ∈ s.slotsOpenOn l ↔
      (g.state = .armed ∨ g.state = .fueling ∨ g.state = .held ∨ g.state = .closing) ∧ g.openOn l = true := by
  simp [State.slotsOpenOn, allSlots, hg, drawsOnLine_iff]

theorem slotsOpenOn_nodup (s : State) (l : Fin 4) : (s.slotsOpenOn l).Nodup := (List.nodup_finRange 24).filter _

theorem exhaustLine_grantAt {l : Fin 4} {slots : List (Fin 24)} (once : slots.Nodup) (s : State) (i : Fin 24) :
    (exhaustLine l slots s).grantAt i = if i ∈ slots then (s.grantAt i).map (·.exhaustedOn l) else s.grantAt i := by
  have others : ∀ (s : State) (i j : Fin 24), j ≠ i →
      (s.modGrant i (·.modAllowance l Allowance.exhaust)).grantAt j = s.grantAt j := fun s i j ne => by simp [ne]
  split
  · next mine =>
    obtain ⟨u, -, same, turn⟩ := foldl_grantAt_turn (P := fun _ => True) (s := s) (fun _ _ h => h) others once mine trivial
    rw [exhaustLine, turn, modGrant_grantAt, if_pos rfl, same]
    rfl
  · next out => exact foldl_grantAt_other others out s

/-- What no change of a grant touches, the exhaustion of a line leaves. -/
theorem exhaustLine_unchanged {β : Type} (view : State → β) (same : ∀ s i f, view (s.modGrant i f) = view s) (l : Fin 4)
    (slots : List (Fin 24)) (s : State) : view (exhaustLine l slots s) = view s :=
  foldl_unchanged view (fun s i => same s i _) slots s

/-! ### The lockout -/

theorem lineLockedOut_grantAt (l : Fin 4) (s : State) (i : Fin 24) : (lineLockedOut l s).grantAt i = s.grantAt i :=
  grantAt_of_gm (by simp [lineLockedOut, forcedStop]) i

/-- The line with its pump stopped, its points closed and the OPEN allowances on it exhausted. -/
def lockedOutState (l : Fin 4) (s : State) : State :=
  { exhaustLine l (s.slotsOpenOn l) (lineLockedOut l s) with draws := s.draws + 1 }

theorem lockout_eq {l : Fin 4} {s : State} (unlocked : (s.line l).state ≠ .lockedOut) :
    lockout l s =
      ((arrange s.draws (s.slotsOpenOn l)).foldl (fun s i => lockoutGrant i s) (lockedOutState l s)).raiseLineLockout l := by
  have slots : (lineLockedOut l s).slotsOpenOn l = s.slotsOpenOn l := by
    simp only [State.slotsOpenOn, lineLockedOut_grantAt]
  simp only [lockout, if_neg unlocked, slots]
  rfl

theorem lockedOutState_grantAt (l : Fin 4) (s : State) (i : Fin 24) :
    (lockedOutState l s).grantAt i =
      if i ∈ s.slotsOpenOn l then (s.grantAt i).map (·.exhaustedOn l) else s.grantAt i := by
  have core := exhaustLine_grantAt (l := l) (slotsOpenOn_nodup s l) (lineLockedOut l s) i
  rw [lineLockedOut_grantAt] at core
  exact core

theorem lockedOutState_line (l : Fin 4) (s : State) :
    (lockedOutState l s).line l = Line.stopped { s.line l with state := .lockedOut } := by
  have same : (lockedOutState l s).line l = (lineLockedOut l s).line l :=
    exhaustLine_unchanged (·.line l) (fun _ _ _ => rfl) ..
  have stopped : (forcedStop l (s.setLine l { s.line l with state := .lockedOut })).line l =
      Line.stopped { s.line l with state := .lockedOut } := by rw [forcedStop_setLine, setLine_line, if_pos rfl]
  rw [same, lineLockedOut, closeOrders_line_quiet (by rw [stopped]; rfl), stopped]

/-- What the turns of the grants keep, the lockout keeps from its beginning on. -/
theorem lockout_keeps {P : State → Prop} (closing : ∀ s i, P s → P (enterClosing i .lineLockout s)) {l : Fin 4}
    {s : State} (unlocked : (s.line l).state ≠ .lockedOut) (raised : ∀ t : State, P t → P (t.raiseLineLockout l))
    (h : P (lockedOutState l s)) : P (lockout l s) := by
  rw [lockout_eq unlocked]
  exact raised _ (foldl_keeps (lockoutGrant_keeps closing) _ _ h)

theorem lockout_line {l : Fin 4} {s : State} (unlocked : (s.line l).state ≠ .lockedOut) :
    (lockout l s).line l = Line.stopped { s.line l with state := .lockedOut } :=
  lockout_keeps (P := fun t => t.line l = Line.stopped { s.line l with state := .lockedOut })
    (fun t i same => (enterClosing_line_quiet (by rw [same]; rfl) i _).trans same) unlocked (fun _ h => h)
    (lockedOutState_line l s)

theorem lockout_closed {l : Fin 4} {s : State} (unlocked : (s.line l).state ≠ .lockedOut) {p : Fin 32} {c : PointConfig}
    (config : (s.point p).config = some c) (line : c.line = l) :
    ((lockout l s).point p).state.isOpenOrPriming = false := by
  refine lockout_keeps (P := fun t => (t.point p).state.isOpenOrPriming = false)
    (fun t i closed => enterClosing_stays_closed closed i _) unlocked (fun _ h => h) ?_
  have same : (lockedOutState l s).point p = (lineLockedOut l s).point p :=
    exhaustLine_unchanged (·.point p) (fun _ _ _ => rfl) ..
  rw [same]
  exact closeOrders_closed _ (mem_pointsOnLine config line)

theorem lockout_lineLockout {l : Fin 4} {s : State} (unlocked : (s.line l).state ≠ .lockedOut) :
    (lockout l s).au.lineLockout = s.au.lineLockout ||| (1#4 <<< l.val) := by
  have turns (slots : List (Fin 24)) (t : State) :
      (slots.foldl (fun s i => lockoutGrant i s) t).au.lineLockout = t.au.lineLockout :=
    foldl_keeps (P := fun u => u.au.lineLockout = t.au.lineLockout)
      (lockoutGrant_keeps fun u i same => (enterClosing_lineLockout i _ u).trans same) slots t rfl
  have before : (lockedOutState l s).au = (lineLockedOut l s).au :=
    exhaustLine_unchanged (·.au) (fun _ _ _ => rfl) ..
  have start : (lineLockedOut l s).au = s.au := by simp [lineLockedOut, forcedStop]
  rw [lockout_eq unlocked, State.raiseLineLockout]
  dsimp only
  rw [turns, before, start]

/-- Settles O34: a slot's turn changes no other slot, so whatever the order each grant meets its turn as the exhaustion
of the line left it. -/
theorem lockoutExhaustsLine : Obligations.LockoutExhaustsLine := by
  intro l s
  refine ⟨fun locked => if_pos locked, fun unlocked => ⟨lockout_line unlocked, fun p c => lockout_closed unlocked,
    lockout_lineLockout unlocked, fun i g hg => ?_⟩⟩
  have before := lockedOutState_grantAt l s i
  have order := (arrange_perm s.draws (s.slotsOpenOn l)).nodup_iff.mpr (slotsOpenOn_nodup s l)
  split
  · next drawn =>
    have mine := (mem_slotsOpenOn hg).mpr drawn
    rw [if_pos mine, hg] at before
    obtain ⟨u, -, same, turn⟩ := foldl_grantAt_turn (P := fun _ => True) (s := lockedOutState l s) (fun _ _ h => h)
      lockoutGrant_grantAt_other order ((mem_arrange ..).mpr mine) trivial
    obtain ⟨g', stands, allowances, ends, stays⟩ := lockoutGrant_grantAt (same.trans before)
    refine ⟨g', ?_, allowances, fun ⟨others, live⟩ => ends ?_, fun ⟨a, ha, ne, isOpen⟩ => ?_⟩
    · rw [lockout_eq unlocked]
      exact turn.trans stands
    · refine exhaustedOn_endsByLockout.mpr ⟨others, ?_⟩
      rcases drawn.1 with h | h | h | h
      exacts [.inl h, .inr (.inl h), .inr (.inr h), absurd h live]
    · have goesOn : (g.exhaustedOn l).endsByLockout = false := by
        rw [← Bool.not_eq_true, exhaustedOn_endsByLockout]
        rintro ⟨others, -⟩
        exact absurd isOpen (by simp [others a ha ne])
      rw [stays goesOn]
      exact ⟨rfl, rfl⟩
  · next undrawn =>
    have out := (mem_slotsOpenOn hg).not.mpr undrawn
    rw [if_neg out] at before
    rw [lockout_eq unlocked]
    exact (foldl_grantAt_other lockoutGrant_grantAt_other (by rwa [mem_arrange]) _).trans (before.trans hg)

end Sys2Proof.Machine
end

section
/-! PROOFS. The entry to HALTING (R97, R154, R155, R157, R161): once the forecourt is stopped each grant is taken in its
turn, which changes that grant, the tags of its points and the queues. -/

namespace Sys2Proof.Machine

/-! ### What the halt leaves -/

/-- A point seen without the grant it is attached to. -/
def Point.untagged (x : Point) : Point := { x with tag := none }

/-- From `s` to `t` grants have been settled or closed with their points already closed: what this leaves alone. -/
structure SettlesQuietly (s t : State) : Prop where
  points : ∀ p, (t.point p).untagged = (s.point p).untagged
  lines : t.lines = s.lines
  tu : t.tu = s.tu
  ss : t.ss = s.ss
  cp : t.cp = s.cp
  au : t.au = s.au
  pins : t.pins = s.pins
  draws : t.draws = s.draws
  pending : t.pending = s.pending
  programs : t.su.programs = s.su.programs
  denied : t.su.denied = s.su.denied
  link : t.su.link = s.su.link
  date : t.su.date = s.su.date

theorem SettlesQuietly.refl (s : State) : SettlesQuietly s s :=
  ⟨fun _ => rfl, rfl, rfl, rfl, rfl, rfl, rfl, rfl, rfl, rfl, rfl, rfl, rfl⟩

theorem SettlesQuietly.trans {s t u : State} (a : SettlesQuietly s t) (b : SettlesQuietly t u) : SettlesQuietly s u :=
  ⟨fun p => (b.points p).trans (a.points p), b.lines.trans a.lines, b.tu.trans a.tu, b.ss.trans a.ss, b.cp.trans a.cp,
    b.au.trans a.au, b.pins.trans a.pins, b.draws.trans a.draws, b.pending.trans a.pending,
    b.programs.trans a.programs, b.denied.trans a.denied, b.link.trans a.link, b.date.trans a.date⟩

theorem SettlesQuietly.state {s t : State} (h : SettlesQuietly s t) (p : Fin 32) :
    (t.point p).state = (s.point p).state :=
  show (t.point p).untagged.state = (s.point p).untagged.state from congrArg Point.state (h.points p)

theorem settlesQuietly_setSlot (s : State) (i : Fin 24) (x : Option Grant) : SettlesQuietly s (s.setSlot i x) :=
  ⟨fun _ => rfl, rfl, rfl, rfl, rfl, rfl, rfl, rfl, rfl, rfl, rfl, rfl, rfl⟩

theorem settlesQuietly_settleCore {i : Fin 24} {g : Grant} {s : State} (hg : s.grantAt i = some g)
    (live : g.state ≠ .settled) : SettlesQuietly s (settleCore i s) := by
  have amount : (settleCore i s).su = s.su ∨ ∃ pan n, (settleCore i s).su = s.su.addAmount pan n := by
    rw [settleCore_su hg live]
    unfold handAmount
    split
    · exact .inr ⟨_, _, rfl⟩
    · exact .inr ⟨_, _, rfl⟩
    · exact .inl rfl
  have su : (settleCore i s).su.programs = s.su.programs ∧ (settleCore i s).su.denied = s.su.denied
      ∧ (settleCore i s).su.link = s.su.link ∧ (settleCore i s).su.date = s.su.date := by
    rcases amount with h | ⟨pan, n, h⟩ <;> rw [h]
    · exact ⟨rfl, rfl, rfl, rfl⟩
    · exact addAmount_frame ..
  obtain ⟨programs, denied, link, date⟩ := su
  refine ⟨fun p => ?_, by simp, by simp, by simp, by simp, by simp, by simp, by simp, by simp, programs, denied, link,
    date⟩
  rw [settleCore_point hg live]
  split <;> rfl

/-! ### One grant's turn (R155) -/

/-- No point primes or delivers. -/
def AllClosed (s : State) : Prop := ∀ p, (s.point p).state.isOpenOrPriming = false

theorem SettlesQuietly.allClosed {s t : State} (h : SettlesQuietly s t) (closed : AllClosed s) : AllClosed t :=
  fun p => by rw [h.state]; exact closed p

theorem closeOrders_allClosed {s : State} (closed : AllClosed s) (ps : List (Fin 32)) : closeOrders ps s = s := by
  refine foldl_keeps (P := (· = s)) (f := fun s p => closeOrder p s) (fun t p same => ?_) ps s rfl
  rw [same, closeOrder, closed p]
  rfl

/-- Whether the halt settles the grant at once: a FUELING or HELD one waits for its busy points (R155). -/
def Grant.haltsAtOnce (s : State) (g : Grant) : Bool :=
  match g.state with
  | .pending | .armed => true
  | .fueling | .held => g.attached.all fun p => !(s.point p).state.blocksSettlement
  | .closing | .settled => false

/-- A grant that the halt has settled. -/
def Grant.haltEnded (g : Grant) : Grant := (g.recordOutcome .halt).settledForm

/-- What the halt makes of a grant. -/
def Grant.haltForm (s : State) (g : Grant) : Grant :=
  if g.haltsAtOnce s then g.haltEnded
  else if g.state = .fueling ∨ g.state = .held then g.closingForm .halt
  else g

theorem SettlesQuietly.haltsAtOnce {s t : State} (h : SettlesQuietly s t) (g : Grant) :
    g.haltsAtOnce t = g.haltsAtOnce s := by
  simp only [Grant.haltsAtOnce, h.state]

theorem SettlesQuietly.haltForm {s t : State} (h : SettlesQuietly s t) (g : Grant) : g.haltForm t = g.haltForm s := by
  simp only [Grant.haltForm, h.haltsAtOnce]

theorem Grant.haltsAtOnce_iff (s : State) (g : Grant) :
    g.haltsAtOnce s = true ↔
      g.state = .pending ∨ g.state = .armed
        ∨ (g.state = .fueling ∨ g.state = .held) ∧ ∀ p ∈ g.attached, (s.point p).state.blocksSettlement = false := by
  unfold Grant.haltsAtOnce
  split <;> simp [*]

theorem Grant.haltForm_settled (s : State) (g : Grant) :
    (g.haltForm s).state = .settled ↔ g.haltsAtOnce s = true ∨ g.state = .settled := by
  unfold Grant.haltForm
  split
  · next once => simp [once, Grant.haltEnded, Grant.settledForm]
  · next waits =>
    split
    · next serves => rcases serves with h | h <;> simp [waits, Grant.closingForm, h]
    · simp [waits]

/-- The tag that the turn of a slot puts in the settled queue. -/
def State.haltTag (s : State) (i : Fin 24) : Option Nat :=
  (s.grantAt i).bind fun g => if g.haltsAtOnce s then some g.tag else none

/-- What the turn of slot `i` makes of the state. -/
structure HaltTurn (i : Fin 24) (s t : State) : Prop where
  quiet : SettlesQuietly s t
  mine : t.grantAt i = (s.grantAt i).map (·.haltForm s)
  others : ∀ j, j ≠ i → t.grantAt j = s.grantAt j
  tags : t.gm.settledTags = s.gm.settledTags ++ (s.haltTag i).toList

/-- A turn that settles the grant in the form it has come to. -/
theorem haltTurn_settleCore {i : Fin 24} {g g' : Grant} {s : State} (hg : s.grantAt i = some g)
    (once : g.haltsAtOnce s = true) (live : g'.state ≠ .settled) (tag : g'.tag = g.tag)
    (form : g'.settledForm = g.haltEnded) : HaltTurn i s (settleCore i (s.setSlot i (some g'))) := by
  have stands : (s.setSlot i (some g')).grantAt i = some g' := setSlot_grantAt_self ..
  refine ⟨(settlesQuietly_setSlot ..).trans (settlesQuietly_settleCore stands live), ?_, fun j ne => ?_, ?_⟩
  · rw [settleCore_grantAt stands live, if_pos rfl, form, hg]
    simp [Grant.haltForm, once]
  · rw [settleCore_grantAt stands live, if_neg ne, setSlot_grantAt, if_neg ne]
  · rw [settleCore_settledTags stands live, setSlot_settledTags, tag]
    simp [State.haltTag, hg, once]

/-- A turn that leaves the grant waiting, or as it was. -/
theorem haltTurn_setSlot {i : Fin 24} {g : Grant} {s : State} (hg : s.grantAt i = some g)
    (waits : g.haltsAtOnce s = false) : HaltTurn i s (s.setSlot i (some (g.haltForm s))) := by
  refine ⟨settlesQuietly_setSlot .., ?_, fun j ne => ?_, ?_⟩
  · rw [setSlot_grantAt_self, hg]; rfl
  · rw [setSlot_grantAt, if_neg ne]
  · simp [State.haltTag, hg, waits]

theorem haltTurn_refl {i : Fin 24} {s : State} (waits : ∀ g, s.grantAt i = some g → g.haltsAtOnce s = false)
    (stays : ∀ g, s.grantAt i = some g → g.haltForm s = g) : HaltTurn i s s := by
  cases hg : s.grantAt i with
  | none => exact ⟨.refl s, by rw [hg]; rfl, fun _ _ => rfl, by simp [State.haltTag, hg]⟩
  | some g =>
    exact ⟨.refl s, by rw [hg, Option.map_some, stays g hg], fun _ _ => rfl, by simp [State.haltTag, hg, waits g hg]⟩

/-- A FUELING or HELD grant enters CLOSING and settles at once where none of its points is busy. -/
theorem haltTurn_closing {i : Fin 24} {g : Grant} {s : State} (closed : AllClosed s) (hg : s.grantAt i = some g)
    (serves : g.state = .fueling ∨ g.state = .held) :
    HaltTurn i s
      (if (enterClosingCore i .halt s).completionDue i then settleCore i (enterClosingCore i .halt s)
      else enterClosingCore i .halt s) := by
  have core : enterClosingCore i .halt s = s.setSlot i (some (g.closingForm .halt)) := by
    rw [enterClosingCore_eq hg]
    exact closeOrders_allClosed (s := s.setSlot ..) closed _
  have waits_or_not : (enterClosingCore i .halt s).completionDue i = g.haltsAtOnce s := by
    rw [Bool.eq_iff_iff, enterClosingCore_due hg, Grant.haltsAtOnce_iff]
    rcases serves with h | h <;> simp [h]
  rw [waits_or_not, core]
  split
  · next once => exact haltTurn_settleCore hg once (by simp [Grant.closingForm]) rfl rfl
  · next waits =>
    have form : g.haltForm s = g.closingForm .halt := by simp [Grant.haltForm, waits, serves]
    rw [← form]
    exact haltTurn_setSlot hg (by simpa using waits)

theorem haltTurn_haltGrant (i : Fin 24) {s : State} (closed : AllClosed s) : HaltTurn i s (haltGrant i s) := by
  cases hg : s.grantAt i with
  | none => simpa only [haltGrant, hg] using haltTurn_refl (by simp [hg]) (by simp [hg])
  | some g =>
    have ended (unserved : g.state = .pending ∨ g.state = .armed) :
        HaltTurn i s (settleCore i (s.modGrant i (·.recordOutcome .halt))) := by
      have slot : s.modGrant i (·.recordOutcome .halt) = s.setSlot i (some (g.recordOutcome .halt)) := by
        rw [State.modGrant, hg]; rfl
      have once : g.haltsAtOnce s = true := by
        rw [Grant.haltsAtOnce_iff]
        exact unserved.imp_right .inl
      rw [slot]
      exact haltTurn_settleCore hg once (by rcases unserved with h | h <;> simp [Grant.recordOutcome, h]) rfl rfl
    have ended_before (h : g.state = .closing ∨ g.state = .settled) : HaltTurn i s s := by
      have waits : g.haltsAtOnce s = false := by rcases h with h | h <;> simp [Grant.haltsAtOnce, h]
      have stays : g.haltForm s = g := by rcases h with h | h <;> simp [Grant.haltForm, waits, h]
      refine haltTurn_refl (fun k hk => ?_) (fun k hk => ?_)
      · rw [← Option.some.inj (hg.symm.trans hk), waits]
      · rw [← Option.some.inj (hg.symm.trans hk), stays]
    simp only [haltGrant, hg]
    split
    · next h => exact ended (.inl h)
    · next h => exact ended (.inr h)
    · next h => exact haltTurn_closing closed hg (.inl h)
    · next h => exact haltTurn_closing closed hg (.inr h)
    · next h => exact ended_before (.inl h)
    · next h => exact ended_before (.inr h)

/-! ### Every grant's turn -/

/-- The turns taken one after another on a stopped forecourt. -/
theorem haltFold_quiet {b : State} (closed : AllClosed b) (slots : List (Fin 24)) :
    SettlesQuietly b (slots.foldl (fun s i => haltGrant i s) b) :=
  foldl_keeps (P := SettlesQuietly b) (f := fun s i => haltGrant i s)
    (fun _ i h => h.trans (haltTurn_haltGrant i (h.allClosed closed)).quiet) slots b (.refl b)

theorem haltFold_grantAt {slots : List (Fin 24)} (once : slots.Nodup) {s : State} (closed : AllClosed s) (i : Fin 24) :
    (slots.foldl (fun s i => haltGrant i s) s).grantAt i =
      if i ∈ slots then (s.grantAt i).map (·.haltForm s) else s.grantAt i := by
  induction slots generalizing s with
  | nil => rfl
  | cons j rest ih =>
    obtain ⟨fresh, once⟩ := List.nodup_cons.mp once
    have turn := haltTurn_haltGrant j closed
    have form : (fun g : Grant => g.haltForm (haltGrant j s)) = fun g => g.haltForm s := funext turn.quiet.haltForm
    rw [List.foldl_cons, ih once (turn.quiet.allClosed closed), form]
    by_cases e : i = j
    · subst e
      simp [fresh, turn.mine]
    · simp [e, turn.others i e]

theorem haltTag_turn {i j : Fin 24} {s t : State} (turn : HaltTurn i s t) (ne : j ≠ i) : t.haltTag j = s.haltTag j := by
  simp only [State.haltTag, turn.others j ne, turn.quiet.haltsAtOnce]

theorem haltFold_settledTags {slots : List (Fin 24)} (once : slots.Nodup) {s : State} (closed : AllClosed s) :
    (slots.foldl (fun s i => haltGrant i s) s).gm.settledTags = s.gm.settledTags ++ slots.filterMap s.haltTag := by
  induction slots generalizing s with
  | nil => simp
  | cons i rest ih =>
    obtain ⟨fresh, once⟩ := List.nodup_cons.mp once
    have turn := haltTurn_haltGrant i closed
    have later : rest.filterMap (haltGrant i s).haltTag = rest.filterMap s.haltTag :=
      List.filterMap_congr fun j hj => haltTag_turn turn fun e => fresh (e ▸ hj)
    rw [List.foldl_cons, ih once (turn.quiet.allClosed closed), turn.tags, later, List.filterMap_cons]
    cases s.haltTag i <;> simp

theorem mem_slotsOfLane {s : State} {n : Fin 8} {i : Fin 24} :
    i ∈ s.slotsOfLane n ↔ ∃ g, s.grantAt i = some g ∧ g.lane = n := by
  simp [State.slotsOfLane, allSlots, Option.any_eq_true]

/-- Each slot has its turn once. -/
theorem laneSlots_nodup (s : State) : (allLanes.flatMap s.slotsOfLane).Nodup := by
  refine List.nodup_flatMap.mpr ⟨fun n _ => (List.nodup_finRange 24).filter _, ?_⟩
  refine (List.nodup_finRange 8).imp fun ne i hi hj => ?_
  obtain ⟨g, hg, rfl⟩ := mem_slotsOfLane.mp hi
  obtain ⟨k, hk, rfl⟩ := mem_slotsOfLane.mp hj
  exact ne (by rw [Option.some.inj (hg.symm.trans hk)])

theorem mem_laneSlots {s : State} {i : Fin 24} {g : Grant} (hg : s.grantAt i = some g) :
    i ∈ allLanes.flatMap s.slotsOfLane :=
  List.mem_flatMap.mpr ⟨g.lane, List.mem_finRange _, mem_slotsOfLane.mpr ⟨g, hg, rfl⟩⟩

theorem haltGrants_quiet {s : State} (closed : AllClosed s) : SettlesQuietly s (haltGrants s) :=
  haltFold_quiet closed _

theorem haltGrants_grantAt {s : State} (closed : AllClosed s) (i : Fin 24) :
    (haltGrants s).grantAt i = (s.grantAt i).map (·.haltForm s) := by
  rw [haltGrants, haltFold_grantAt (laneSlots_nodup s) closed]
  cases hg : s.grantAt i with
  | none => simp
  | some g => rw [if_pos (mem_laneSlots hg)]

theorem haltGrants_settledTags {s : State} (closed : AllClosed s) :
    (haltGrants s).gm.settledTags =
      s.gm.settledTags ++ allLanes.flatMap fun n => (s.slotsOfLane n).filterMap s.haltTag := by
  rw [haltGrants, haltFold_settledTags (laneSlots_nodup s) closed, List.filterMap_flatMap]

/-! ### The forecourt stopped (R154) -/

/-- What neither a close order nor a forced stop changes, the stop of the forecourt leaves but for the site state. -/
theorem stopForecourt_unchanged {β : Type} (view : State → β) (close : ∀ p s, view (closeOrder p s) = view s)
    (stop : ∀ l s, view (forcedStop l s) = view s) (s : State) :
    view (stopForecourt s) = view { s with ss := { s.ss with site := .halting } } := by
  rw [stopForecourt, foldl_unchanged view (f := fun s l => forcedStop l s) fun s l => stop l s]
  exact foldl_unchanged view (f := fun s p => closeOrder p s) (fun s p => close p s) ..

theorem stopForecourt_ss (s : State) : (stopForecourt s).ss = { s.ss with site := .halting } :=
  stopForecourt_unchanged (·.ss) closeOrder_ss (fun _ _ => rfl) s

theorem stopForecourt_allClosed (s : State) : AllClosed (stopForecourt s) := fun p => stopForecourt_closed p s

/-- A point that the stop closes goes on blocking the settlement until its window is over. -/
theorem stopForecourt_blocks (s : State) (p : Fin 32) :
    ((stopForecourt s).point p).state.blocksSettlement = (s.point p).state.blocksSettlement := by
  rw [stopForecourt_point]
  split
  · next h => rw [(blocksSettlement_iff _).mpr (.inl h)]; rfl
  · rfl

theorem stopForecourt_haltsAtOnce (s : State) (g : Grant) : g.haltsAtOnce (stopForecourt s) = g.haltsAtOnce s := by
  simp only [Grant.haltsAtOnce, stopForecourt_blocks]

theorem stopForecourt_haltForm (s : State) (g : Grant) : g.haltForm (stopForecourt s) = g.haltForm s := by
  simp only [Grant.haltForm, stopForecourt_haltsAtOnce]

/-! ### The entry to HALTING -/

/-- The entry to HALTING up to its completion test (R154, R157). -/
def State.haltEntered (s : State) : State := placeSiteNotice (haltGrants (stopForecourt s))

theorem enterHalting_eq_haltTest (s : State) : enterHalting s = haltTest s.haltEntered := rfl

theorem settlesQuietly_placeSiteNotice (s : State) : SettlesQuietly s (placeSiteNotice s) :=
  ⟨fun _ => rfl, rfl, rfl, rfl, rfl, rfl, rfl, rfl, rfl, rfl, rfl, rfl, rfl⟩

theorem haltEntered_quiet (s : State) : SettlesQuietly (stopForecourt s) s.haltEntered :=
  (haltGrants_quiet (stopForecourt_allClosed s)).trans (settlesQuietly_placeSiteNotice _)

theorem haltEntered_grantAt (s : State) (i : Fin 24) : s.haltEntered.grantAt i = (s.grantAt i).map (·.haltForm s) := by
  rw [State.haltEntered, grantAt_of_gm (placeSiteNotice_gm _), haltGrants_grantAt (stopForecourt_allClosed s),
    grantAt_of_gm (stopForecourt_gm s)]
  simp only [stopForecourt_haltForm]

theorem haltEntered_ss (s : State) : s.haltEntered.ss = { s.ss with site := .halting } := by
  rw [(haltEntered_quiet s).ss, stopForecourt_ss]

theorem enterHalting_grantAt (s : State) (i : Fin 24) :
    (enterHalting s).grantAt i = (s.grantAt i).map (·.haltForm s) := by
  rw [enterHalting_eq_haltTest, haltTest_grantAt, haltEntered_grantAt]

/-- The points that a close order and the halt act on. -/
theorem isOpenOrPriming_iff (x : PointState) :
    x.isOpenOrPriming = true ↔ x = .priming ∨ x = .flowing ∨ x = .slowing := by
  cases x <;> simp [PointState.isOpenOrPriming]

theorem enterHalting_untagged (s : State) (p : Fin 32) :
    ((enterHalting s).point p).untagged = ((stopForecourt s).point p).untagged := by
  rw [enterHalting_eq_haltTest, haltTest_point, (haltEntered_quiet s).points]

theorem enterHalting_line (s : State) (l : Fin 4) : (enterHalting s).line l = (s.line l).stopped := by
  have lines : (enterHalting s).lines = (stopForecourt s).lines := by
    rw [enterHalting_eq_haltTest, haltTest_lines, (haltEntered_quiet s).lines]
  exact (line_of_lines lines l).trans (stopForecourt_line s l)

/-- The tags of the settled grants, as the halt finds them lane by lane. -/
theorem enterHalting_settledTags (s : State) :
    (enterHalting s).gm.settledTags =
      s.gm.settledTags ++ allLanes.flatMap fun n => (s.slotsOfLane n).filterMap s.haltTag := by
  have same := grantAt_of_gm (stopForecourt_gm s)
  rw [enterHalting, haltTest_gm, placeSiteNotice_gm, haltGrants_settledTags (stopForecourt_allClosed s),
    stopForecourt_gm]
  have tags : (stopForecourt s).haltTag = s.haltTag := funext fun i => by
    simp only [State.haltTag, same, stopForecourt_haltsAtOnce]
  simp only [State.slotsOfLane, tags, same]

/-- A slot's turn hands over a tag exactly where it takes a live grant to SETTLED. -/
theorem haltTag_of_lane (s : State) (n : Fin 8) (i : Fin 24) :
    (if (s.grantAt i).any (·.lane == n) then s.haltTag i else none) =
      if (s.grantAt i).any (fun g => g.lane == n && g.state != .settled)
          && ((s.grantAt i).map (·.haltForm s)).any (fun g => g.state == .settled)
        then (s.grantAt i).map (·.tag) else none := by
  cases hg : s.grantAt i with
  | none => rfl
  | some g =>
    have ended := g.haltForm_settled s
    by_cases settled : g.state = .settled
    · have waits : g.haltsAtOnce s = false := by simp [Grant.haltsAtOnce, settled]
      simp [State.haltTag, hg, settled, waits]
    · by_cases mine : g.lane = n
      · simp [State.haltTag, hg, settled, mine, ended]
      · simp [mine]

theorem enterHalting_general (s : State) :
    (enterHalting s).ibi.general = some { halted := true, link := s.su.link } := by
  have quiet := haltGrants_quiet (stopForecourt_allClosed s)
  have su : (stopForecourt s).su = s.su := stopForecourt_unchanged (·.su) closeOrder_su (fun _ _ => rfl) s
  have notice : (haltGrants (stopForecourt s)).siteNotice = { halted := true, link := s.su.link } := by
    rw [State.siteNotice, quiet.ss, stopForecourt_ss, quiet.link, su]
    rfl
  rw [enterHalting_eq_haltTest, haltTest_ibi, ← notice]
  rfl

/-- The completion test comes last, with the site in HALTING (R157). -/
theorem enterHalting_eq (s : State) :
    enterHalting s =
      if s.haltEntered.anyClosing then s.haltEntered
      else { s.haltEntered with ss := { s.haltEntered.ss with site := .halted } }.raiseHaltComplete := by
  rw [enterHalting_eq_haltTest]
  split
  · next closing => exact haltTest_idle (by simp [closing])
  · next finished => exact haltTest_eq ⟨by rw [haltEntered_ss], by simpa using finished⟩

theorem haltEntered_anyClosing (s : State) :
    s.haltEntered.anyClosing = true ↔ ∃ i g, (enterHalting s).grantAt i = some g ∧ g.state = .closing := by
  simp only [anyClosing_iff, haltEntered_grantAt, enterHalting_grantAt]

/-- Settles O45. -/
theorem haltStopsForecourt : Obligations.HaltStopsForecourt := by
  intro s t
  have entered : t = haltTest s.haltEntered := enterHalting_eq_haltTest s
  have quiet := haltEntered_quiet s
  have su : (stopForecourt s).su = s.su := stopForecourt_unchanged (·.su) closeOrder_su (fun _ _ => rfl) s
  have au : s.haltEntered.au = s.au :=
    quiet.au.trans (stopForecourt_unchanged (·.au) closeOrder_au (fun _ _ => rfl) s)
  refine ⟨fun p => ?_, fun l => ?_, fun i free => ?_, fun i g hg => ?_, ?_, ?_, fun closing => ?_, fun finished => ?_,
    ?_, ?_, ?_, ?_, ?_, ?_, ?_, ?_, ?_⟩
  · refine (enterHalting_untagged s p).trans ?_
    simp only [stopForecourt_point, isOpenOrPriming_iff]
    split <;> rfl
  · rw [enterHalting_line]; rfl
  · rw [enterHalting_grantAt, free]; rfl
  · have stands : t.grantAt i = some (g.haltForm s) := by rw [enterHalting_grantAt, hg]; rfl
    intro busy
    have once : g.haltsAtOnce s = true ↔
        g.state = .pending ∨ g.state = .armed ∨ (g.state = .fueling ∨ g.state = .held) ∧ ¬ busy := by
      rw [Grant.haltsAtOnce_iff]
      simp [busy, ← blocksSettlement_cases]
    refine ⟨fun ends => ?_, fun waits => ?_, fun ended => ?_⟩
    · rw [stands, Grant.haltForm, if_pos (once.mpr ends)]
      rfl
    · obtain ⟨serves, open_point⟩ := waits
      have not_once : ¬ g.haltsAtOnce s = true := by
        rw [once]
        rcases serves with h | h <;> simp [h, open_point]
      rw [stands, Grant.haltForm, if_neg not_once, if_pos serves]
      rfl
    · rw [stands, Grant.haltForm, if_neg (by rw [once]; rcases ended with h | h <;> simp [h]),
        if_neg (by rcases ended with h | h <;> simp [h])]
  · rw [enterHalting_settledTags]
    simp only [t, enterHalting_grantAt, State.slotsOfLane, List.filterMap_filter, haltTag_of_lane]
  · rw [enterHalting_general]
  · have halting : t = s.haltEntered := (enterHalting_eq s).trans (if_pos ((haltEntered_anyClosing s).mpr closing))
    rw [halting]
    exact ⟨haltEntered_ss s, au⟩
  · have halted : t = _ := (enterHalting_eq s).trans (if_neg fun closing => by
      obtain ⟨i, g, hg, state⟩ := (haltEntered_anyClosing s).mp closing
      exact finished i g hg state)
    rw [halted]
    simp [haltEntered_ss, State.raiseHaltComplete, au]
  · rw [entered, haltTest_su, quiet.programs, su]
  · rw [entered, haltTest_su, quiet.denied, su]
  · rw [entered, haltTest_su, quiet.link, su]
  · rw [entered, haltTest_su, quiet.date, su]
  · rw [entered, haltTest_tu, quiet.tu]
    exact stopForecourt_unchanged (·.tu) closeOrder_tu (fun _ _ => rfl) s
  · rw [entered, haltTest_cp, quiet.cp]
    exact stopForecourt_unchanged (·.cp) closeOrder_cp (fun _ _ => rfl) s
  · rw [entered, haltTest_pins, quiet.pins]
    exact stopForecourt_unchanged (·.pins) closeOrder_pins (fun _ _ => rfl) s
  · rw [entered, haltTest_draws, quiet.draws]
    exact stopForecourt_unchanged (·.draws) closeOrder_draws (fun _ _ => rfl) s
  · rw [entered, haltTest_pending, quiet.pending]
    exact stopForecourt_unchanged (·.pending) closeOrder_pending (fun _ _ => rfl) s

end Sys2Proof.Machine
end

section
/-! PROOFS. The sale arithmetic (R106 to R116): the totals and volumes of a point record, the compensation factor, and
what a money cap costs. -/

namespace Sys2Proof.Machine

/-! ### A point record (R106, R107, R111) -/

theorem pulsesAfter_eq (r : PointRecord) (n : Int) :
    pulsesAfter r n =
      if (r.pulses : Int) + n < 0 then 0
      else if 4294967295 < (r.pulses : Int) + n then 4294967295
      else ((r.pulses : Int) + n).toNat := by
  unfold pulsesAfter Config.pulseTop
  split
  · omega
  · split <;> omega

theorem accumulatorAfter_eq (r : PointRecord) (n f : Int) :
    accumulatorAfter r n f =
      if (r.pulses : Int) + n < 0 then 0
      else if (r.accumulator : Int) + n * f < 0 then 0
      else if 18446744073709551615 < (r.accumulator : Int) + n * f then 18446744073709551615
      else ((r.accumulator : Int) + n * f).toNat := by
  unfold accumulatorAfter pulsesClear Config.accumulatorTop
  generalize (r.accumulator : Int) + n * f = sum
  simp only [decide_eq_true_eq]
  split
  · rfl
  · split
    · omega
    · split <;> omega

theorem accumulatorAfter_le (r : PointRecord) (n f : Int) : accumulatorAfter r n f ≤ 18446744073709551615 := by
  unfold accumulatorAfter
  split
  · exact Nat.zero_le _
  · exact Nat.min_le_right ..

theorem accumulate_eq (r : PointRecord) (basis : Basis) (n f : Int) :
    r.accumulate basis n f =
      { point := r.point
        k := r.k
        pulses := pulsesAfter r n
        accumulator := accumulatorAfter r n f
        gross := pulsesAfter r n * 1000 / r.k
        compensated := accumulatorAfter r n f / (r.k * 1000)
        lastIncrement :=
          match basis with
          | .gross => pulsesAfter r n * 1000 / r.k - r.gross
          | .compensated => accumulatorAfter r n f / (r.k * 1000) - r.compensated } := by
  cases basis <;> rfl

/-! ### The compensation factor (R109) -/

/-- Below the reference temperature the truncated quotient is negative, and F lies above 1,000,000. -/
theorem factorOf_below (alpha : Nat) {t : Int} (cold : t < 150) :
    factorOf alpha t = 1000000 + ((alpha : Int) * (150 - t)) / 10 := by
  have flipped : (alpha : Int) * (t - 150) = -((alpha : Int) * (150 - t)) := by ring
  have product : 0 ≤ (alpha : Int) * (150 - t) := mul_nonneg (Int.natCast_nonneg alpha) (by omega)
  rw [factorOf, flipped, Int.neg_tdiv, Int.tdiv_eq_ediv_of_nonneg product, sub_neg_eq_add]

/-- From the reference temperature on the quotient is a floor, and F lies at 1,000,000 or below. -/
theorem factorOf_above (alpha : Nat) {t : Int} (warm : 150 ≤ t) :
    factorOf alpha t = 1000000 - ((alpha : Int) * (t - 150)) / 10 := by
  have product : 0 ≤ (alpha : Int) * (t - 150) := mul_nonneg (Int.natCast_nonneg alpha) (by omega)
  rw [factorOf, Int.tdiv_eq_ediv_of_nonneg product]

/-- The product of α and a distance from the reference temperature, in their ranges. -/
theorem alpha_mul_range {alpha : Nat} {d : Int} (low : 0 ≤ d) (high : d ≤ 550) (alphaHigh : alpha ≤ 2000) :
    0 ≤ (alpha : Int) * d ∧ (alpha : Int) * d ≤ 1100000 := by
  refine ⟨mul_nonneg (Int.natCast_nonneg alpha) low, ?_⟩
  calc (alpha : Int) * d ≤ 2000 * 550 := mul_le_mul (by omega) high low (by norm_num)
    _ = 1100000 := by norm_num

theorem factorOf_range {alpha : Nat} {t : Int} (alphaHigh : alpha ≤ 2000) (low : -400 ≤ t) (high : t ≤ 700) :
    890000 ≤ factorOf alpha t ∧ factorOf alpha t ≤ 1110000 := by
  rcases lt_or_ge t 150 with cold | warm
  · have range := alpha_mul_range (d := 150 - t) (by omega) (by omega) alphaHigh
    rw [factorOf_below alpha cold]
    omega
  · have range := alpha_mul_range (d := t - 150) (by omega) (by omega) alphaHigh
    rw [factorOf_above alpha warm]
    omega

/-! ### A money cap (R113, R116) -/

theorem amountOf_le {volume price limit : Nat} (cost : volume * price ≤ limit * 10000) :
    amountOf volume price ≤ limit := by
  unfold amountOf
  omega

/-- The volume equivalent of a money limit, and so any cap under it, costs no more than the limit. -/
theorem equivalentVolume_amount_cost (limit price ceiling : Nat) :
    min (equivalentVolume .amount limit price) ceiling * price ≤ limit * 10000 :=
  calc min (equivalentVolume .amount limit price) ceiling * price
      ≤ limit * 10000 / price * price := Nat.mul_le_mul_right price (Nat.min_le_left ..)
    _ ≤ limit * 10000 := Nat.div_mul_le_self ..

/-- Settles O29. -/
theorem saleArithmetic : Obligations.SaleArithmetic := by
  refine ⟨fun r basis n f => ?_, fun _ _ => factorOf_range, fun alpha _ => factorOf_below alpha,
    fun alpha _ => factorOf_above alpha, fun limit price ceiling _ => amountOf_le (equivalentVolume_amount_cost ..)⟩
  intro p pulses sum total gross compensated
  have pulsed : pulsesAfter r n = pulses := pulsesAfter_eq r n
  have accumulated : accumulatorAfter r n f = total := accumulatorAfter_eq r n f
  have record := accumulate_eq r basis n f
  rw [pulsed, accumulated] at record
  exact record

end Sys2Proof.Machine
end

section
/-! PROOFS. The metering law: the terms of an armed allowance under each change that the model makes to them, the steps
that keep the law, and the shared operations of the Grant Manager. -/

namespace Sys2Proof.Machine

/-! ### Records and terms (R106 to R116) -/

/-- Accumulation recomputes a record's volumes from its totals, whatever they were before. -/
theorem recordForm_accumulate (r : PointRecord) (basis : Basis) (n f : Int) : RecordForm (r.accumulate basis n f) := by
  rw [accumulate_eq]
  exact ⟨Nat.min_le_right .., accumulatorAfter_le r n f, rfl, rfl⟩

theorem recordForm_newRecord (p : Fin 32) (k : Nat) : RecordForm (newRecord p k) := by simp [RecordForm, newRecord]

/-- The terms of an allowance under the ceiling `ceiling`: totals that follow from the records, a price, and a cap that
the ceiling bounds. -/
structure Armed.Metered (ceiling : Nat) (t : Armed) : Prop where
  records : ∀ r ∈ t.records, RecordForm r
  price : 1 ≤ t.price
  cap : t.cap ≤ ceiling
  volume : t.volume = volumeOf t.basis t.records
  amount : t.amount = amountOf t.volume t.price
  residual : t.residual = (t.cap : Int) - (t.volume : Int)

theorem allowanceForm_iff {a : Allowance} : AllowanceForm a ↔ ∀ t, a.armed = some t → t.Metered a.ceiling := by
  constructor
  · intro form t armed
    obtain ⟨records, price, cap, volume, amount, residual⟩ := form t armed
    exact ⟨records, price, cap, volume, amount, residual⟩
  · intro metered t armed
    obtain ⟨records, price, cap, volume, amount, residual⟩ := metered t armed
    exact ⟨records, price, cap, volume, amount, residual⟩

theorem Armed.Metered.accumulate {ceiling : Nat} {t : Armed} (h : t.Metered ceiling) (p : Fin 32) (n f : Int) :
    (t.accumulate p n f).Metered ceiling where
  records := by
    refine List.forall_mem_map.mpr fun r hr => ?_
    split
    · exact recordForm_accumulate ..
    · exact h.records r hr
  price := h.price
  cap := h.cap
  volume := rfl
  amount := rfl
  residual := rfl

theorem Armed.Metered.exhausted {ceiling : Nat} {t : Armed} (h : t.Metered ceiling) :
    ({ t with exhausted := true } : Armed).Metered ceiling :=
  ⟨h.records, h.price, h.cap, h.volume, h.amount, h.residual⟩

/-- Records that arming creates have sold nothing. -/
theorem mem_recordsFor {s : State} {ps : List (Fin 32)} {l : Fin 4} {r : PointRecord} (hr : r ∈ recordsFor s ps l) :
    ∃ p k, r = newRecord p k := by
  obtain ⟨p, _, made⟩ := List.mem_filterMap.mp hr
  obtain ⟨c, _, made⟩ := Option.bind_eq_some_iff.mp made
  split at made
  · exact ⟨p, c.k, (Option.some.inj made).symm⟩
  · exact absurd made (by simp)

theorem volumeOf_recordsFor (basis : Basis) (s : State) (ps : List (Fin 32)) (l : Fin 4) :
    volumeOf basis (recordsFor s ps l) = 0 := by
  refine List.sum_eq_zero fun x hx => ?_
  obtain ⟨r, hr, rfl⟩ := List.mem_map.mp hx
  obtain ⟨p, k, rfl⟩ := mem_recordsFor hr
  cases basis <;> rfl

theorem metered_armedTerms (limit : LimitKind × Nat) (ceiling : Nat) {price : Nat} (priced : price ≠ 0) (basis : Basis)
    (s : State) (ps : List (Fin 32)) (l : Fin 4) :
    ({ armedTerms limit ceiling price basis with records := recordsFor s ps l } : Armed).Metered ceiling where
  records r hr := by
    obtain ⟨p, k, rfl⟩ := mem_recordsFor hr
    exact recordForm_newRecord p k
  price := Nat.pos_of_ne_zero priced
  cap := Nat.min_le_right ..
  volume := (volumeOf_recordsFor ..).symm
  amount := by simp [armedTerms, amountOf]
  residual := by simp [armedTerms]

/-! ### Grants -/

/-- Every allowance of the grant has the form of R106 to R116. -/
def Grant.Metered (g : Grant) : Prop := ∀ a ∈ g.allowances, AllowanceForm a

theorem meterLaw_iff {s : State} : MeterLaw s ↔ ∀ i g, s.grantAt i = some g → g.Metered := Iff.rfl

theorem allowanceForm_unarmed {a : Allowance} (unarmed : a.armed = none) : AllowanceForm a := by
  intro t armed
  exact absurd (unarmed.symm.trans armed) (by simp)

/-- A grant that is not armed has nothing to meter. -/
theorem Grant.metered_unarmed {g : Grant} (unarmed : ∀ a ∈ g.allowances, a.armed = none) : g.Metered :=
  fun a ha => allowanceForm_unarmed (unarmed a ha)

/-- Arming meets the law whatever the grant was before it (R17, R18, R116). -/
theorem armedForm_metered (s : State) (g : Grant) : (armedForm s g).Metered := by
  intro b hb
  obtain ⟨a, ha, rfl⟩ := List.mem_map.mp hb
  obtain ⟨a₀, _, kept⟩ := List.mem_filterMap.mp ha
  obtain ⟨_, priced, _, ceiling, _, armed⟩ := armAllowance_eq_some kept
  refine allowanceForm_iff.mpr fun t ht => ?_
  rw [armed] at ht
  obtain rfl := Option.some.inj ht
  dsimp only
  rw [ceiling]
  exact metered_armedTerms _ _ priced ..

/-- A change of one line's terms that keeps their form keeps the grant's. -/
theorem Grant.Metered.modArmed {g : Grant} (h : g.Metered) (l : Fin 4) {f : Armed → Armed}
    (kept : ∀ {ceiling t}, Armed.Metered ceiling t → (f t).Metered ceiling) :
    (g.modAllowance l fun a => { a with armed := a.armed.map f }).Metered := by
  refine List.forall_mem_map.mpr fun a ha => ?_
  split
  · refine allowanceForm_iff.mpr fun t ht => ?_
    obtain ⟨t₀, armed, rfl⟩ := Option.map_eq_some_iff.mp ht
    exact kept (allowanceForm_iff.mp (h a ha) t₀ armed)
  · exact h a ha

theorem Grant.Metered.exhaust {g : Grant} (h : g.Metered) (l : Fin 4) : (g.modAllowance l Allowance.exhaust).Metered :=
  h.modArmed l (f := fun t => { t with exhausted := true }) fun metered => metered.exhausted

theorem Grant.Metered.metered {g : Grant} (h : g.Metered) (l : Fin 4) (p : Fin 32) (n f : Int) (degrades : Bool) :
    (g.metered l p n f degrades).Metered :=
  h.modArmed l (f := fun t => t.accumulate p n f) fun metered => metered.accumulate p n f

/-- An approval's limits leave the terms of the allowances it keeps (R13). -/
theorem Grant.Metered.withLimits {g : Grant} (h : g.Metered) (es : List LimitEntry) : (g.withLimits es).Metered := by
  intro b hb
  obtain ⟨a, ha, kept⟩ := List.mem_filterMap.mp hb
  obtain ⟨e, _, rfl⟩ := Option.map_eq_some_iff.mp kept
  exact h a ha

/-- So do the stand-in limits (R56). -/
theorem Grant.Metered.withStandin {g : Grant} (h : g.Metered) (source : Source) (limits : Fin 4 → Nat) :
    (g.withStandin source limits).Metered :=
  List.forall_mem_map.mpr h

theorem attendantGrant_metered (n : Fin 8) (es : List LimitEntry) (s : State) : (attendantGrant n es s).Metered := by
  refine Grant.metered_unarmed fun a ha => ?_
  obtain ⟨l, _, made⟩ := List.mem_filterMap.mp ha
  split at made
  · obtain ⟨e, _, rfl⟩ := Option.map_eq_some_iff.mp made
    rfl
  · exact absurd made (by simp)

theorem cardGrant_metered (lane : Fin 8) (r : AuthRequest) (p : Program) (products : List (Fin 4)) (s : State) :
    (cardGrant lane r p products s).Metered :=
  Grant.metered_unarmed (List.forall_mem_map.mpr fun _ _ => rfl)

/-! ### Steps that keep the law -/

/-- From `s` to `t` the metering law is kept. -/
structure KeepsMeter (s t : State) : Prop where
  law : MeterLaw s → MeterLaw t

theorem KeepsMeter.refl (s : State) : KeepsMeter s s := ⟨id⟩

theorem KeepsMeter.trans {s t u : State} (a : KeepsMeter s t) (b : KeepsMeter t u) : KeepsMeter s u :=
  ⟨b.law ∘ a.law⟩

/-- A change that leaves every grant with the allowances of the grant its slot held. -/
theorem KeepsMeter.of_allowances {s t : State}
    (same : ∀ i g', t.grantAt i = some g' → ∃ g, s.grantAt i = some g ∧ g'.allowances = g.allowances) :
    KeepsMeter s t := by
  refine ⟨fun law => meterLaw_iff.mpr fun i g' hg' => ?_⟩
  obtain ⟨g, hg, allowances⟩ := same i g' hg'
  rw [Grant.Metered, allowances]
  exact law i g hg

theorem KeepsMeter.of_gm {s t : State} (same : t.gm = s.gm := by simp) : KeepsMeter s t :=
  .of_allowances fun i g hg => ⟨g, grantAt_of_gm same i ▸ hg, rfl⟩

theorem keepsMeter_foldl {α : Type} {f : State → α → State} (each : ∀ s x, KeepsMeter s (f s x)) (xs : List α)
    (s : State) : KeepsMeter s (xs.foldl f s) :=
  foldl_keeps (P := KeepsMeter s) (fun t x h => h.trans (each t x)) xs s (.refl s)

theorem keepsMeter_if {c : Prop} [Decidable c] {s t u : State} (yes : KeepsMeter s t) (no : KeepsMeter s u) :
    KeepsMeter s (if c then t else u) := by
  split
  · exact yes
  · exact no

/-- A slot may be freed, or take any grant of the right form. -/
theorem keepsMeter_placeGrant {s : State} {i : Fin 24} {x : Option Grant} (metered : ∀ g, x = some g → g.Metered) :
    KeepsMeter s (s.setSlot i x) := by
  refine ⟨fun law => meterLaw_iff.mpr fun j g hg => ?_⟩
  rw [setSlot_grantAt] at hg
  split at hg
  · exact metered g hg
  · exact law j g hg

/-- A grant may change in place; by default it keeps its allowances. -/
theorem keepsMeter_setSlot {s : State} {i : Fin 24} {g g' : Grant} (hg : s.grantAt i = some g)
    (kept : g.Metered → g'.Metered := by exact fun h => h) : KeepsMeter s (s.setSlot i (some g')) := by
  refine ⟨fun law => (keepsMeter_placeGrant fun h e => ?_).law law⟩
  rw [← Option.some.inj e]
  exact kept (law i g hg)

theorem keepsMeter_modGrant {s : State} {i : Fin 24} {f : Grant → Grant}
    (kept : ∀ g : Grant, g.Metered → (f g).Metered := by exact fun _ h => h) : KeepsMeter s (s.modGrant i f) := by
  refine ⟨fun law => (keepsMeter_placeGrant fun h e => ?_).law law⟩
  obtain ⟨g, hg, rfl⟩ := Option.map_eq_some_iff.mp e
  exact kept g (law i g hg)

theorem keepsMeter_modGm {s : State} {f : GrantManager → GrantManager}
    (slots : (f s.gm).slots = s.gm.slots := by rfl) : KeepsMeter s (s.modGm f) :=
  .of_allowances fun i g hg => ⟨g, modGm_grantAt s f slots i ▸ hg, rfl⟩

/-! ### Settlement, closing and holding -/

theorem keepsMeter_settleCore (i : Fin 24) (s : State) : KeepsMeter s (settleCore i s) := by
  unfold settleCore
  split
  · next g hg =>
    refine keepsMeter_if (.refl s) (.trans (.trans (.trans ?_ (.of_gm (detachAll_gm ..))) (.of_gm (queueNotice_gm ..)))
      (.of_gm (handAmount_gm ..)))
    exact .trans (keepsMeter_setSlot hg) keepsMeter_modGm
  · exact .refl s

theorem keepsMeter_settle (i : Fin 24) (s : State) : KeepsMeter s (settle i s) :=
  (keepsMeter_settleCore i s).trans (.of_gm (haltTest_gm _))

theorem keepsMeter_completionTest (i : Fin 24) (s : State) : KeepsMeter s (completionTest i s) :=
  keepsMeter_if (keepsMeter_settle i s) (.refl s)

theorem keepsMeter_enterClosing (i : Fin 24) (r : EndReason) (s : State) : KeepsMeter s (enterClosing i r s) := by
  refine .trans ?_ (keepsMeter_completionTest i _)
  unfold enterClosingCore
  split
  · next g hg => exact .trans (keepsMeter_setSlot hg) (.of_gm (closeOrders_gm ..))
  · exact .refl s

theorem keepsMeter_endNow (i : Fin 24) (r : EndReason) (s : State) : KeepsMeter s (endNow i r s) :=
  .trans keepsMeter_modGrant (keepsMeter_settle ..)

theorem keepsMeter_enterHeld (i : Fin 24) (s : State) : KeepsMeter s (enterHeld i s) := by
  unfold enterHeld
  split
  · next g hg => exact .trans (keepsMeter_setSlot hg) (.of_gm (closeOrders_gm ..))
  · exact .refl s

/-! ### Timers and reports -/

theorem keepsMeter_startWaitTimer (i : Fin 24) (s : State) : KeepsMeter s (startWaitTimer i s) := by
  unfold startWaitTimer
  split
  · next g hg => exact keepsMeter_if (keepsMeter_setSlot hg (by split <;> exact fun h => h)) (.refl s)
  · exact .refl s

theorem keepsMeter_removePoint (i : Fin 24) (p : Fin 32) (s : State) : KeepsMeter s (removePoint i p s) := by
  unfold removePoint
  split
  · next g hg =>
    have removed : KeepsMeter s (s.setSlot i (some { g with attached := g.attached.filter (· != p) })) :=
      keepsMeter_setSlot hg
    dsimp only
    split
    · exact keepsMeter_if removed (removed.trans (keepsMeter_startWaitTimer ..))
    · exact removed.trans (keepsMeter_completionTest ..)
    all_goals exact removed
  · exact .refl s

theorem keepsMeter_pumpReady (p : Fin 32) (s : State) : KeepsMeter s (pumpReady p s) := by
  unfold pumpReady
  split
  · exact .trans (.of_gm (setPoint_gm ..)) keepsMeter_modGrant
  · exact .refl s

theorem keepsMeter_enterPriming (p : Fin 32) (s : State) : KeepsMeter s (enterPriming p s) := by
  unfold enterPriming
  split
  · next c _ =>
    have requested : KeepsMeter s (requestPump p c.line (s.setPoint p { s.point p with state := .priming })).1 := .of_gm
    exact keepsMeter_if (.trans requested (keepsMeter_pumpReady ..)) requested
  · exact .refl s

theorem keepsMeter_liftReport (i : Fin 24) (p : Fin 32) (conditions : Bool) (s : State) :
    KeepsMeter s (liftReport i p conditions s) := by
  unfold liftReport
  split
  · next g hg =>
    split
    · exact keepsMeter_if (.trans (keepsMeter_setSlot hg) (keepsMeter_enterPriming ..)) (.refl s)
    · exact keepsMeter_if (.trans (keepsMeter_setSlot hg) (keepsMeter_enterPriming ..)) (keepsMeter_setSlot hg)
    all_goals exact .refl s
  · exact .refl s

theorem keepsMeter_reportLift (p : Fin 32) (conditions : Bool) (s : State) :
    KeepsMeter s (reportLift p conditions s) := by
  unfold reportLift
  split
  · exact keepsMeter_liftReport ..
  · exact .refl s

theorem keepsMeter_reportHangUp (p : Fin 32) (s : State) : KeepsMeter s (reportHangUp p s) := by
  unfold reportHangUp
  split
  · exact keepsMeter_startWaitTimer ..
  · exact .refl s

theorem keepsMeter_reportExit (p : Fin 32) (s : State) : KeepsMeter s (reportExit p s) := by
  unfold reportExit
  split
  · exact keepsMeter_completionTest ..
  · exact .refl s

theorem keepsMeter_exhaustionReport (i : Fin 24) (s : State) : KeepsMeter s (exhaustionReport i s) := by
  unfold exhaustionReport
  split
  · exact keepsMeter_if (keepsMeter_enterClosing ..) (.refl s)
  · exact .refl s

/-! ### Arming and creation -/

theorem keepsMeter_leavePending (i : Fin 24) (s : State) : KeepsMeter s (leavePending i s) := by
  unfold leavePending
  split
  · next g hg => exact .trans (keepsMeter_setSlot hg) keepsMeter_modGm
  · exact .refl s

theorem keepsMeter_armingEnd (i : Fin 24) (s : State) : KeepsMeter s (armingEnd i s) := by
  unfold armingEnd
  split
  · next g hg =>
    refine keepsMeter_if (keepsMeter_endNow ..) (keepsMeter_if (keepsMeter_endNow ..) ?_)
    exact keepsMeter_if (keepsMeter_setSlot hg) (.trans (keepsMeter_setSlot hg) (.of_gm (queueNotice_gm ..)))
  · exact .refl s

theorem keepsMeter_arm (i : Fin 24) (s : State) : KeepsMeter s (arm i s) := by
  unfold arm
  split
  · refine .trans (.trans (keepsMeter_placeGrant fun g' e => ?_) (.of_gm (attachAll_gm ..))) (keepsMeter_armingEnd ..)
    exact Option.some.inj e ▸ armedForm_metered s _
  · exact .refl s

theorem keepsMeter_createIn {i : Fin 24} {g : Grant} {s : State} (metered : g.Metered) :
    KeepsMeter s (createIn i g s) := by
  refine .trans (keepsMeter_placeGrant fun g' e => ?_) keepsMeter_modGm
  rw [← Option.some.inj e]
  exact metered

end Sys2Proof.Machine
end

section
/-! PROOFS. The metering law, row by row. -/

namespace Sys2Proof.Machine

/-! ### The rows of the grants -/

theorem keepsMeter_doService (s : State) : KeepsMeter s (doService s).1 := by
  unfold doService
  split
  · exact .refl s
  split <;> dsimp only
  · exact .trans keepsMeter_modGrant keepsMeter_modGm
  · exact keepsMeter_modGm

theorem keepsMeter_doCollect (s : State) : KeepsMeter s (doCollect s).1 := by
  unfold doCollect
  split
  · exact .refl s
  split <;> dsimp only
  · exact .trans (keepsMeter_placeGrant fun _ freed => absurd freed (Option.some_ne_none _).symm) keepsMeter_modGm
  · exact keepsMeter_modGm

theorem keepsMeter_approve (i : Fin 24) (es : List LimitEntry) (s : State) : KeepsMeter s (approve i es s) :=
  .trans ((keepsMeter_modGrant fun _ h => h.withLimits es).trans (keepsMeter_leavePending ..)) (keepsMeter_arm ..)

theorem keepsMeter_declineGrant (i : Fin 24) (code : Nat) (s : State) : KeepsMeter s (declineGrant i code s) := by
  unfold declineGrant
  split
  · next g hg =>
    exact .trans (.trans (.trans (keepsMeter_setSlot hg) (keepsMeter_leavePending ..)) (.of_gm (queueNotice_gm ..)))
      (keepsMeter_settle ..)
  · exact .refl s

theorem keepsMeter_doDecide (tag : Nat) (verdict : Verdict) (s : State) : KeepsMeter s (doDecide tag verdict s).1 := by
  unfold doDecide
  split
  · exact .refl s
  split
  · exact .refl s
  split
  · exact .refl s
  split
  · exact .refl s
  split
  · split
    · exact keepsMeter_approve ..
    · exact .refl s
  · exact keepsMeter_declineGrant ..
  · exact .refl s

theorem keepsMeter_doOpenGrant (lane : Nat) (es : List LimitEntry) (s : State) :
    KeepsMeter s (doOpenGrant lane es s).1 := by
  unfold doOpenGrant
  split
  · exact .refl s
  split
  · exact .refl s
  split
  · exact .refl s
  split
  · exact .refl s
  split
  · exact .refl s
  split
  · exact .refl s
  · exact (keepsMeter_createIn (attendantGrant_metered _ _ s)).trans (keepsMeter_arm ..)

theorem keepsMeter_doHold (tag : Nat) (s : State) : KeepsMeter s (doHold tag s).1 := by
  unfold doHold
  split
  · exact .refl s
  split
  · exact keepsMeter_enterHeld ..
  · exact .refl s

theorem keepsMeter_resumeReports (i : Fin 24) (ps : List (Fin 32)) (s : State) :
    KeepsMeter s (resumeReports i ps s) :=
  keepsMeter_foldl
    (f := fun s p => if (s.point p).state = .lifted then liftReport i p (s.liftConditions p) s else s)
    (fun s _ => keepsMeter_if (keepsMeter_liftReport ..) (.refl s)) ps s

theorem keepsMeter_resumeGrant (i : Fin 24) (s : State) : KeepsMeter s (resumeGrant i s) := by
  unfold resumeGrant
  split
  · next g hg =>
    exact .trans (.trans (keepsMeter_setSlot hg) (keepsMeter_resumeReports ..)) (keepsMeter_startWaitTimer ..)
  · exact .refl s

theorem keepsMeter_doResume (tag : Nat) (s : State) : KeepsMeter s (doResume tag s).1 := by
  unfold doResume
  split
  · exact .refl s
  split
  · exact keepsMeter_resumeGrant ..
  · exact .refl s

theorem keepsMeter_doStop (tag : Nat) (s : State) : KeepsMeter s (doStop tag s).1 := by
  unfold doStop
  split
  · exact .refl s
  split
  · exact keepsMeter_endNow ..
  · exact keepsMeter_endNow ..
  · exact keepsMeter_enterClosing ..
  · exact keepsMeter_enterClosing ..
  all_goals exact .refl s

theorem keepsMeter_doCancel (lane : Fin 8) (tag : Nat) (s : State) : KeepsMeter s (doCancel lane tag s).1 := by
  unfold doCancel
  split
  · exact .refl s
  split
  · exact .refl s
  split
  · exact .refl s
  split
  · exact keepsMeter_endNow ..
  · exact keepsMeter_endNow ..
  · exact keepsMeter_enterClosing ..
  · exact keepsMeter_enterClosing ..
  all_goals exact .refl s

theorem keepsMeter_decisionExpiry (tag : Nat) (s : State) : KeepsMeter s (decisionExpiry tag s) := by
  unfold decisionExpiry
  split
  · exact .refl s
  next i _ =>
  split
  · exact .refl s
  refine keepsMeter_if (.refl s) ?_
  have waiting := keepsMeter_leavePending i s
  have ended := waiting.trans (keepsMeter_endNow i .declinedTimeout _)
  dsimp only
  split
  · exact ended
  split
  · exact ended
  split
  · refine .trans ((waiting.trans (.of_gm (modSu_gm ..))).trans (keepsMeter_modGrant fun g h => ?_)) (keepsMeter_arm ..)
    exact h.withStandin _ _
  · exact ended
  · exact (waiting.trans (.of_gm (raiseTallyFull_gm _))).trans (keepsMeter_endNow ..)

theorem keepsMeter_liftExpiry (tag : Nat) (s : State) : KeepsMeter s (liftExpiry tag s) := by
  unfold liftExpiry
  split
  · exact .refl s
  split
  · exact .refl s
  refine keepsMeter_if ?_ (.refl s)
  split
  · exact keepsMeter_endNow ..
  · exact keepsMeter_enterClosing ..
  all_goals exact .refl s

theorem keepsMeter_idleEndExpiry (tag : Nat) (s : State) : KeepsMeter s (idleEndExpiry tag s) := by
  unfold idleEndExpiry
  split
  · exact .refl s
  · exact keepsMeter_if (keepsMeter_enterClosing ..) (.refl s)

theorem keepsMeter_holdExpiry (tag : Nat) (s : State) : KeepsMeter s (holdExpiry tag s) := by
  unfold holdExpiry
  split
  · exact .refl s
  · exact keepsMeter_if (keepsMeter_enterClosing ..) (.refl s)

/-! ### Screening -/

theorem keepsMeter_acceptOnline {i : Fin 24} {g : Grant} {s : State} (metered : g.Metered) :
    KeepsMeter s (acceptOnline i g s).1 := by
  dsimp only [acceptOnline]
  have waiting : ({ g with decisionTimer := Timer.start s.cp.timers.decision } : Grant).Metered := metered
  exact (keepsMeter_createIn (i := i) waiting).trans keepsMeter_modGm

theorem keepsMeter_doAuthRequest (lane : Fin 8) (request : Option AuthRequest) (s : State) :
    KeepsMeter s (doAuthRequest lane request s).1 := by
  unfold doAuthRequest
  split
  · exact .refl s
  split
  · exact .refl s
  next r _ p products _ =>
  have card := cardGrant_metered lane r p products s
  unfold admitRequest
  split
  · exact .refl s
  split
  · exact keepsMeter_acceptOnline card
  split
  · exact .trans (.trans (.of_gm (modSu_gm ..)) (keepsMeter_createIn (card.withStandin _ _))) (keepsMeter_arm ..)
  · exact .refl s
  · exact .of_gm

/-! ### Nozzles and points -/

theorem setNozzle_gm (p : Fin 32) (level : Bool) (s : State) : (setNozzle p level s).gm = s.gm := rfl

theorem keepsMeter_nozzleLift (p : Fin 32) (s : State) : KeepsMeter s (nozzleLift p s) := by
  unfold nozzleLift
  refine keepsMeter_if (.of_gm rfl) (keepsMeter_if (.refl s) (.trans (.of_gm (setNozzle_gm p true s)) ?_))
  unfold liftFollowed
  split
  · exact .trans (.of_gm (setPoint_gm ..)) (keepsMeter_reportLift ..)
  · exact keepsMeter_reportLift ..
  all_goals exact .refl _

theorem keepsMeter_nozzleHangUp (p : Fin 32) (s : State) : KeepsMeter s (nozzleHangUp p s) := by
  unfold nozzleHangUp
  refine keepsMeter_if (.of_gm rfl) (keepsMeter_if (.trans (.of_gm (setNozzle_gm p false s)) ?_) (.refl s))
  unfold hangUpFollowed
  split
  · exact .trans (.trans (.trans (.of_gm (setPoint_gm ..)) (.of_gm (withdrawOwn_gm ..))) (keepsMeter_reportHangUp ..))
      (keepsMeter_reportExit ..)
  · exact .trans (.of_gm (setPoint_gm ..)) (keepsMeter_reportHangUp ..)
  · exact .trans (.of_gm (closeValve_gm ..)) (keepsMeter_reportHangUp ..)
  · exact .trans (.of_gm (closeValve_gm ..)) (keepsMeter_reportHangUp ..)
  · exact keepsMeter_reportHangUp ..
  all_goals exact .refl _

theorem keepsMeter_noFlowExpiry (p : Fin 32) (s : State) : KeepsMeter s (noFlowExpiry p s) := by
  have stopped : KeepsMeter s (s.setPoint p { s.point p with noFlow := .stopped }) := .of_gm
  unfold noFlowExpiry
  refine keepsMeter_if ?_ (.refl s)
  dsimp only
  split
  · exact keepsMeter_if (stopped.trans (keepsMeter_enterClosing ..)) stopped
  · exact stopped

theorem keepsMeter_startExpiry (l : Fin 4) (s : State) : KeepsMeter s (startExpiry l s) :=
  keepsMeter_if (.trans (.of_gm (setLine_gm ..)) (keepsMeter_foldl (fun s p => keepsMeter_pumpReady p s) _ _)) (.refl s)

/-! ### Faults -/

theorem keepsMeter_outOfService (p : Fin 32) (s : State) : KeepsMeter s (outOfService p s) := by
  have left : KeepsMeter s (leaveGrant p (withdrawOwn p (s.setPoint p (s.point p).takenOut))) := by
    have out := (KeepsMeter.of_gm (setPoint_gm s p (s.point p).takenOut)).trans (.of_gm (withdrawOwn_gm p _))
    unfold leaveGrant
    split
    · exact (out.trans (.of_gm (detach_gm ..))).trans (keepsMeter_removePoint ..)
    · exact out.trans (.of_gm (detach_gm ..))
  exact left.trans (.of_gm rfl)

theorem keepsMeter_lockoutGrant (i : Fin 24) (s : State) : KeepsMeter s (lockoutGrant i s) := by
  unfold lockoutGrant
  split
  · exact keepsMeter_if (keepsMeter_enterClosing ..) (.refl s)
  · exact .refl s

theorem keepsMeter_exhaustLine (l : Fin 4) (slots : List (Fin 24)) (s : State) : KeepsMeter s (exhaustLine l slots s) :=
  keepsMeter_foldl (f := fun s i => s.modGrant i (·.modAllowance l Allowance.exhaust))
    (fun _ _ => keepsMeter_modGrant fun _ h => h.exhaust l) slots s

theorem keepsMeter_lockout (l : Fin 4) (s : State) : KeepsMeter s (lockout l s) := by
  unfold lockout
  refine keepsMeter_if (.refl s) (.trans (.trans ?_ (keepsMeter_foldl (fun s i => keepsMeter_lockoutGrant i s) _ _))
    (.of_gm (raiseLineLockout_gm ..)))
  have locked : KeepsMeter s (lineLockedOut l s) := .of_gm (by simp [lineLockedOut, forcedStop])
  exact (locked.trans (keepsMeter_exhaustLine ..)).trans (.of_gm rfl)

theorem keepsMeter_unauthorizedFlow (p : Fin 32) (s : State) : KeepsMeter s (unauthorizedFlow p s) := by
  refine .trans ?_ (keepsMeter_outOfService p _)
  split
  · exact keepsMeter_if (keepsMeter_enterClosing ..) (.refl s)
  · exact .refl s

theorem keepsMeter_creepWatch (p : Fin 32) (c : PointConfig) (n : Int) (s : State) :
    KeepsMeter s (creepWatch p c n s) :=
  keepsMeter_if
    (keepsMeter_if (.trans (.of_gm (setPoint_gm ..)) (keepsMeter_lockout ..))
      (.trans (.of_gm (setPoint_gm ..)) (keepsMeter_unauthorizedFlow ..)))
    .of_gm

theorem keepsMeter_faultHold (p : Fin 32) (s : State) : KeepsMeter s (faultHold p s) := by
  unfold faultHold
  split
  · exact (keepsMeter_enterHeld ..).trans (.of_gm (raisePointFault_gm ..))
  · exact .refl s

theorem keepsMeter_compoundFault (p : Fin 32) (s : State) : KeepsMeter s (compoundFault p s) := by
  refine .trans ?_ (keepsMeter_outOfService p _)
  split
  · exact keepsMeter_enterClosing ..
  · exact .refl s

theorem keepsMeter_pulserFault (p : Fin 32) (s : State) : KeepsMeter s (pulserFault p s) := by
  have held := keepsMeter_if (c := s.grantStateOfPoint p = some .fueling) (keepsMeter_faultHold p s) (.refl s)
  have ended :=
    keepsMeter_if (c := s.grantStateOfPoint p = some .held) (keepsMeter_compoundFault p s) (keepsMeter_outOfService p s)
  unfold pulserFault
  split
  · exact .refl s
  · exact .refl s
  · exact held
  · exact held
  all_goals exact ended

/-! ### Period ends -/

theorem keepsMeter_evaluate (i : Fin 24) (l : Fin 4) (s : State) : KeepsMeter s (evaluate i l s) := by
  unfold evaluate
  split
  swap
  · exact .refl s
  split
  swap
  · exact .refl s
  refine keepsMeter_if (.refl s) (keepsMeter_if ?_ (keepsMeter_if .of_gm (.refl s)))
  exact .trans (.trans (keepsMeter_modGrant fun _ h => h.exhaust l) (.of_gm (closeOrders_gm ..)))
    (keepsMeter_exhaustionReport ..)

/-- The one change of a sale's totals: the accumulation of a period's pulses (R104). -/
theorem keepsMeter_saleStep (p : Fin 32) (c : PointConfig) (n : Int) (s : State) : KeepsMeter s (saleStep p c n s) := by
  unfold saleStep
  split
  · exact .trans (keepsMeter_modGrant fun _ h => h.metered _ _ _ _ _) (keepsMeter_evaluate ..)
  · exact .refl s

theorem keepsMeter_windowEnd (p : Fin 32) (s : State) : KeepsMeter s (windowEnd p s) := by
  have reported := fun x => (KeepsMeter.of_gm (setPoint_gm s p x)).trans (keepsMeter_reportExit p _)
  exact keepsMeter_if ((reported _).trans (keepsMeter_reportLift ..)) (reported _)

theorem keepsMeter_pointTimers (p : Fin 32) (was : PointState) (n : Int) (s : State) :
    KeepsMeter s (pointTimers p was n s) :=
  keepsMeter_if (keepsMeter_if (keepsMeter_windowEnd p s) .of_gm) (keepsMeter_if .of_gm (.refl s))

theorem keepsMeter_periodEnd (p : Fin 32) (s : State) : KeepsMeter s (periodEnd p s) := by
  unfold periodEnd
  split
  · exact .refl s
  · next c _ =>
    have latched : KeepsMeter s (s.setPoint p (s.point p).latched) := .of_gm
    have sold := keepsMeter_if (c := (s.point p).state.metersSale = true)
      (latched.trans (keepsMeter_saleStep p c (s.point p).net _)) latched
    have timed := sold.trans (keepsMeter_pointTimers p (s.point p).state (s.point p).net _)
    have watched := keepsMeter_if (c := (s.point p).state.creepWatched = true)
      (timed.trans (keepsMeter_creepWatch p c (s.point p).net _)) timed
    exact keepsMeter_if (watched.trans (keepsMeter_pulserFault p _)) watched

/-! ### The site, the tick and the step -/

theorem haltForm_allowances (s : State) (g : Grant) : (g.haltForm s).allowances = g.allowances := by
  unfold Grant.haltForm
  split
  · rfl
  · split <;> rfl

theorem keepsMeter_enterHalting (s : State) : KeepsMeter s (enterHalting s) := by
  refine .of_allowances fun i g' hg' => ?_
  rw [enterHalting_grantAt] at hg'
  obtain ⟨g, hg, rfl⟩ := Option.map_eq_some_iff.mp hg'
  exact ⟨g, hg, haltForm_allowances s g⟩

theorem keepsMeter_doSiteHalt (s : State) : KeepsMeter s (doSiteHalt s).1 := by
  unfold doSiteHalt
  split
  · dsimp only
    exact keepsMeter_enterHalting s
  · exact .refl s

theorem keepsMeter_estopAssert (s : State) : KeepsMeter s (estopAssert s) := by
  have set : KeepsMeter s (setEstop true s) := .of_gm rfl
  exact keepsMeter_if (set.trans (keepsMeter_enterHalting _)) set

theorem keepsMeter_resetPart (s : State) : KeepsMeter s (resetPart s) := by
  refine .of_allowances fun i g hg => ?_
  rw [resetPart, afterReset_grantAt] at hg
  exact absurd hg (by simp)

theorem keepsMeter_tick (s : State) : KeepsMeter s (tick s) :=
  (keepsMeter_foldl (f := fun s i => s.modGrant i (·.tick)) (fun _ _ => keepsMeter_modGrant) allSlots s).trans
    (.of_gm ((tick_gm s).trans (tickTimers_gm s)))

theorem keepsMeter_command {act : State → State × Response} (command : ForecourtCommand act) (s : State) :
    KeepsMeter s (act s).1 := by
  cases command with
  | service => exact keepsMeter_doService s
  | decide tag v => exact keepsMeter_doDecide tag v s
  | openGrant lane es => exact keepsMeter_doOpenGrant lane es s
  | hold tag => exact keepsMeter_doHold tag s
  | resume tag => exact keepsMeter_doResume tag s
  | stop tag => exact keepsMeter_doStop tag s
  | collect => exact keepsMeter_doCollect s
  | pointSet n arg => exact .of_gm (doPointSet_gm n arg s)
  | pointEnable n => exact .of_gm (doPointEnable_gm n s)
  | lineSet n arg => exact .of_gm (doLineSet_gm n arg s)
  | priceSet n price => exact .of_gm (doPriceSet_gm n price s)
  | lineRestore n => exact .of_gm (doLineRestore_gm n s)
  | siteHalt => exact keepsMeter_doSiteHalt s
  | siteResume => exact .of_gm (doSiteResume_gm s)

theorem ForecourtStep.keepsMeter {s t : State} (h : ForecourtStep s t) : KeepsMeter s t := by
  cases h with
  | same same => exact .of_gm same.gm
  | command command after => exact (keepsMeter_command command s).trans (.of_gm after.gm)
  | auth before after =>
    exact .trans (.trans (.of_gm before.gm) (keepsMeter_doAuthRequest ..)) (.of_gm after.gm)
  | cancel before after => exact .trans (.trans (.of_gm before.gm) (keepsMeter_doCancel ..)) (.of_gm after.gm)
  | reset => exact keepsMeter_resetPart s
  | lift p => exact keepsMeter_nozzleLift p s
  | hangUp p => exact keepsMeter_nozzleHangUp p s
  | pulser p phase => exact .of_gm (pulserStep_gm p phase s)
  | estopAssertion => exact keepsMeter_estopAssert s
  | periodEnd p => exact keepsMeter_periodEnd p s
  | decisionTimer tag => exact keepsMeter_decisionExpiry tag s
  | liftTimer tag => exact keepsMeter_liftExpiry tag s
  | idleEndTimer tag => exact keepsMeter_idleEndExpiry tag s
  | holdTimer tag => exact keepsMeter_holdExpiry tag s
  | noFlowTimer p => exact keepsMeter_noFlowExpiry p s
  | startTimer l => exact keepsMeter_startExpiry l s
  | runOnTimer l => exact .of_gm (runOnExpiry_gm l s)
  | duty p => exact .of_gm rfl
  | tick => exact keepsMeter_tick s

/-- Settles O60: only arming and the accumulation of a period's pulses write an allowance's totals, and each writes them
as the law has them; whatever else a step does moves grants with the allowances they have. -/
theorem stepKeepsMeterLaw : Obligations.StepKeepsMeterLaw := by
  intro s t law h
  obtain ⟨s₀, same, row⟩ := step_forecourtStep h
  exact ((KeepsMeter.of_gm same.gm).trans row.keepsMeter).law law

end Sys2Proof.Machine
end

section
/-! PROOFS. PROBE_SET, CONVERSION_COMPLETION and PROBE_HOLD_TIMER_EXPIRY (R124 to R131): the calibration, the probe that
a completion leaves, and the channel that the converter takes next. -/

namespace Sys2Proof.Machine

/-! ### PROBE_SET (R128) -/

theorem doProbeSet_refused {line span : Nat} {offset : Int}
    (bad : 4 ≤ line ∨ offset < -1000 ∨ 1000 < offset ∨ span < 1 ∨ 3000 < span) (s : State) :
    doProbeSet line offset span s = (s, refusal .badParam) := by
  unfold doProbeSet
  split
  · rfl
  · next l named =>
    rcases bad with above | outside
    · rw [lineOf_above above] at named; exact absurd named (by simp)
    · rw [if_neg (by omega)]

theorem doProbeSet_sets {offset : Int} {span : Nat} (l : Fin 4) (s : State) (offsetLow : -1000 ≤ offset)
    (offsetHigh : offset ≤ 1000) (spanLow : 1 ≤ span) (spanHigh : span ≤ 3000) :
    doProbeSet l.val offset span s =
      (s.setProbe l { s.probe l with offset := offset, span := span },
        okWith (signedField 2 (s.probe l).offset ++ unsignedField 2 (s.probe l).span ++ signedField 2 offset
          ++ unsignedField 2 span)) := by
  simp only [doProbeSet, lineOf_val]
  exact if_pos ⟨offsetLow, offsetHigh, spanLow, spanHigh⟩

/-! ### The probe after a completion (R127, R129, R131) -/

theorem codeGood_iff (code : Nat) : codeGood code = true ↔ 4 ≤ code ∧ code ≤ 1019 := by simp [codeGood]

theorem codeGood_eq_false {code : Nat} (fault : code < 4 ∨ 1019 < code) : codeGood code = false := by
  rw [← Bool.not_eq_true, codeGood_iff]
  omega

/-- The clamp of R127, written as a choice among the bounds and the value. -/
theorem convert_eq (offset : Int) (span code : Nat) :
    convert offset span code =
      if offset + ((code * span / 1024 : Nat) : Int) < -400 then -400
      else if 700 < offset + ((code * span / 1024 : Nat) : Int) then 700
      else offset + ((code * span / 1024 : Nat) : Int) := by
  unfold convert
  generalize offset + ((code * span / 1024 : Nat) : Int) = value
  split
  · omega
  · split <;> omega

theorem completed_good {code : Nat} (good : codeGood code = true) (x : Probe) (holdCode : Nat) :
    x.completed code holdCode =
      { x with state := .good, temperature := convert x.offset x.span code, hold := .stopped, reported := false } :=
  if_pos good

theorem completed_fault {code : Nat} (fault : codeGood code = false) {x : Probe} (present : x.state ≠ .absent)
    (holdCode : Nat) :
    x.completed code holdCode =
      if x.state = .good then { x with state := .holding, hold := Timer.start holdCode, reported := true }
      else { x with reported := true } := by
  rw [Probe.completed, if_neg (by simp [fault])]
  cases state : x.state with
  | good => rfl
  | holding => rfl
  | reference => rfl
  | absent => exact absurd state present

theorem probeCompletion_probe (l m : Fin 4) (code : Nat) (s : State) :
    (probeCompletion l code s).probe m =
      if m = l then (s.probe l).completed code s.cp.timers.probeHold else s.probe m := by
  unfold probeCompletion
  dsimp only
  split
  · rw [raiseProbeFault_probe, setProbe_probe]
  · rw [setProbe_probe]

theorem probeCompletion_au_good {code : Nat} (good : codeGood code = true) (l : Fin 4) (s : State) :
    (probeCompletion l code s).au = s.au := by
  simp [probeCompletion, good]

theorem probeCompletion_au_fault {code : Nat} (fault : codeGood code = false) (l : Fin 4) (s : State) :
    (probeCompletion l code s).au =
      if (s.probe l).reported then s.au
      else { s.au with probeFault := s.au.probeFault ||| (1#4 <<< l.val) } := by
  simp only [probeCompletion, fault, Bool.not_false, Bool.true_and]
  cases (s.probe l).reported <;> rfl

/-! ### The next channel (R125) -/

theorem nextChannel_eq_none {s : State} (idle : ∀ m, (s.probe m).inRotation = false) : s.nextChannel = none :=
  List.find?_eq_none.mpr fun m _ => by simp [idle m]

/-- The next channel is the first in rotation, counted from the line after the one served last. -/
theorem nextChannel_first {s : State} {d : Fin 4} (turns : (s.probe (s.tu.lastServed + 1 + d)).inRotation = true)
    (passed : ∀ e, e < d → (s.probe (s.tu.lastServed + 1 + e)).inRotation = false) :
    s.nextChannel = some (s.tu.lastServed + 1 + d) := by
  refine List.find?_eq_some_iff_getElem.mpr ⟨turns, d.val, by simp [linesAfter, allLines], ?_, fun j before => ?_⟩
  · simp [linesAfter, allLines]
  · have skipped := passed ⟨j, before.trans d.isLt⟩ before
    simp [linesAfter, allLines, skipped]

theorem chooseChannel_none {s : State} (next : s.nextChannel = none) :
    (chooseChannel s).tu.converting = none ∧ (chooseChannel s).tu.lastServed = s.tu.lastServed := by
  simp [chooseChannel, next]

theorem chooseChannel_some {s : State} {l : Fin 4} (next : s.nextChannel = some l) :
    (chooseChannel s).tu.converting = some { line := l, discard := false } ∧ (chooseChannel s).tu.lastServed = l := by
  simp [chooseChannel, next]

/-- The choice of a channel is the Temperature Unit's own. -/
theorem chooseChannel_eq (s : State) : chooseChannel s = { s with tu := (chooseChannel s).tu } := by
  unfold chooseChannel
  split <;> rfl

theorem chooseChannel_au (s : State) : (chooseChannel s).au = s.au := by rw [chooseChannel_eq]

/-! ### CONVERSION_COMPLETION -/

/-- The state from which the converter chooses again: the completion is taken, or discarded by R126. -/
def Conversion.complete (k : Conversion) (code : Nat) (s : State) : State :=
  if !k.discard && (s.probe k.line).inRotation then probeCompletion k.line code s else s

theorem conversionCompletion_converting {s : State} {k : Conversion} (converting : s.tu.converting = some k)
    (code : Nat) : conversionCompletion code s = chooseChannel (k.complete code s) := by
  simp only [conversionCompletion, converting, Conversion.complete]

theorem conversionCompletion_idle {s : State} (idle : s.tu.converting = none) (code : Nat) :
    conversionCompletion code s = s := by
  simp only [conversionCompletion, idle]

section
variable {k : Conversion} {s : State} {code : Nat}

theorem complete_taken (kept : k.discard = false) (turns : (s.probe k.line).inRotation = true) :
    k.complete code s = probeCompletion k.line code s := by
  simp [Conversion.complete, kept, turns]

theorem complete_discarded (gone : k.discard = true ∨ (s.probe k.line).inRotation = false) :
    k.complete code s = s := by
  rcases gone with gone | gone <;> simp [Conversion.complete, gone]

theorem complete_probe_other {m : Fin 4} (other : m ≠ k.line) : (k.complete code s).probe m = s.probe m := by
  unfold Conversion.complete
  split
  · rw [probeCompletion_probe, if_neg other]
  · rfl

theorem complete_probe_taken (kept : k.discard = false) (turns : (s.probe k.line).inRotation = true) :
    (k.complete code s).probe k.line = (s.probe k.line).completed code s.cp.timers.probeHold := by
  rw [complete_taken kept turns, probeCompletion_probe, if_pos rfl]

/-- A completion writes the probes and the Attention Unit alone. -/
theorem complete_eq (k : Conversion) (code : Nat) (s : State) :
    ∃ probes au, k.complete code s = { s with tu := { s.tu with probes := probes }, au := au } := by
  unfold Conversion.complete probeCompletion
  dsimp only
  split
  · split <;> exact ⟨_, _, rfl⟩
  · exact ⟨_, _, rfl⟩

theorem complete_lastServed : (k.complete code s).tu.lastServed = s.tu.lastServed := by
  obtain ⟨probes, au, completed⟩ := complete_eq k code s
  rw [completed]

end

/-! ### PROBE_HOLD_TIMER_EXPIRY (R130) -/

theorem probeHoldExpiry_running {l : Fin 4} {s : State} {n : Nat} (runs : (s.probe l).hold = .running n) :
    probeHoldExpiry l s = s.setProbe l { s.probe l with state := .reference, temperature := 150, hold := .stopped } :=
  if_pos ((mayExpire_iff _).mpr ⟨n, runs⟩)

theorem probeHoldExpiry_still {l : Fin 4} {s : State} (still : ∀ n, (s.probe l).hold ≠ .running n) :
    probeHoldExpiry l s = s :=
  if_neg (by simp [mayExpire_eq_false still])

/-- Settles O41: a completion is its effect on the probe and the Attention Unit, and then the choice of the next channel,
which writes neither. -/
theorem probeRows : Obligations.ProbeRows := by
  refine ⟨fun line offset span s takes => ⟨fun bad => exec_answers takes rfl (doProbeSet_refused bad s), ?_⟩,
    fun code s k converting => ⟨chooseChannel (k.complete code s),
      congrArg Host.Outcome.next (conversionCompletion_converting converting code), ?_⟩,
    fun code s idle => congrArg Host.Outcome.next (conversionCompletion_idle idle code),
    fun l s => ⟨fun n runs => congrArg Host.Outcome.next (probeHoldExpiry_running runs),
      fun still => congrArg Host.Outcome.next (probeHoldExpiry_still still)⟩⟩
  · rintro l rfl offsetLow offsetHigh spanLow spanHigh
    exact exec_answers takes rfl (doProbeSet_sets l s offsetLow offsetHigh spanLow spanHigh)
  · simp only [chooseChannel_probe, chooseChannel_au]
    refine ⟨fun m other => complete_probe_other other, fun gone => ?_, fun kept turns low high => ?_,
      fun kept turns present fault => ?_, fun idle => ?_, fun m d place turns passed => ?_, ?_⟩
    · rw [complete_discarded gone]
      exact ⟨rfl, rfl⟩
    · have good : codeGood code = true := (codeGood_iff code).mpr ⟨low, high⟩
      rw [complete_probe_taken kept turns, complete_taken kept turns, completed_good good, convert_eq]
      exact ⟨rfl, probeCompletion_au_good good ..⟩
    · have bad : codeGood code = false := codeGood_eq_false fault
      rw [complete_probe_taken kept turns, complete_taken kept turns]
      exact ⟨completed_fault bad present _, probeCompletion_au_fault bad ..⟩
    · obtain ⟨rests, served⟩ := chooseChannel_none (nextChannel_eq_none idle)
      exact ⟨rests, served.trans complete_lastServed⟩
    · subst place
      rw [← complete_lastServed (k := k) (code := code)] at turns passed ⊢
      exact chooseChannel_some (nextChannel_first turns passed)
    · obtain ⟨probes, au, completed⟩ := complete_eq k code s
      rw [chooseChannel_eq, completed]
      exact ⟨rfl, rfl, rfl, rfl, rfl, rfl, rfl, rfl, rfl, rfl⟩

end Sys2Proof.Machine
end

section
/-! PROOFS. HOLD (R140, R141): it suspends a FUELING grant, and a grant in any other state stays as it is. -/

namespace Sys2Proof.Machine

theorem doHold_unknown {tag : Nat} {s : State} (h : s.findTag tag = none) :
    doHold tag s = (s, refusal .unknownTag) := by
  simp [doHold, h]

section
variable {tag : Nat} {s : State} {i : Fin 24} {g : Grant}

theorem doHold_wrongState (held : HeldIn s tag i g) (other : g.state ≠ .fueling) :
    doHold tag s = (s, refusal .wrongState) := by
  simp [doHold, held.1, held.2, other]

theorem doHold_fueling (held : HeldIn s tag i g) (fueling : g.state = .fueling) :
    doHold tag s = (enterHeld i s, okWith []) := by
  simp [doHold, held.1, held.2, fueling]

/-- Entry to HELD with its close orders taken first: they read no grant, so the grant's new form may come last. -/
theorem enterHeld_closesFirst (hg : s.grantAt i = some g) :
    enterHeld i s = (closeOrders g.attached s).setSlot i (some (g.heldForm s.cp.timers.hold)) := by
  rw [enterHeld_eq hg, closeOrders_setSlot]

end

/-- Settles O21, by the three answers of HOLD: no grant of that tag, a grant in another state, a FUELING grant. -/
theorem holdSuspendsGrant : Obligations.HoldSuspendsGrant := by
  intro tag s takes
  refine ⟨fun unheld => exec_answers takes rfl (doHold_unknown (findTag_eq_none.mpr unheld)), fun i g held =>
    ⟨fun other => exec_answers takes rfl (doHold_wrongState held other), fun fueling => ?_⟩⟩
  have enters : doHold tag s =
      ((closeOrders g.attached s).setSlot i (some (g.heldForm s.cp.timers.hold)), okWith []) := by
    rw [doHold_fueling held fueling, enterHeld_closesFirst held.2]
  exact exec_answers takes rfl enters

end Sys2Proof.Machine
end

section
/-! PROOFS. SITE_HALT, SITE_RESUME and the filtered E-STOP edges (R153, R158 to R160), by the site state. -/

namespace Sys2Proof.Machine

/-! ### SITE_HALT (R158) -/

/-- The entry to HALTING leaves the site in HALTING, or in HALTED where the completion test passes. -/
theorem enterHalting_stopped (s : State) : (enterHalting s).ss.site ≠ .running := by
  rw [enterHalting_eq]
  split
  · simp [haltEntered_ss]
  · simp [State.raiseHaltComplete]

/-- The answer's site byte for a site that does not run. -/
theorem byteOf_codeOfSite_stopped {x : SiteState} (stopped : x ≠ .running) :
    byteOf (codeOfSite x) = if x = .halted then 2#8 else 1#8 := by
  cases x with
  | running => exact absurd rfl stopped
  | halting => rfl
  | halted => rfl

section
variable {s : State}

theorem doSiteHalt_running (running : s.ss.site = .running) :
    doSiteHalt s =
      (enterHalting s, okWith [if (enterHalting s).ss.site = .halted then 2#8 else 1#8]) := by
  rw [doSiteHalt, if_pos running, byteOf_codeOfSite_stopped (enterHalting_stopped s)]

theorem doSiteHalt_stopped (stopped : s.ss.site ≠ .running) :
    doSiteHalt s = (s, okWith [if s.ss.site = .halted then 2#8 else 1#8]) := by
  rw [doSiteHalt, if_neg stopped, byteOf_codeOfSite_stopped stopped]

theorem doSiteHalt_halting (halting : s.ss.site = .halting) : doSiteHalt s = (s, okWith [1#8]) := by
  rw [doSiteHalt_stopped (by simp [halting]), if_neg (by simp [halting])]

theorem doSiteHalt_halted (halted : s.ss.site = .halted) : doSiteHalt s = (s, okWith [2#8]) := by
  rw [doSiteHalt_stopped (by simp [halted]), if_pos halted]

/-! ### SITE_RESUME (R159, R160) -/

theorem doSiteResume_running (running : s.ss.site = .running) : doSiteResume s = (s, okWith []) := by
  simp only [doSiteResume, running]

theorem doSiteResume_halting (halting : s.ss.site = .halting) : doSiteResume s = (s, refusal .wrongState) := by
  simp only [doSiteResume, halting]

theorem doSiteResume_asserted (halted : s.ss.site = .halted) (asserted : s.ss.estop = true) :
    doSiteResume s = (s, refusal .stillAsserted) := by
  simp only [doSiteResume, halted, asserted, if_true]

theorem doSiteResume_resumes (halted : s.ss.site = .halted) (released : s.ss.estop = false) :
    doSiteResume s = (resumeSite s, okWith []) := by
  simp [doSiteResume, halted, released]

/-! ### The E-STOP edges (R153) -/

theorem estopAssert_running (running : s.ss.site = .running) : estopAssert s = enterHalting (setEstop true s) :=
  if_pos running

theorem estopAssert_stopped (stopped : s.ss.site ≠ .running) : estopAssert s = setEstop true s := if_neg stopped

end

/-- Settles O46, by the site state in which each command or edge comes. -/
theorem siteCommands : Obligations.SiteCommands := by
  refine ⟨fun s takes => ⟨fun running => ?_, fun halting => ?_, fun halted => ?_⟩,
    fun s takes => ⟨fun running => ?_, fun halting => ?_, fun halted asserted => ?_, fun halted released => ?_⟩,
    fun s => ⟨fun running => ?_, fun stopped => ?_, ?_⟩⟩
  · exact exec_answers takes rfl (doSiteHalt_running running)
  · exact exec_answers takes rfl (doSiteHalt_halting halting)
  · exact exec_answers takes rfl (doSiteHalt_halted halted)
  · exact exec_answers takes rfl (doSiteResume_running running)
  · exact exec_answers takes rfl (doSiteResume_halting halting)
  · exact exec_answers takes rfl (doSiteResume_asserted halted asserted)
  · exact exec_answers takes rfl (doSiteResume_resumes halted released)
  · exact congrArg Host.Outcome.next (estopAssert_running running)
  · exact congrArg Host.Outcome.next (estopAssert_stopped stopped)
  · rfl

end Sys2Proof.Machine
end

section
/-! PROOFS. The bus monitor (R164 to R168, R181): START, STOP, the address bytes and the stuck timer. -/

namespace Sys2Proof.Machine

/-! ### START and the bytes of an address (R164 to R168) -/

/-- A START sets bus busy and awaits an address; the stuck timer runs from the START that made the bus busy on. -/
theorem started_of_ne_stuck {x : IslandBus} (h : x.state ≠ .stuck) :
    x.started =
      { x with state := .busyOther true, stuckTimer := x.stuckTimer || !x.busy, busy := true, stretch := none } := by
  unfold IslandBus.started
  split
  · next stuck => exact absurd stuck h
  · cases x.busy <;> simp

theorem started_of_stuck {x : IslandBus} (h : x.state = .stuck) : x.started = x := by
  simp only [IslandBus.started, h]

theorem laneOfAddress_write {b : Byte} {n : Fin 8} (h : b.toNat = 0x50 + 2 * n.val) :
    laneOfAddress b = some (n, false) := by
  have half : b.toNat / 2 = 0x28 + n.val := by omega
  have even : b.toNat % 2 = 0 := by omega
  simp [laneOfAddress, half, even, laneOf_val]

theorem laneOfAddress_read {b : Byte} {n : Fin 8} (h : b.toNat = 0x51 + 2 * n.val) :
    laneOfAddress b = some (n, true) := by
  have half : b.toNat / 2 = 0x28 + n.val := by omega
  have odd : b.toNat % 2 = 1 := by omega
  simp [laneOfAddress, half, odd, laneOf_val]

/-- Below 0x50 the address is less than 0x28, above 0x5F more than 0x2F. -/
theorem laneOfAddress_other {b : Byte} (h : b.toNat < 0x50 ∨ 0x5F < b.toNat) : laneOfAddress b = none := by
  rcases h with below | above
  · have : ¬ 0x28 ≤ b.toNat / 2 := by omega
    simp [laneOfAddress, this]
  · have : ¬ b.toNat / 2 - 0x28 < 8 := by omega
    simp [laneOfAddress, laneOf, this]

section Addressed
variable {x : IslandBus} {b : Byte} {n : Fin 8}

theorem addressed_write (h : laneOfAddress b = some (n, false)) :
    x.addressed b = { x with state := .slaveRx n, received := [] } := by
  unfold IslandBus.addressed
  rw [h]

theorem addressed_read (h : laneOfAddress b = some (n, true)) :
    x.addressed b = { x with state := .slaveTx n, stretch := none } := by
  unfold IslandBus.addressed
  rw [h]

theorem addressed_other (h : laneOfAddress b = none) : x.addressed b = { x with state := .busyOther false } := by
  unfold IslandBus.addressed
  rw [h]

end Addressed

theorem addressByte_awaited {s : State} (h : s.ibi.state = .busyOther true) (b : Byte) :
    addressByte b s = s.modIbi (·.addressed b) := by simp only [addressByte, h]

theorem addressByte_not_awaited {s : State} (h : s.ibi.state ≠ .busyOther true) (b : Byte) : addressByte b s = s := by
  unfold addressByte
  split
  · next awaited => exact absurd awaited h
  · rfl

/-! ### A transfer broken off (R167, R181) -/

@[simp] theorem breakOff_state (s : State) : (breakOff s).ibi.state = s.ibi.state := by
  unfold breakOff; split <;> simp
@[simp] theorem breakOff_busy (s : State) : (breakOff s).ibi.busy = s.ibi.busy := by
  unfold breakOff; split <;> simp
@[simp] theorem breakOff_stuckTimer (s : State) : (breakOff s).ibi.stuckTimer = s.ibi.stuckTimer := by
  unfold breakOff; split <;> simp
@[simp] theorem breakOff_au (s : State) : (breakOff s).au = s.au := by
  unfold breakOff; split <;> simp

theorem exec_startCondition_stuck {s : State} (h : s.ibi.state = .stuck) : exec .startCondition s = .next s := by
  have intact : breakOff s = s := breakOff_other (by simp [h])
  change Host.Outcome.next ((breakOff s).modIbi (·.started)) = _
  rw [intact, State.modIbi, started_of_stuck h]

theorem exec_startCondition {s : State} (h : s.ibi.state ≠ .stuck) :
    exec .startCondition s = .next
      { breakOff s with
        ibi :=
          { (breakOff s).ibi with
            state := .busyOther true
            stuckTimer := s.ibi.stuckTimer || !s.ibi.busy
            busy := true
            stretch := none } } := by
  change Host.Outcome.next ((breakOff s).modIbi (·.started)) = _
  rw [State.modIbi, started_of_ne_stuck (by rwa [breakOff_state]), breakOff_busy, breakOff_stuckTimer]

theorem exec_busStuckTimerExpiry {s : State} (h : s.ibi.stuckTimer = true) :
    exec .busStuckTimerExpiry s = .next
      { breakOff s with
        ibi := { (breakOff s).ibi with state := .stuck, stuckTimer := false, stretch := none, received := [] }
        au := { s.au with busFault := true } } := by
  change Host.Outcome.next (busStuck s) = _
  rw [busStuck, if_pos h, State.raiseBusFault, modIbi_au, breakOff_au]
  rfl

/-- Settles O47, by the IBI's state at each event; an address byte by the lane it names. -/
theorem busMonitorFollowsLines : Obligations.BusMonitorFollowsLines := by
  refine ⟨fun s => ?_, fun b s => ⟨fun h => ?_, fun h =>
    ⟨fun n write => ?_, fun n read => ?_, fun other => ?_⟩⟩⟩
  · intro broken
    have eq : broken = breakOff s := by
      simp only [broken]
      split
      · next master => exact (breakOff_master master).symm
      · next other => exact (breakOff_other other).symm
    rw [eq]
    exact ⟨exec_startCondition_stuck, exec_startCondition, rfl, exec_busStuckTimerExpiry,
      fun stopped => congrArg Host.Outcome.next (if_neg (by simp [stopped]))⟩
  · exact congrArg Host.Outcome.next (addressByte_not_awaited h b)
  all_goals
    refine congrArg Host.Outcome.next ((addressByte_awaited h b).trans ?_)
    rw [State.modIbi]
  · rw [addressed_write (laneOfAddress_write write)]
  · rw [addressed_read (laneOfAddress_read read)]
  · rw [addressed_other (laneOfAddress_other other)]

end Sys2Proof.Machine
end

section
/-! PROOFS. The reply slot (R172 to R175): a terminal's read, the placing of an answer, and the order of the answers. -/

namespace Sys2Proof.Machine

/-! ### A read of the slot (R173) -/

/-- As many bytes of 0xFF behind the frame as are clocked never fall short. -/
theorem clockOut_eq (frame : List Byte) (n : Nat) :
    clockOut frame n = (frame ++ List.replicate n 0xFF#8).take n := by
  simp only [clockOut, List.take_append, List.take_replicate]
  congr 2
  omega

/-- The state after a read of `n` bytes: the message is sent, then 0xFF, and no read waits any more. -/
def State.sends (s : State) (message : List Byte) (n : Nat) : State :=
  { s with ibi := { s.ibi with sent := (message ++ List.replicate n 0xFF#8).take n, stretch := none } }

theorem sends_eq (s : State) (message : List Byte) (n : Nat) :
    (s.modIbi fun b => { b with sent := clockOut message n, stretch := none }) = s.sends message n := by
  rw [clockOut_eq]
  rfl

section Read
variable {lane : Fin 8} {s : State}

theorem sendReply_none (h : (s.lane lane).reply = none) (n : Nat) :
    sendReply lane n s = s.sends (replyMessage noReply) n := by
  unfold sendReply
  rw [h, ← sends_eq]

theorem sendReply_some {r : Reply} (h : (s.lane lane).reply = some r) (n : Nat) :
    sendReply lane n s =
      if (replyMessage r).length ≤ n then
        (s.sends (replyMessage r) n).setLane lane { s.lane lane with reply := none }
      else s.sends (replyMessage r) n := by
  unfold sendReply
  rw [h, ← sends_eq]
  dsimp only
  split <;> rfl

theorem exec_replyRead_elsewhere (h : ∀ l, s.ibi.state ≠ .slaveTx l) (n : Nat) :
    exec (.replyRead n) s = .next s := by
  change Host.Outcome.next (replyRead n s) = _
  unfold replyRead
  split
  · next l state => exact absurd state (h l)
  · rfl

theorem exec_replyRead (h : s.ibi.state = .slaveTx lane) (n : Nat) :
    exec (.replyRead n) s = .next
      (if s.ibi.processing lane = true then s.modIbi fun b => { b with stretch := some n, sent := [] }
      else sendReply lane n s) := by
  change Host.Outcome.next (replyRead n s) = _
  unfold replyRead
  rw [h]

end Read

theorem processing_iff {x : IslandBus} {lane : Fin 8} :
    x.processing lane = true ↔ ∃ e ∈ x.inProcess, e.lane = lane ∧ e.discarded = false := by
  simp [IslandBus.processing]

theorem not_processing_iff {x : IslandBus} {lane : Fin 8} :
    ¬ x.processing lane = true ↔ ∀ e ∈ x.inProcess, e.lane = lane → e.discarded = true := by
  simp [processing_iff]

/-! ### The placing of an answer (R172, R174) -/

theorem placeReply_waiting {s : State} {lane : Fin 8} {n : Nat} (state : s.ibi.state = .slaveTx lane)
    (waits : s.ibi.stretch = some n) (r : Reply) :
    placeReply lane r s = sendReply lane n (s.setLane lane { s.lane lane with reply := some r }) := by
  unfold placeReply
  rw [state, waits]
  exact if_pos rfl

theorem placeReply_not_waiting {s : State} {lane : Fin 8} (h : s.ibi.state ≠ .slaveTx lane ∨ s.ibi.stretch = none)
    (r : Reply) : placeReply lane r s = s.setLane lane { s.lane lane with reply := some r } := by
  unfold placeReply
  dsimp only
  split
  · next l n state stretch =>
    refine if_neg fun same => ?_
    rcases h with other | idle
    · exact other (same ▸ state)
    · simp [stretch] at idle
  · rfl

/-! ### The order of the answers (R171, R175) -/

/-- The answer FORMAT to a malformed message, unless its lane was flushed since. -/
def answerMalformed (s : State) (x : InProcess) : State :=
  if x.discarded then s else placeReply x.lane formatReply s

/-- The malformed messages at the head are answered one after the other; the rest stays in processing. -/
theorem goOnWith_append {before after : List InProcess} (malformed : ∀ x ∈ before, x.message = .malformed)
    (other : ∀ x, after.head? = some x → x.message ≠ .malformed) (s : State) :
    goOnWith (before ++ after) s =
      (before.foldl answerMalformed s).modIbi fun b => { b with inProcess := after } := by
  induction before generalizing s with
  | nil =>
    cases after with
    | nil => rfl
    | cons x rest => exact if_neg (other x rfl)
  | cons x before ih =>
    obtain ⟨first, others⟩ := List.forall_mem_cons.mp malformed
    exact (if_pos first).trans (ih others _)

/-- A row for a message that is not the oldest in processing changes nothing. -/
theorem answerMessage_absent {s : State} {x : InProcess} {rest : List InProcess} {lane : Fin 8} {m : LaneMessage}
    (h : s.ibi.inProcess = x :: rest) (other : x.lane ≠ lane ∨ x.message ≠ m) (act : State → State × Reply) :
    answerMessage lane m act s = s := by
  have absent : s.ibi.taking lane m = .absent := by
    simp only [IslandBus.taking, h]
    exact if_neg fun ⟨l, k⟩ => other.elim (· l) (· k)
  unfold answerMessage
  rw [absent]

/-- With the answer to be discarded the effect on the state is the same, and the answer is not placed. -/
theorem answerMessage_discarded {s : State} {rest : List InProcess} {lane : Fin 8} {m : LaneMessage}
    (h : s.ibi.inProcess = { lane := lane, message := m, discarded := true } :: rest) (act : State → State × Reply) :
    answerMessage lane m act s = (act (goOnWith rest s)).1
    ∧ answerMessage lane m act
        (s.modIbi fun b => { b with inProcess := { lane := lane, message := m, discarded := false } :: rest })
      = placeReply lane (act (goOnWith rest s)).2 (act (goOnWith rest s)).1 := by
  constructor
  · have taking : s.ibi.taking lane m = .discarded := by simp [IslandBus.taking, h]
    unfold answerMessage takeOldest
    rw [taking, h]
    rfl
  · have placed : TakenFrom
        (s.modIbi fun b => { b with inProcess := { lane := lane, message := m, discarded := false } :: rest })
        lane m (goOnWith rest s) := .inr ⟨rest, rfl, (goOnWith_inProcess ..).symm⟩
    exact answerMessage_taken placed act

/-- Settles O52: the read by what is in processing, the placing by the read that waits, the order by induction on the
malformed messages, and the discarded answer by comparing the two ways a message is taken. -/
theorem repliesAreRead : Obligations.RepliesAreRead := by
  unfold Obligations.RepliesAreRead
  intro read
  have read_eq : ∀ lane n s, read lane n s = sendReply lane n s := by
    intro lane n s
    simp only [read]
    split
    · next r reply => exact (sendReply_some reply n).symm
    · next reply => exact (sendReply_none reply n).symm
  simp only [read_eq]
  refine ⟨fun n s => ⟨fun elsewhere => exec_replyRead_elsewhere elsewhere n, fun lane state =>
      ⟨fun processing => ?_, fun answered => ?_⟩⟩,
    fun lane r s => ⟨fun n state waits => placeReply_waiting state waits r, fun h => placeReply_not_waiting h r⟩,
    fun before after s malformed other => goOnWith_append malformed other s,
    fun lane m x rest s oldest other => ⟨?_, ?_⟩,
    fun lane rest s => ⟨fun tag oldest => ?_, fun request oldest => ?_⟩⟩
  · rw [exec_replyRead state, if_pos (processing_iff.mpr processing)]
    rfl
  · rw [exec_replyRead state, if_neg (not_processing_iff.mpr answered)]
  · rintro tag rfl
    exact congrArg Host.Outcome.next (answerMessage_absent oldest other _)
  · rintro request rfl
    exact congrArg Host.Outcome.next (answerMessage_absent oldest other _)
  · obtain ⟨discarded, placed⟩ := answerMessage_discarded oldest (doCancel lane tag)
    exact ⟨_, _, congrArg Host.Outcome.next discarded, congrArg Host.Outcome.next placed⟩
  · obtain ⟨discarded, placed⟩ := answerMessage_discarded oldest (doAuthRequest lane request)
    exact ⟨_, _, congrArg Host.Outcome.next discarded, congrArg Host.Outcome.next placed⟩

end Sys2Proof.Machine
end

section
/-! PROOFS. A terminal's write (R165, R169 to R172, R175): the condition that ends it, the flush of its lane and the
sorting of its message. -/

namespace Sys2Proof.Machine

/-! ### The check byte and the sorting of a message (R170) -/

theorem checkGood_iff {m : List Byte} (ne : m ≠ []) :
    checkGood m = true ↔ checkByte m.dropLast = m.getLastD 0#8 := by
  simp only [checkGood, List.getLast?_eq_some_getLast ne, beq_iff_eq, List.getLastD_eq_getLast?, Option.getD_some]

section Sorting
variable {m : List Byte} {lane : Fin 8} {s : State}

theorem sortMessage_bad (bad : ¬ checkGood m = true) : sortMessage lane m s = answerFormat lane s := if_neg bad

theorem sortMessage_auth (good : checkGood m = true) (kind : m.head? = some 1#8) :
    sortMessage lane m s = handOn lane (.auth (authOfMessage m)) s := by
  obtain ⟨rest, rfl⟩ := List.head?_eq_some_iff.mp kind
  exact (if_pos good).trans (if_pos rfl)

theorem sortMessage_cancel {tag check : Byte} (good : checkGood [2#8, 1#8, tag, check] = true) (h : tag ≠ 0#8) :
    sortMessage lane [2#8, 1#8, tag, check] s = handOn lane (.cancel tag.toNat) s :=
  (if_pos good).trans ((if_neg (by decide)).trans ((if_pos rfl).trans (if_pos ⟨rfl, h⟩)))

/-- An unknown kind, and a CANCEL whose length or tag is wrong, are malformed. -/
theorem sortMessage_malformed (kind : m.head? ≠ some 1#8)
    (shape : ∀ tag check : Byte, m = [2#8, 1#8, tag, check] → tag = 0#8) :
    sortMessage lane m s = answerFormat lane s := by
  unfold sortMessage
  split
  · split
    · next first rest =>
      rw [if_neg (by simpa using kind)]
      split
      · next cancel =>
        split
        · next n tag check => exact if_neg fun ⟨one, nonzero⟩ => nonzero (shape tag check (by rw [cancel, one]))
        · rfl
      · rfl
    · rfl
  · rfl

end Sorting

/-! ### The condition that ended the write (R165) -/

/-- The bus after a write to one of the part's addresses: FREE after its STOP, awaiting an address after its START. -/
def IslandBus.afterWrite (x : IslandBus) : WriteEnd → IslandBus
  | .stop => { x with received := [], state := .free, busy := false, stuckTimer := false, stretch := none }
  | .repeatedStart =>
    { x with
      received := []
      state := .busyOther true
      stuckTimer := x.stuckTimer || !x.busy
      busy := true
      stretch := none }

theorem modIbi_ended {s : State} {lane : Fin 8} (state : s.ibi.state = .slaveRx lane) (received : s.ibi.received = [])
    (ending : WriteEnd) : s.modIbi (·.ended ending) = s.modIbi (·.afterWrite ending) := by
  cases ending with
  | stop => simp only [State.modIbi, IslandBus.ended, IslandBus.stoppedAt, IslandBus.afterWrite, ← received]
  | repeatedStart =>
    have ready : s.ibi.state ≠ .stuck := by simp [state]
    simp only [State.modIbi, IslandBus.ended, started_of_ne_stuck ready, IslandBus.afterWrite, ← received]

/-! ### The lane flushed by a write (R171) -/

theorem setLane_setLane (s : State) (n : Fin 8) (x y : Lane) : (s.setLane n x).setLane n y = s.setLane n y := by
  simp [State.setLane]

/-- The state in which a message is sorted: the buffer empty and the lane flushed. -/
def State.emptied (s : State) (lane : Fin 8) : State := flushLane lane (s.modIbi fun x => { x with received := [] })

/-- The messages in processing once those of a lane are to have their answers discarded. -/
def discardedFor (lane : Fin 8) (messages : List InProcess) : List InProcess :=
  messages.map fun x => if x.lane = lane then { x with discarded := true } else x

theorem emptied_lane (s : State) (lane : Fin 8) : (s.emptied lane).lane lane = Lane.atReset := by
  rw [State.emptied, flushLane_lane, if_pos rfl]

theorem emptied_inProcess (s : State) (lane : Fin 8) :
    (s.emptied lane).ibi.inProcess = discardedFor lane s.ibi.inProcess := rfl

theorem discardedFor_eq_nil {lane : Fin 8} {messages : List InProcess} :
    discardedFor lane messages = [] ↔ messages = [] := List.map_eq_nil_iff

section Write
variable {lane : Fin 8} {s : State} (state : s.ibi.state = .slaveRx lane)
include state

/-- In SLAVE_RX no notice of the part's own is in flight, so the flush leaves the bus state. -/
theorem emptied_state : (s.emptied lane).ibi.state = .slaveRx lane := by
  change s.ibi.state.overtaken lane = _
  rw [state]
  rfl

theorem emptied_eq :
    s.emptied lane =
      { s with
        ibi := { s.ibi with received := [], inProcess := discardedFor lane s.ibi.inProcess } }.setLane lane
        Lane.atReset := by
  have same : s.ibi.state.overtaken lane = s.ibi.state := by rw [state]; rfl
  simp only [State.emptied, flushLane, State.modIbi, State.setLane, same, discardedFor]

theorem writePhaseEnd_empty (ending : WriteEnd) :
    writePhaseEnd [] ending s = { s with ibi := s.ibi.afterWrite ending } := by
  unfold writePhaseEnd
  rw [state]
  refine (modIbi_ended (s := s.modIbi fun x => { x with received := [] }) state rfl ending).trans ?_
  cases ending <;> rfl

theorem writePhaseEnd_message {bytes : List Byte} (ne : bytes ≠ []) (ending : WriteEnd) :
    writePhaseEnd bytes ending s =
      (sortMessage lane (bytes.take 64) (s.emptied lane)).modIbi (·.ended ending) := by
  obtain ⟨b, rest, rfl⟩ := List.exists_cons_of_ne_nil ne
  unfold writePhaseEnd
  rw [state]
  rfl

/-- A message handed on joins the tail of those in processing. -/
theorem handOn_ended (m : LaneMessage) (ending : WriteEnd) :
    (handOn lane m (s.emptied lane)).modIbi (·.ended ending) =
      { s with
        ibi :=
          { s.ibi.afterWrite ending with
            inProcess :=
              discardedFor lane s.ibi.inProcess
                ++ [({ lane := lane, message := m, discarded := false } : InProcess)] } }.setLane lane Lane.atReset := by
  rw [modIbi_ended (s := handOn lane m (s.emptied lane)) (emptied_state state) rfl, emptied_eq state]
  cases ending <;> rfl

/-- With no message in processing the answer FORMAT is placed at once. -/
theorem answerFormat_idle (idle : s.ibi.inProcess = []) (ending : WriteEnd) :
    (answerFormat lane (s.emptied lane)).modIbi (·.ended ending) =
      { s with ibi := s.ibi.afterWrite ending }.setLane lane { Lane.atReset with reply := some formatReply } := by
  have empty : discardedFor lane s.ibi.inProcess = s.ibi.inProcess := by rw [idle]; rfl
  have elsewhere : (s.emptied lane).ibi.state ≠ .slaveTx lane := by simp [emptied_state state]
  have placed : answerFormat lane (s.emptied lane) =
      (s.emptied lane).setLane lane { Lane.atReset with reply := some formatReply } := by
    rw [answerFormat, emptied_inProcess, if_pos (discardedFor_eq_nil.mpr idle), placeReply_not_waiting (.inl elsewhere),
      emptied_lane]
  rw [placed, modIbi_ended (s := (s.emptied lane).setLane lane _) (emptied_state state) rfl, emptied_eq state,
    setLane_setLane, empty]
  cases ending <;> rfl

omit state in
/-- With messages in processing it waits for its turn behind them. -/
theorem answerFormat_busy (busy : s.ibi.inProcess ≠ []) :
    answerFormat lane (s.emptied lane) = handOn lane .malformed (s.emptied lane) :=
  if_neg (mt discardedFor_eq_nil.mp busy)

end Write

/-- Settles O48, by what the write's bytes are: none, or a message that is handed on or answered FORMAT. -/
theorem writePhaseSortsMessage : Obligations.WritePhaseSortsMessage := by
  intro bytes ending s
  refine ⟨fun elsewhere => ?_, fun lane state => ?_⟩
  · change Host.Outcome.next (writePhaseEnd bytes ending s) = _
    unfold writePhaseEnd
    split
    · next l receiving => exact absurd receiving (elsewhere l)
    · rfl
  · intro m ended old flushed queued format good
    have ended_eq : ended = s.ibi.afterWrite ending := by cases ending <;> rfl
    have queued_eq : ∀ x, (handOn lane x (s.emptied lane)).modIbi (·.ended ending) = queued x := fun x => by
      rw [handOn_ended state, ← ended_eq]
      rfl
    have format_eq : (answerFormat lane (s.emptied lane)).modIbi (·.ended ending) = format := by
      by_cases idle : s.ibi.inProcess = []
      · rw [answerFormat_idle state idle, ← ended_eq]
        exact (if_pos idle).symm
      · rw [answerFormat_busy idle, queued_eq]
        exact (if_neg idle).symm
    have sorted : ∀ {t}, bytes ≠ [] → sortMessage lane m (s.emptied lane) = t →
        exec (.writePhaseEnd bytes ending) s = .next (t.modIbi (·.ended ending)) := by
      rintro t ne rfl
      exact congrArg Host.Outcome.next (writePhaseEnd_message state ne ending)
    have good_iff : bytes ≠ [] → (checkGood m = true ↔ good) := fun ne => checkGood_iff (by simpa [m] using ne)
    refine ⟨fun empty => ?_, fun ne bad => ?_, fun ne pass kind => ?_, fun tag check pass shape nonzero => ?_,
      fun ne pass kind shape => ?_⟩
    · rw [empty, ended_eq]
      exact congrArg Host.Outcome.next (writePhaseEnd_empty state ending)
    · rw [← format_eq]
      exact sorted ne (sortMessage_bad (mt (good_iff ne).mp bad))
    · rw [← queued_eq]
      exact sorted ne (sortMessage_auth ((good_iff ne).mpr pass) kind)
    · have ne : bytes ≠ [] := by rintro rfl; exact nomatch shape
      rw [← queued_eq]
      refine sorted ne ?_
      have passes := (good_iff ne).mpr pass
      rw [shape] at passes ⊢
      exact sortMessage_cancel passes nonzero
    · rw [← format_eq]
      exact sorted ne (sortMessage_malformed kind shape)

end Sys2Proof.Machine
end

section
/-! PROOFS. The notices (R176 to R182): the queues, the choice of the next transfer, and how a transfer ends. -/

namespace Sys2Proof.Machine

/-! ### A notice joins its queue (R176, R182) -/

section Queue
variable {n : Fin 8} {s : State}

theorem queueNotice_room (room : (s.lane n).notices.length < 2) (x : Notice) :
    queueNotice n x s = s.setLane n { s.lane n with notices := (s.lane n).notices ++ [x] } := if_pos room

/-- A full queue loses its oldest, which a transfer in flight then no longer sends as its head. -/
theorem queueNotice_full (full : 2 ≤ (s.lane n).notices.length) (x : Notice) :
    queueNotice n x s =
      { s with ibi := { s.ibi with state := s.ibi.state.overtaken n } }.setLane n
        { s.lane n with notices := (s.lane n).notices.tail ++ [x], attempts := 0, retryWait := false } := by
  rw [queueNotice, if_neg (Nat.not_lt.mpr full), List.drop_one]
  rfl

end Queue

theorem overtaken_same (n : Fin 8) (c : Bool) :
    (BusState.masterTx (.lane n c)).overtaken n = .masterTx (.lane n false) := by
  simp [BusState.overtaken]

theorem overtaken_other {b : BusState} {n : Fin 8} (h : ∀ c, b ≠ .masterTx (.lane n c)) : b.overtaken n = b := by
  unfold BusState.overtaken
  split
  · next l c =>
    have other : l ≠ n := by rintro rfl; exact h c rfl
    simp [other]
  · rfl

/-! ### The next transfer (R178) -/

/-- What a lane offers for the next transfer: its head notice, unless it waits. -/
def State.offer (s : State) (n : Fin 8) : Option (Fin 8 × Notice) :=
  if (s.lane n).retryWait then none else (s.lane n).notices.head?.map (n, ·)

theorem offer_head {s : State} {n : Fin 8} {x : Notice} {rest : List Notice} (ready : (s.lane n).retryWait = false)
    (head : (s.lane n).notices = x :: rest) : s.offer n = some (n, x) := by
  simp [State.offer, ready, head]

theorem offer_none {s : State} {n : Fin 8} (h : (s.lane n).notices = [] ∨ (s.lane n).retryWait = true) :
    s.offer n = none := by
  rcases h with empty | waits
  · simp [State.offer, empty]
  · simp [State.offer, waits]

/-- The lanes are asked in cyclic order after the one served last. -/
theorem nextLane_eq (s : State) : s.nextLane = Fin.findSome? fun d : Fin 8 => s.offer (s.ibi.lastServed + 1 + d) := by
  rw [Fin.findSome?_eq_findSome?_finRange]
  exact List.findSome?_map

theorem nextLane_first {s : State} {d : Fin 8} {offered : Fin 8 × Notice}
    (first : s.offer (s.ibi.lastServed + 1 + d) = some offered)
    (before : ∀ e, e < d → s.offer (s.ibi.lastServed + 1 + e) = none) : s.nextLane = some offered := by
  rw [nextLane_eq, Fin.findSome?_eq_some_iff]
  exact ⟨d, first, before⟩

theorem nextLane_none {s : State} (h : ∀ n, s.offer n = none) : s.nextLane = none := by
  rw [nextLane_eq, Fin.findSome?_eq_none_iff]
  exact fun d => h _

/-! ### The part's START (R166, R178 to R180) -/

theorem master_eq (x : IslandBus) (t : Transfer) (bytes : List Byte) :
    x.master t bytes =
      { x with
        state := .masterTx t
        stuckTimer := x.stuckTimer || !x.busy
        busy := true
        outgoing := bytes
        sent := [] } := by
  unfold IslandBus.master
  cases x.busy <;> simp

section Start
variable {s : State}

theorem startTransfer_not_free (h : s.ibi.state ≠ .free) : startTransfer s = s := by
  unfold startTransfer
  split
  · next free => exact absurd free h
  · rfl

theorem startTransfer_general {x : SiteNotice} (free : s.ibi.state = .free) (general : s.ibi.general = some x) :
    startTransfer s = s.modIbi (·.master (.general true) (0#8 :: siteNoticeMessage x)) := by
  unfold startTransfer
  rw [free, general]

theorem startTransfer_lane {n : Fin 8} {x : Notice} (free : s.ibi.state = .free) (general : s.ibi.general = none)
    (next : s.nextLane = some (n, x)) :
    startTransfer s =
      s.modIbi (·.master (.lane n true) (BitVec.ofNat 8 (0x60 + 2 * n.val) :: noticeMessage x)) := by
  have address : byteOf ((0x30 + n.val) * 2) = BitVec.ofNat 8 (0x60 + 2 * n.val) := by
    rw [byteOf]
    congr 1
    omega
  unfold startTransfer
  rw [free, general, next, ← address]

theorem startTransfer_nothing (general : s.ibi.general = none) (next : s.nextLane = none) : startTransfer s = s := by
  unfold startTransfer
  rw [general, next]
  split <;> rfl

end Start

/-! ### A lost arbitration (R181) -/

section Loss
variable {s : State}

theorem arbitrationLoss_elsewhere (h : ∀ x, s.ibi.state ≠ .masterTx x) (loss : ArbitrationLoss) :
    arbitrationLoss loss s = s := by
  unfold arbitrationLoss
  split
  · next x master => exact absurd master (h x)
  · rfl

theorem arbitrationLoss_data {x : Transfer} (master : s.ibi.state = .masterTx x) (complete : Nat) :
    arbitrationLoss (.data complete) s =
      { s with
        ibi := { s.ibi with sent := s.ibi.outgoing.take (complete + 1), outgoing := [], state := .busyOther false } } := by
  unfold arbitrationLoss
  rw [master]
  simp only [State.modIbi, cut_master master]

/-- The address the IBI has lost to is then taken as any other address byte. -/
theorem arbitrationLoss_address {x : Transfer} (master : s.ibi.state = .masterTx x) (b : Byte) :
    arbitrationLoss (.address b) s =
      addressByte b
        { s with
          ibi := { s.ibi with sent := s.ibi.outgoing.take 0, outgoing := [], state := .busyOther true } } := by
  rw [addressByte_awaited rfl]
  unfold arbitrationLoss
  rw [master]
  simp only [State.modIbi, cut_master master]
  unfold IslandBus.addressed
  split <;> rfl

end Loss

/-! ### The end of a transfer (R179, R180, R182) -/

theorem generalTransferEnd_elsewhere {s : State} (h : ∀ c, s.ibi.state ≠ .masterTx (.general c)) :
    generalTransferEnd s = s := by
  unfold generalTransferEnd
  split
  · next c master => exact absurd master (h c)
  · rfl

theorem generalTransferEnd_master {s : State} {c : Bool} (master : s.ibi.state = .masterTx (.general c)) :
    generalTransferEnd s =
      { s with
        ibi :=
          { s.ibi with
            state := .free
            busy := false
            stuckTimer := false
            stretch := none
            general := if c then none else s.ibi.general
            outgoing := []
            sent := s.ibi.outgoing } } := by
  unfold generalTransferEnd
  rw [master]
  simp only [State.modIbi, cut_master master, IslandBus.stoppedAt, List.take_length]

/-- The bus at the STOP of a lane notice transfer: FREE, the lane noted as served last, the bytes up to
the first NAK sent. -/
def IslandBus.laneServed (x : IslandBus) (n : Fin 8) (nak : Option Nat) : IslandBus :=
  { x with
    state := .free
    busy := false
    stuckTimer := false
    stretch := none
    lastServed := n
    outgoing := []
    sent :=
      match nak with
      | none => x.outgoing
      | some k => x.outgoing.take (k + 1) }

theorem laneTransferEnd_elsewhere {s : State} (h : ∀ n c, s.ibi.state ≠ .masterTx (.lane n c)) (nak : Option Nat) :
    laneTransferEnd nak s = s := by
  unfold laneTransferEnd
  split
  · next n c master => exact absurd master (h n c)
  · rfl

section LaneEnd
variable {s : State} {n : Fin 8}

theorem cut_stoppedAt_served {x : IslandBus} {t : Transfer} (master : x.state = .masterTx t) (nak : Option Nat) :
    { (x.cut (sentBytes x.outgoing nak)).stoppedAt with lastServed := n } = x.laneServed n nak := by
  rw [cut_master master]
  cases nak with
  | none => simp only [IslandBus.stoppedAt, IslandBus.laneServed, sentBytes, List.take_length]
  | some k => rfl

/-- The notice sent is no longer in its place: nothing changes there. -/
theorem laneTransferEnd_overtaken (master : s.ibi.state = .masterTx (.lane n false)) (nak : Option Nat) :
    laneTransferEnd nak s = s.modIbi (·.laneServed n nak) := by
  unfold laneTransferEnd
  rw [master]
  simp only [State.modIbi, cut_stoppedAt_served master]
  rfl

variable (master : s.ibi.state = .masterTx (.lane n true))
include master

theorem laneTransferEnd_delivered :
    laneTransferEnd none s = (s.modIbi (·.laneServed n none)).setLane n
      { s.lane n with notices := (s.lane n).notices.tail, attempts := 0, retryWait := false } := by
  unfold laneTransferEnd
  rw [master]
  simp only [State.modIbi, cut_stoppedAt_served master, ← List.drop_one]
  rfl

theorem laneTransferEnd_again {nak : Option Nat} (refused : nak ≠ none) (few : (s.lane n).attempts < 2) :
    laneTransferEnd nak s = (s.modIbi (·.laneServed n nak)).setLane n
      { s.lane n with attempts := (s.lane n).attempts + 1, retryWait := true } := by
  obtain ⟨k, rfl⟩ := Option.ne_none_iff_exists'.mp refused
  have again : (s.lane n).attempts + 1 < 3 := by omega
  unfold laneTransferEnd
  rw [master]
  simp only [State.modIbi, cut_stoppedAt_served master, Lane.refused, if_pos again]
  rfl

theorem laneTransferEnd_silent {nak : Option Nat} (refused : nak ≠ none) (third : 2 ≤ (s.lane n).attempts) :
    laneTransferEnd nak s = ((s.modIbi (·.laneServed n nak)).raiseTerminalSilent n).setLane n
      { s.lane n with notices := (s.lane n).notices.tail, attempts := 0, retryWait := true } := by
  obtain ⟨k, rfl⟩ := Option.ne_none_iff_exists'.mp refused
  have last : ¬ (s.lane n).attempts + 1 < 3 := by omega
  unfold laneTransferEnd
  rw [master]
  simp only [State.modIbi, cut_stoppedAt_served master, Lane.refused, if_neg last, ← List.drop_one]
  rfl

end LaneEnd

/-- Settles O53: the queue by its room, the choice by what the lanes offer, and each end of a transfer by the state in
which it comes and, for a lane's notice, by the NAK and the attempts before it. -/
theorem noticesAreSentInTurn : Obligations.NoticesAreSentInTurn := by
  refine ⟨fun n x s => ⟨fun room => queueNotice_room room x, fun full elsewhere => ?_, fun c full master => ?_⟩,
    fun s => ?_, fun n s => rfl, fun nak s => ⟨fun elsewhere => ?_, fun n c master => ?_⟩⟩
  · rw [queueNotice_full full, overtaken_other elsewhere]
  · rw [queueNotice_full full, master, overtaken_same]
  · intro start lost
    have start_eq : ∀ t bytes, s.modIbi (·.master t bytes) = start t bytes := fun t bytes => by
      rw [State.modIbi, master_eq]
    refine ⟨fun busy => ?_, fun x free general => ?_, fun d x rest free general ready head before => ?_,
      fun general nothing => ?_, fun loss elsewhere => ?_, fun x complete master => ?_, fun x b master => ?_,
      fun elsewhere => ?_, fun c master => ?_⟩
    · exact congrArg Host.Outcome.next (startTransfer_not_free busy)
    · rw [← start_eq]
      exact congrArg Host.Outcome.next (startTransfer_general free general)
    · rw [← start_eq]
      exact congrArg Host.Outcome.next
        (startTransfer_lane free general (nextLane_first (offer_head ready head) fun e lt => offer_none (before e lt)))
    · exact congrArg Host.Outcome.next (startTransfer_nothing general (nextLane_none fun n => offer_none (nothing n)))
    · exact congrArg Host.Outcome.next (arbitrationLoss_elsewhere elsewhere loss)
    · exact congrArg Host.Outcome.next (arbitrationLoss_data master complete)
    · exact congrArg Host.Outcome.next (arbitrationLoss_address master b)
    · exact congrArg Host.Outcome.next (generalTransferEnd_elsewhere elsewhere)
    · exact congrArg Host.Outcome.next (generalTransferEnd_master master)
  · exact congrArg Host.Outcome.next (laneTransferEnd_elsewhere elsewhere nak)
  · intro free
    have free_eq : s.modIbi (·.laneServed n nak) = free := by cases nak <;> rfl
    refine ⟨?_, ?_, ?_, ?_⟩
    · rintro rfl
      rw [← free_eq]
      exact congrArg Host.Outcome.next (laneTransferEnd_overtaken master nak)
    · rintro rfl rfl
      rw [← free_eq]
      exact congrArg Host.Outcome.next (laneTransferEnd_delivered master)
    · rintro rfl refused few
      rw [← free_eq]
      exact congrArg Host.Outcome.next (laneTransferEnd_again master refused few)
    · rintro rfl refused third
      rw [← free_eq]
      exact congrArg Host.Outcome.next (laneTransferEnd_silent master refused third)

end Sys2Proof.Machine
end

section
/-! PROOFS. The fields of section 10.8 are read back (R191, R202, R203): numbers, half-bytes, limit entries and the
fixed layouts, and from them every host command. -/

namespace Sys2Proof

/-! ### Numbers -/

theorem fits_iff {k n : Nat} : fits k n = true ↔ n < 256 ^ k := decide_eq_true_iff

theorem byteOf_toNat_of_lt {n : Nat} (h : n < 256) : (byteOf n).toNat = n := by
  rw [byteOf, BitVec.toNat_ofNat, Nat.mod_eq_of_lt h]

theorem byteOf_toNat_of_fits {n : Nat} (h : fits 1 n = true) : (byteOf n).toNat = n :=
  byteOf_toNat_of_lt (fits_iff.mp h)

theorem natOfBytes_concat (bytes : List Byte) (b : Byte) :
    natOfBytes (bytes ++ [b]) = natOfBytes bytes * 256 + b.toNat := by
  rw [natOfBytes, List.foldl_append]
  rfl

/-- A number that fits its field is read back from it. -/
theorem natOfBytes_bytesOfNat {k n : Nat} (h : fits k n = true) : natOfBytes (bytesOfNat k n) = n := by
  rw [fits_iff] at h
  induction k generalizing n with
  | zero => rw [Nat.lt_one_iff.mp h]; rfl
  | succ k ih =>
    have high : n / 256 < 256 ^ k := Nat.div_lt_of_lt_mul (by rwa [Nat.mul_comm, ← Nat.pow_succ])
    rw [bytesOfNat, natOfBytes_concat, ih high, byteOf_toNat_of_lt (by omega)]
    omega

theorem bytesOfNat_two {n : Nat} (h : fits 2 n = true) :
    ∃ a b, bytesOfNat 2 n = [a, b] ∧ natOfBytes [a, b] = n :=
  ⟨_, _, rfl, natOfBytes_bytesOfNat h⟩

theorem bytesOfNat_three {n : Nat} (h : fits 3 n = true) :
    ∃ a b c, bytesOfNat 3 n = [a, b, c] ∧ natOfBytes [a, b, c] = n :=
  ⟨_, _, _, rfl, natOfBytes_bytesOfNat h⟩

theorem bytesOfNat_four {n : Nat} (h : fits 4 n = true) :
    ∃ a b c d, bytesOfNat 4 n = [a, b, c, d] ∧ natOfBytes [a, b, c, d] = n :=
  ⟨_, _, _, _, rfl, natOfBytes_bytesOfNat h⟩

/-- Two's complement of 16 bits loses nothing of its range (section 10.8). -/
theorem signed16_emod {z : Int} (low : -32768 ≤ z) (high : z < 32768) : signed16 (z % 65536).toNat = z := by
  unfold signed16
  split <;> omega

/-! ### Half-bytes -/

theorem halves_byteOf {a b : Nat} (ha : a < 16) (hb : b < 16) (rest : List Byte) :
    halves (byteOf (a * 16 + b) :: rest) = a :: b :: halves rest := by
  have high : (a * 16 + b) / 16 = a := by omega
  have low : (a * 16 + b) % 16 = b := by omega
  rw [halves, byteOf_toNat_of_lt (by omega), high, low]

/-- The counted digits stand in front of the fill (R203). -/
theorem halves_packDigits {k : Nat} {digits : List Nat} (room : digits.length ≤ 2 * k)
    (nibbles : ∀ d ∈ digits, d < 16) :
    (halves (packDigits k digits)).take digits.length = digits := by
  induction k, digits using packDigits.induct with
  | case1 digits =>
    rw [List.length_eq_zero_iff.mp (by omega : digits.length = 0)]
    rfl
  | case2 => rfl
  | case3 k a =>
    rw [packDigits, halves_byteOf (nibbles a (by simp)) (by decide)]
    rfl
  | case4 k a b rest ih =>
    simp only [List.length_cons, List.mem_cons, forall_eq_or_imp] at room nibbles
    obtain ⟨ha, hb, others⟩ := nibbles
    rw [packDigits, halves_byteOf ha hb, List.length_cons, List.length_cons, List.take_succ_cons, List.take_succ_cons,
      ih (by omega) others]

theorem packDigits_length (k : Nat) (digits : List Nat) : (packDigits k digits).length = k := by
  induction k, digits using packDigits.induct <;> simp [packDigits, *]

theorem bytesOfPan_length (pan : Pan) : (bytesOfPan pan).length = 11 := by
  rw [bytesOfPan, List.length_cons, packDigits_length]

theorem panOfBytes_bytesOfPan {pan : Pan} (wf : wfPan pan = true) : panOfBytes (bytesOfPan pan) = pan := by
  obtain ⟨room, nibbles⟩ : pan.length ≤ 20 ∧ ∀ d ∈ pan, d < 16 := by simpa [wfPan] using wf
  have count : (byteOf pan.length).toNat = pan.length := byteOf_toNat_of_lt (by omega)
  rw [panOfBytes, bytesOfPan, List.headD_cons, List.tail_cons, count]
  exact halves_packDigits room nibbles

theorem yymmOfBytes_bytesOfYymm {d : Yymm} (h1 : d.y1 < 16) (h2 : d.y2 < 16) (h3 : d.m1 < 16) (h4 : d.m2 < 16) :
    yymmOfBytes (byteOf (d.y1 * 16 + d.y2)) (byteOf (d.m1 * 16 + d.m2)) = d := by
  have year := halves_byteOf h1 h2 []
  have month := halves_byteOf h3 h4 []
  simp only [halves, List.cons.injEq, and_true] at year month
  obtain ⟨y1, y2⟩ := year
  obtain ⟨m1, m2⟩ := month
  rw [yymmOfBytes, y1, y2, m1, m2]

/-- Two bytes of 0xFF are the mark UNSET and no date of four half-bytes but the mark's own. -/
theorem yymm_eq_mark {d : Yymm} (h1 : d.y1 < 16) (h2 : d.y2 < 16) (h3 : d.m1 < 16) (h4 : d.m2 < 16)
    (mark : byteOf (d.y1 * 16 + d.y2) = 0xFF#8 ∧ byteOf (d.m1 * 16 + d.m2) = 0xFF#8) :
    d = { y1 := 15, y2 := 15, m1 := 15, m2 := 15 } := by
  rw [← yymmOfBytes_bytesOfYymm h1 h2 h3 h4, mark.1, mark.2]
  rfl

/-! ### Enumerations: what is not listed is read as not listed (R203) -/

theorem limitKindOfByte_byteOf (x : Option LimitKind) : limitKindOfByte (byteOfLimitKind x) = x := by
  rcases x with _ | _ | _ <;> rfl

theorem yesNoOfByte_byteOf (x : Option Bool) : yesNoOfByte (byteOfYesNo x) = x := by
  rcases x with _ | _ | _ <;> rfl

theorem standinModeOfByte_byteOf (x : Option StandinMode) : standinModeOfByte (byteOfStandinMode x) = x := by
  rcases x with _ | _ | _ | _ <;> rfl

theorem basisOfByte_byteOf (x : Option Basis) : basisOfByte (byteOfBasis x) = x := by
  rcases x with _ | _ | _ <;> rfl

theorem linkOfByte_byteOf (x : Option LinkState) : linkOfByte (byteOfLink x) = x := by
  rcases x with _ | _ | _ <;> rfl

/-! ### Limit entries -/

theorem limitEntriesOfBytes_entry {e : LimitEntry} (wf : wfEntry e = true) (rest : List Byte) :
    limitEntriesOfBytes (bytesOfLimitEntry e ++ rest) = (limitEntriesOfBytes rest).map (e :: ·) := by
  obtain ⟨line, value⟩ := Bool.and_eq_true_iff.mp wf
  obtain ⟨a, b, c, d, bytes, read⟩ := bytesOfNat_four value
  rw [bytesOfLimitEntry, bytes]
  simp only [List.cons_append, List.nil_append, limitEntriesOfBytes, byteOf_toNat_of_fits line, limitKindOfByte_byteOf,
    read]

theorem limitEntriesOfBytes_flatMap {es : List LimitEntry} (wf : ∀ e ∈ es, wfEntry e = true) :
    limitEntriesOfBytes (es.flatMap bytesOfLimitEntry) = some es := by
  induction es with
  | nil => rfl
  | cons e es ih =>
    rw [List.forall_mem_cons] at wf
    rw [List.flatMap_cons, limitEntriesOfBytes_entry wf.1, ih wf.2, Option.map_some]

theorem wfEntries_iff {used : Nat} {es : List LimitEntry} :
    wfEntries used es = true ↔ used + 6 * es.length ≤ 250 ∧ ∀ e ∈ es, wfEntry e = true := by
  simp [wfEntries]

theorem countedEntries_bytes {used : Nat} {es : List LimitEntry} (wf : wfEntries used es = true) :
    countedEntries (byteOf es.length :: es.flatMap bytesOfLimitEntry) = some es := by
  obtain ⟨room, entries⟩ := wfEntries_iff.mp wf
  have count : (byteOf es.length).toNat = es.length := byteOf_toNat_of_lt (by omega)
  simp only [countedEntries, limitEntriesOfBytes_flatMap entries, count, if_true]

theorem flatMap_bytesOfLimitEntry_length (es : List LimitEntry) :
    (es.flatMap bytesOfLimitEntry).length = 6 * es.length := by
  induction es with
  | nil => rfl
  | cons e es ih =>
    have entry : (bytesOfLimitEntry e).length = 6 := rfl
    rw [List.flatMap_cons, List.length_append, ih, entry, List.length_cons]
    omega

/-! ### Fields of a fixed layout -/

section Layout

variable {k n j offset : Nat} {rest : List Byte}

theorem fieldAt_number (h : fits k n = true) : fieldAt (bytesOfNat k n ++ rest) 0 k = n := by
  rw [fieldAt, List.drop_zero, List.take_left' (Machine.bytesOfNat_length k n), natOfBytes_bytesOfNat h]

theorem fieldAt_byte (h : fits 1 n = true) : fieldAt (byteOf n :: rest) 0 1 = n := by
  simp [fieldAt, natOfBytes, byteOf_toNat_of_fits h]

theorem byteAt_zero (b : Byte) : byteAt (b :: rest) 0 = b := rfl

theorem fieldAt_pass (h : k ≤ offset) : fieldAt (bytesOfNat k n ++ rest) offset j = fieldAt rest (offset - k) j := by
  rw [fieldAt, List.drop_append, Machine.bytesOfNat_length,
    List.drop_of_length_le ((Machine.bytesOfNat_length k n).trans_le h), List.nil_append, fieldAt]

theorem fieldAt_pass_byte (b : Byte) : fieldAt (b :: rest) (offset + 1) j = fieldAt rest offset j := rfl

theorem byteAt_pass (h : k ≤ offset) : byteAt (bytesOfNat k n ++ rest) offset = byteAt rest (offset - k) := by
  have past : (bytesOfNat k n).length ≤ offset := (Machine.bytesOfNat_length k n).trans_le h
  rw [byteAt, List.getD_append_right _ _ _ _ past, Machine.bytesOfNat_length, byteAt]

theorem byteAt_pass_byte (b : Byte) : byteAt (b :: rest) (offset + 1) = byteAt rest offset := rfl

end Layout

theorem wfPerClass_iff {v : PerClass} :
    wfPerClass v = true ↔ fits 3 v.roadDiesel = true ∧ fits 3 v.defFluid = true ∧ fits 3 v.reefer = true := by
  simp [wfPerClass, and_assoc]

theorem bytesOfProgram_length (e : ProgramArg) : (bytesOfProgram e).length = 32 := by
  simp [bytesOfProgram, bytesOfPerClass, Machine.bytesOfNat_length]

theorem programOfBytes_bytesOfProgram {e : ProgramArg} (wf : wfProgram e = true) :
    programOfBytes (bytesOfProgram e) = e := by
  simp only [wfProgram, Bool.and_eq_true, wfPerClass_iff] at wf
  obtain ⟨⟨⟨⟨⟨id, low⟩, high⟩, c1, c2, c3⟩, l1, l2, l3⟩, count⟩ := wf
  simp [programOfBytes, bytesOfProgram, bytesOfPerClass, fieldAt_number, fieldAt_byte, byteAt_zero, fieldAt_pass,
    fieldAt_pass_byte, byteAt_pass, byteAt_pass_byte, yesNoOfByte_byteOf, standinModeOfByte_byteOf, id, low,
    high, c1, c2, c3, l1, l2, l3, count]

theorem bytesOfLineFields_length (f : LineFields) : (bytesOfLineFields f).length = 14 := by
  simp [bytesOfLineFields, Machine.bytesOfNat_length]

/-- The configuration of a line is read back whatever stands in its fill byte. -/
theorem lineFieldsOfBytes_bytesOfLineFields {fuel : FuelClass} {f : LineFields}
    (wf : wfLineArg (.set fuel f) = true) (fill : Byte) : lineFieldsOfBytes (bytesOfLineFields f ++ [fill]) = f := by
  simp only [wfLineArg, Bool.and_eq_true] at wf
  obtain ⟨⟨⟨⟨⟨⟨⟨ceiling, slowMargin⟩, closeLead⟩, alpha⟩, fullDuty⟩, slowDuty⟩, startDelay⟩, runOn⟩ := wf
  simp [lineFieldsOfBytes, bytesOfLineFields, fieldAt_number, fieldAt_byte, byteAt_zero, fieldAt_pass,
    fieldAt_pass_byte, byteAt_pass, byteAt_pass_byte, basisOfByte_byteOf, yesNoOfByte_byteOf, ceiling, slowMargin,
    closeLead, alpha, fullDuty, slowDuty, startDelay, runOn]

/-! ### The parameters of each shape -/

theorem one_byteOf {n : Nat} (wf : fits 1 n = true) (f : Nat → Instr) : one f [byteOf n] = .command (f n) := by
  rw [one, byteOf_toNat_of_fits wf]

theorem panned_bytesOfPan {pan : Pan} (wf : wfPan pan = true) (f : Pan → Instr) :
    panned f (bytesOfPan pan) = .command (f pan) := by
  rw [panned, if_pos (bytesOfPan_length pan), panOfBytes_bytesOfPan wf]

theorem decideOfBytes_approve {tag : Nat} {es : List LimitEntry} (wf : fits 1 tag = true)
    (entries : wfEntries 3 es = true) :
    decideOfBytes (byteOf tag :: 1#8 :: byteOf es.length :: es.flatMap bytesOfLimitEntry) =
      .command (.decide tag (.approve es)) := by
  simp only [decideOfBytes, if_true, countedEntries_bytes entries, byteOf_toNat_of_fits wf]

theorem decideOfBytes_decline {tag code : Nat} (wf : fits 1 tag = true) (declined : fits 1 code = true) :
    decideOfBytes [byteOf tag, 2#8, byteOf code] = .command (.decide tag (.decline code)) := by
  have other : (2#8 : Byte) ≠ 1#8 := by decide
  simp only [decideOfBytes, if_neg other, if_true, byteOf_toNat_of_fits wf, byteOf_toNat_of_fits declined]

theorem decideOfBytes_unlisted {tag : Nat} (wf : fits 1 tag = true) :
    decideOfBytes [byteOf tag, 0#8] = .command (.decide tag .unlisted) := by
  have unlisted : (0#8 : Byte) ≠ 1#8 ∧ (0#8 : Byte) ≠ 2#8 := by decide
  simp only [decideOfBytes, if_neg unlisted.1, if_neg unlisted.2, byteOf_toNat_of_fits wf]

theorem openGrantOfBytes_bytes {lane : Nat} {es : List LimitEntry} (wf : fits 1 lane = true)
    (entries : wfEntries 2 es = true) :
    openGrantOfBytes (byteOf lane :: byteOf es.length :: es.flatMap bytesOfLimitEntry) =
      .command (.openGrant lane es) := by
  simp only [openGrantOfBytes, countedEntries_bytes entries, byteOf_toNat_of_fits wf]

theorem pointSetOfBytes_bytes {point : Nat} {arg : PointArg} (wf : fits 1 point = true)
    (fields : wfPointArg arg = true) :
    pointSetOfBytes (byteOf point :: bytesOfPointArg arg) = .command (.pointSet point arg) := by
  have point_read := byteOf_toNat_of_fits wf
  cases arg with
  | clear => simp only [bytesOfPointArg, pointSetOfBytes, if_true, point_read]
  | unlisted =>
    rw [bytesOfPointArg, pointSetOfBytes, point_read]
    rfl
  | set role line k threshold creep =>
    simp only [wfPointArg, Bool.and_eq_true] at fields
    obtain ⟨⟨⟨line_fits, k_fits⟩, threshold_fits⟩, creep_fits⟩ := fields
    obtain ⟨k1, k0, bytes, k_read⟩ := bytesOfNat_two k_fits
    simp only [bytesOfPointArg, bytes, List.cons_append, List.nil_append, pointSetOfBytes, point_read, k_read,
      byteOf_toNat_of_fits line_fits, byteOf_toNat_of_fits threshold_fits, byteOf_toNat_of_fits creep_fits]
    cases role <;> rfl

theorem lineSetOfBytes_bytes {line : Nat} {arg : LineArg} (wf : fits 1 line = true) (fields : wfLineArg arg = true) :
    lineSetOfBytes (byteOf line :: bytesOfLineArg arg) = .command (.lineSet line arg) := by
  have line_read := byteOf_toNat_of_fits wf
  cases arg with
  | clear =>
    rw [bytesOfLineArg, lineSetOfBytes, line_read]
    rfl
  | unlisted =>
    rw [bytesOfLineArg, lineSetOfBytes, line_read]
    rfl
  | set fuel f =>
    have whole : (bytesOfLineFields f ++ [0#8]).length = 15 := by rw [List.length_append, bytesOfLineFields_length]; rfl
    rw [bytesOfLineArg, List.cons_append, lineSetOfBytes, if_pos whole, line_read,
      lineFieldsOfBytes_bytesOfLineFields fields]
    cases fuel <;> rfl

theorem sortCommand_program (p : List Byte) :
    sortCommand 0x20#8 p = if p.length = 32 then .command (.programPut (programOfBytes p)) else .badShape := rfl

theorem sortCommand_programPut {e : ProgramArg} (wf : wfProgram e = true) :
    sortCommand 0x20#8 (bytesOfProgram e) = .command (.programPut e) := by
  rw [sortCommand_program, if_pos (bytesOfProgram_length e), programOfBytes_bytesOfProgram wf]

theorem sortCommand_priceSet {line price : Nat} (wf : fits 1 line = true) (price_fits : fits 3 price = true) :
    sortCommand 0x35#8 (byteOf line :: bytesOfNat 3 price) = .command (.priceSet line price) := by
  obtain ⟨a, b, c, bytes, read⟩ := bytesOfNat_three price_fits
  rw [bytes]
  change Sorted.command (.priceSet (byteOf line).toNat (natOfBytes [a, b, c])) = _
  rw [byteOf_toNat_of_fits wf, read]

theorem sortCommand_probeSet {line span : Nat} {offset : Int} (wf : fits 1 line = true) (low : -32768 ≤ offset)
    (high : offset < 32768) (span_fits : fits 2 span = true) :
    sortCommand 0x37#8 (byteOf line :: bytesOfNat 2 (offset % 65536).toNat ++ bytesOfNat 2 span) =
      .command (.probeSet line offset span) := by
  have offset_fits : fits 2 (offset % 65536).toNat = true := fits_iff.mpr (by omega)
  obtain ⟨o1, o0, offset_bytes, offset_read⟩ := bytesOfNat_two offset_fits
  obtain ⟨s1, s0, span_bytes, span_read⟩ := bytesOfNat_two span_fits
  rw [offset_bytes, span_bytes]
  change Sorted.command (.probeSet (byteOf line).toNat (signed16 (natOfBytes [o1, o0])) (natOfBytes [s1, s0])) = _
  rw [byteOf_toNat_of_fits wf, offset_read, span_read, signed16_emod low high]

theorem sortCommand_linkSet (link : Option LinkState) :
    sortCommand 0x42#8 [byteOfLink link] = .command (.linkSet link) := by
  change Sorted.command (.linkSet (linkOfByte (byteOfLink link))) = _
  rw [linkOfByte_byteOf]

theorem sortCommand_dateSet {d : Yymm} (wf : wfYymm d = true) :
    sortCommand 0x43#8 (bytesOfYymm d) = .command (.dateSet (some d)) := by
  obtain ⟨⟨⟨⟨h1, h2⟩, h3⟩, h4⟩, other⟩ :
      (((d.y1 < 16 ∧ d.y2 < 16) ∧ d.m1 < 16) ∧ d.m2 < 16) ∧ d ≠ { y1 := 15, y2 := 15, m1 := 15, m2 := 15 } := by
    simpa [wfYymm] using wf
  change Sorted.command (.dateSet (if _ then none else _)) = _
  rw [if_neg fun mark => other (yymm_eq_mark h1 h2 h3 h4 mark), yymmOfBytes_bytesOfYymm h1 h2 h3 h4]

theorem sortCommand_timersSet {t : TimerSettings} (wf : WellFormed (.timersSet t) = true) :
    sortCommand 0x44#8 [byteOf t.decision, byteOf t.lift, byteOf t.noFlow, byteOf t.idleEnd, byteOf t.hold,
      byteOf t.probeHold, byteOf t.settle] = .command (.timersSet t) := by
  simp only [WellFormed, Bool.and_eq_true] at wf
  obtain ⟨⟨⟨⟨⟨⟨decision, lift⟩, noFlow⟩, idleEnd⟩, hold⟩, probeHold⟩, settle⟩ := wf
  change Sorted.command (.timersSet ⟨_, _, _, _, _, _, _⟩) = _
  rw [byteOf_toNat_of_fits decision, byteOf_toNat_of_fits lift, byteOf_toNat_of_fits noFlow,
    byteOf_toNat_of_fits idleEnd, byteOf_toNat_of_fits hold, byteOf_toNat_of_fits probeHold,
    byteOf_toNat_of_fits settle]

theorem sortCommand_eventMask {mask : Nat} (wf : fits 2 mask = true) :
    sortCommand 0x51#8 (bytesOfNat 2 mask) = .command (.eventMask mask) := by
  obtain ⟨a, b, bytes, read⟩ := bytesOfNat_two wf
  rw [bytes]
  change Sorted.command (.eventMask (natOfBytes [a, b])) = _
  rw [read]

/-! ### The command list -/

/-- Settles O3, by the command list of section 10.8: each row's parameters are fields that are read back. -/
theorem commandsSurviveEncoding : Obligations.CommandsSurviveEncoding := by
  intro i code params wf encoded
  cases i
  case decide tag verdict =>
    obtain ⟨tagged, judged⟩ := Bool.and_eq_true_iff.mp wf
    cases verdict <;> cases encoded
    case approve es => exact decideOfBytes_approve tagged judged
    case decline c => exact decideOfBytes_decline tagged judged
    case unlisted => exact decideOfBytes_unlisted tagged
  case dateSet date =>
    cases date <;> cases encoded
    case none => rfl
    case some d => exact sortCommand_dateSet wf
  all_goals cases encoded
  case service | collect | denyClear | tallyClear | siteHalt | siteResume | statusRead | eventRead => rfl
  case readGrant | hold | resume | stop | programDrop | programRead | tallyRead | pointRead | pointEnable | lineRead
      | lineRestore => exact one_byteOf wf _
  case denyAdd | denyDrop | denyTest | tallyDrop => exact panned_bytesOfPan wf _
  case openGrant lane es =>
    obtain ⟨lane_fits, entries⟩ := Bool.and_eq_true_iff.mp wf
    exact openGrantOfBytes_bytes lane_fits entries
  case programPut e => exact sortCommand_programPut wf
  case pointSet point arg =>
    obtain ⟨point_fits, fields⟩ := Bool.and_eq_true_iff.mp wf
    exact pointSetOfBytes_bytes point_fits fields
  case lineSet line arg =>
    obtain ⟨line_fits, fields⟩ := Bool.and_eq_true_iff.mp wf
    exact lineSetOfBytes_bytes line_fits fields
  case priceSet line price =>
    obtain ⟨line_fits, price_fits⟩ := Bool.and_eq_true_iff.mp wf
    exact sortCommand_priceSet line_fits price_fits
  case probeSet line offset span =>
    simp only [WellFormed, Bool.and_eq_true, decide_eq_true_iff] at wf
    obtain ⟨⟨⟨line_fits, low⟩, high⟩, span_fits⟩ := wf
    exact sortCommand_probeSet line_fits low high span_fits
  case linkSet link => exact sortCommand_linkSet link
  case timersSet t => exact sortCommand_timersSet wf
  case eventMask mask => exact sortCommand_eventMask wf

/-! ### The length of a frame's parameters -/

theorem bytesOfPointArg_length_le (arg : PointArg) : (bytesOfPointArg arg).length ≤ 6 := by
  cases arg <;> simp [bytesOfPointArg, Machine.bytesOfNat_length]

theorem bytesOfLineArg_length_le (arg : LineArg) : (bytesOfLineArg arg).length ≤ 16 := by
  cases arg <;> simp [bytesOfLineArg, bytesOfLineFields_length]

/-- The parameters of a well-formed command fit a frame (R190). -/
theorem encodeCommand_length_le {i : Instr} {code : Byte} {params : List Byte} (wf : WellFormed i = true)
    (encoded : encodeCommand i = some (code, params)) : params.length ≤ 250 := by
  cases i
  case decide tag verdict =>
    obtain ⟨-, judged⟩ := Bool.and_eq_true_iff.mp wf
    cases verdict <;> cases encoded
    case approve es =>
      have room := (wfEntries_iff.mp judged).1
      simp only [List.length_cons, flatMap_bytesOfLimitEntry_length]
      omega
    all_goals simp
  case dateSet date =>
    cases date <;> cases encoded <;> simp [bytesOfYymm]
  all_goals cases encoded
  case openGrant lane es =>
    obtain ⟨-, entries⟩ := Bool.and_eq_true_iff.mp wf
    have room := (wfEntries_iff.mp entries).1
    simp only [List.length_cons, flatMap_bytesOfLimitEntry_length]
    omega
  case pointSet point arg =>
    have short := bytesOfPointArg_length_le arg
    rw [List.length_cons]
    omega
  case lineSet line arg =>
    have short := bytesOfLineArg_length_le arg
    rw [List.length_cons]
    omega
  all_goals simp [bytesOfPan_length, bytesOfProgram_length, Machine.bytesOfNat_length]

end Sys2Proof
end

section
/-! PROOFS. The selections of the controller port (R187 to R197, R201): the frames of a command, its completion and its
fetch. -/

namespace Sys2Proof.Machine

/-! ### The edges of SCS (R187, R188, R201) -/

section Edges

variable {s : State}

theorem scsFalls_begins (high : ∀ b, s.cp.selection ≠ .begun b) :
    scsFalls s = { s with cp := { s.cp with selection := .begun s.statusByte } } := by
  unfold scsFalls
  split
  · next b begun => exact absurd begun (high b)
  all_goals rfl

theorem scsFalls_again {b : Byte} (begun : s.cp.selection = .begun b) : scsFalls s = s := by
  simp only [scsFalls, begun]

theorem exec_rise_ignored (ignored : s.cp.selection = .ignored) (bytes : List Byte) :
    exec (.commandFrame (.rise bytes)) s = .next { s with cp := { s.cp with selection := .released } } :=
  congrArg Host.Outcome.next (endSelection_ignored ignored _)

/-- The rise of SCS carries out the selection with the status byte of its fall. -/
theorem exec_rise_taken (taken : s.cp.selection ≠ .ignored) (bytes : List Byte) :
    exec (.commandFrame (.rise bytes)) s =
      .next (selection s.statusAtFall bytes (s.modCp fun c => { c with selection := .released })) :=
  congrArg Host.Outcome.next (endSelection_taken taken _)

theorem exec_rise_empty :
    exec (.commandFrame (.rise [])) s = .next { s with cp := { s.cp with selection := .released } } := by
  by_cases h : s.cp.selection = .ignored
  · exact exec_rise_ignored h []
  · exact exec_rise_taken h []

/-- A selection that begins with the FETCH code is a fetch (R189). -/
theorem exec_rise_fetch (rest : List Byte) :
    exec (.commandFrame (.rise (0xF0#8 :: rest))) s = exec (.fetch rest.length) s := by
  have fetch : (selection · (0xF0#8 :: rest)) = fun b t => t.modCp (·.fetched b rest.length) := by
    funext b t
    rw [selection, Config.fetchCode, if_pos rfl]
  exact congrArg (fun act => Host.Outcome.next (endSelection act s)) fetch

end Edges

theorem selection_status {b : Byte} (other : b ≠ 0xF0#8) (status : Byte) (s : State) :
    selection status [b] s = s.modCp fun c => { c with shifted := [status] } :=
  (if_neg other).trans (if_pos rfl)

theorem selection_frame {bytes : List Byte} (long : 2 ≤ bytes.length) (other : bytes.head? ≠ some 0xF0#8)
    (status : Byte) (s : State) : selection status bytes s = takeFrame bytes.length (gather status bytes s) := by
  match bytes, long with
  | first :: second :: rest, _ =>
    have command : first ≠ 0xF0#8 := fun h => other (by rw [h]; rfl)
    exact (if_neg command).trans (if_neg (List.cons_ne_nil second rest))

/-! ### The framing checks (R190) -/

/-- A frame whose length byte does not give the number of its bytes, or gives more than 250 (R190). -/
def WrongLength (bytes : List Byte) : Prop :=
  bytes.length < 3 ∨ 250 < (bytes.getD 1 0#8).toNat ∨ bytes.length ≠ (bytes.getD 1 0#8).toNat + 3

/-- The receive buffer keeps a frame of the right length whole. -/
theorem kept_whole {bytes : List Byte} (right : ¬ WrongLength bytes) : bytes.take Config.portBufferSize = bytes := by
  have size : Config.portBufferSize = 253 := rfl
  exact List.take_of_length_le (by simp only [WrongLength] at right; omega)

theorem framingFault_wrongLength {bytes : List Byte} (wrong : WrongLength bytes) (long : 2 ≤ bytes.length) :
    framingFault bytes.length (bytes.take Config.portBufferSize) = some .frameLength := by
  match bytes, long with
  | first :: second :: rest, _ => exact if_pos wrong

theorem framingFault_rightLength {bytes : List Byte} (right : ¬ WrongLength bytes) :
    framingFault bytes.length bytes =
      if checkByte bytes.dropLast = bytes.getLastD 0#8 then none else some .frameCheck := by
  match bytes with
  | [] => exact absurd (.inl (by decide)) right
  | [b] => exact absurd (.inl (by simp)) right
  | first :: second :: rest =>
    refine (if_neg right).trans ?_
    simp only [checkGood_iff (List.cons_ne_nil first (second :: rest))]

/-! ### The frame at the rise of SCS (R190, R191, R194) -/

/-- The port with a frame's bytes shifted out and its receive buffer emptied. -/
def ControllerPort.frameTaken (c : ControllerPort) (status : Byte) (bytes : List Byte) : ControllerPort :=
  { c with
    selection := .released
    received := []
    shifted := status :: List.replicate (bytes.length - 1) 0#8 }

/-- The port with a command, or an answer of its own, in PROCESSING (R191). -/
def ControllerPort.sorted (c : ControllerPort) : Sorted → ControllerPort
  | .command i => { c with state := .processing, held := some i, answer := none }
  | .unknown => { c with state := .processing, held := none, answer := some (refusal .unknownCommand) }
  | .badShape => { c with state := .processing, held := none, answer := some (refusal .badParam) }

/-- The port with an answer of its own in the response buffer (R190). -/
def ControllerPort.refused (c : ControllerPort) (r : Result) : ControllerPort :=
  { c with state := .responseReady, held := none, answer := none, response := some (refusal r) }

theorem passOn_eq (kept : List Byte) (s : State) :
    passOn kept s = { s with cp := s.cp.sorted (sortCommand (kept.headD 0#8) ((kept.drop 2).dropLast)) } := by
  unfold passOn
  cases sortCommand (kept.headD 0#8) ((kept.drop 2).dropLast) <;> rfl

section Frame

variable {bytes : List Byte} {s : State} (long : 2 ≤ bytes.length) (other : bytes.head? ≠ some 0xF0#8)
  (taken : s.cp.selection ≠ .ignored)

/-- The state in which a frame is examined: SCS is high, the bytes are in the receive buffer. -/
def State.gathered (s : State) (bytes : List Byte) : State :=
  gather s.statusAtFall bytes (s.modCp fun c => { c with selection := .released })

include long other taken

theorem exec_rise_frame :
    exec (.commandFrame (.rise bytes)) s = .next (takeFrame bytes.length (s.gathered bytes)) := by
  rw [exec_rise_taken taken, selection_frame long other, State.gathered]

theorem exec_rise_collision (processing : s.cp.state = .processing) :
    exec (.commandFrame (.rise bytes)) s =
      .next { s with cp := { s.cp.frameTaken s.statusAtFall bytes with collision := true } } := by
  rw [exec_rise_frame long other taken]
  exact congrArg Host.Outcome.next (if_pos processing)

theorem exec_rise_refused (free : s.cp.state ≠ .processing) {r : Result}
    (fault : framingFault bytes.length (bytes.take Config.portBufferSize) = some r) :
    exec (.commandFrame (.rise bytes)) s =
      .next { s with cp := (s.cp.frameTaken s.statusAtFall bytes).refused r } := by
  have received : (s.gathered bytes).cp.received = bytes.take Config.portBufferSize := rfl
  have state : (s.gathered bytes).cp.state = s.cp.state := rfl
  rw [exec_rise_frame long other taken, takeFrame, state, if_neg free, received, fault]
  rfl

theorem exec_rise_good (free : s.cp.state ≠ .processing) (right : ¬ WrongLength bytes)
    (check : checkByte bytes.dropLast = bytes.getLastD 0#8) :
    exec (.commandFrame (.rise bytes)) s =
      .next { s with
        cp := (s.cp.frameTaken s.statusAtFall bytes).sorted
          (sortCommand (bytes.getD 0 0#8) ((bytes.drop 2).dropLast)) } := by
  have received : (s.gathered bytes).cp.received = bytes := kept_whole right
  have state : (s.gathered bytes).cp.state = s.cp.state := rfl
  have code : bytes.headD 0#8 = bytes.getD 0 0#8 := by cases bytes <;> rfl
  rw [exec_rise_frame long other taken, takeFrame, state, if_neg free, received, framingFault_rightLength right,
    if_pos check]
  dsimp only
  rw [passOn_eq, code]
  rfl

end Frame

/-- Settles O5: the edges by the selection's state, the frames by the port's state, then the length, then the check
byte, then what the code and the shape are sorted to. -/
theorem framesAreSorted : Obligations.FramesAreSorted := by
  refine ⟨fun s => ⟨fun high => congrArg Host.Outcome.next (scsFalls_begins high),
    fun b begun => congrArg Host.Outcome.next (scsFalls_again begun),
    fun bytes ignored => exec_rise_ignored ignored bytes, exec_rise_empty, fun b taken other => ?_, exec_rise_fetch⟩,
    ?_⟩
  · rw [exec_rise_taken taken, selection_status other]
    rfl
  · intro bytes s long other taken port
    have refused {r : Result} := exec_rise_refused long other taken (r := r)
    split
    · next processing => exact exec_rise_collision long other taken processing
    split
    · next free wrong => exact refused free (framingFault_wrongLength wrong long)
    split
    · next free right check =>
      refine refused free ?_
      rw [kept_whole right, framingFault_rightLength right, if_neg check]
    · next free right check =>
      rw [exec_rise_good long other taken free right (not_not.mp check)]
      cases sortCommand (bytes.getD 0 0#8) ((bytes.drop 2).dropLast) <;> rfl

/-! ### The frame of a well-formed command -/

theorem frameOf_eq (code : Byte) (params : List Byte) :
    frameOf code params =
      code :: byteOf params.length :: (params ++ [checkByte (code :: byteOf params.length :: params)]) := rfl

theorem frameOf_length (code : Byte) (params : List Byte) : (frameOf code params).length = params.length + 3 := by
  simp [frameOf_eq]

theorem frameOf_rightLength (code : Byte) {params : List Byte} (short : params.length ≤ 250) :
    ¬ WrongLength (frameOf code params) := by
  have declared : ((frameOf code params).getD 1 0#8).toNat = params.length := byteOf_toNat_of_lt (by omega)
  rw [WrongLength, declared, frameOf_length]
  omega

theorem frameOf_check (code : Byte) (params : List Byte) :
    checkByte (frameOf code params).dropLast = (frameOf code params).getLastD 0#8 := by
  rw [frameOf, List.dropLast_concat, List.getLastD_concat]

/-- The FETCH code is the code of no command. -/
theorem ne_fetchCode_of_command {code : Byte} {params : List Byte} {i : Instr}
    (sorted : sortCommand code params = .command i) : code ≠ 0xF0#8 := by
  rintro rfl
  exact Sorted.noConfusion sorted

/-- Settles O4: the frame passes both framing checks, and its code and parameters are sorted to the command (O3). -/
theorem goodFrameIsPassedOn : Obligations.GoodFrameIsPassedOn := by
  intro i code params s wf encoded free taken
  have sorted := commandsSurviveEncoding i code params wf encoded
  have short := encodeCommand_length_le wf encoded
  have long : 2 ≤ (frameOf code params).length := by rw [frameOf_length]; omega
  have other : (frameOf code params).head? ≠ some 0xF0#8 := fun h =>
    ne_fetchCode_of_command sorted (Option.some.inj h)
  have parameters : ((frameOf code params).drop 2).dropLast = params := List.dropLast_concat
  have head : (frameOf code params).getD 0 0#8 = code := rfl
  rw [exec_rise_good long other taken free (frameOf_rightLength code short) (frameOf_check code params), head,
    parameters, sorted, ControllerPort.frameTaken, frameOf_length]
  rfl

/-! ### The completion (R192, R193) -/

section Completion

variable {s : State}

theorem completion_answered {r : Response} (processing : s.cp.state = .processing) (answered : s.cp.answer = some r) :
    completion s = placeResponse r s := by
  simp only [completion, processing, answered]

theorem completion_held {i : Instr} {act : State → State × Response} (processing : s.cp.state = .processing)
    (unanswered : s.cp.answer = none) (held : s.cp.held = some i) (owned : ownerOf i = some act) :
    completion s = placeResponse (act s).2 (act s).1 := by
  simp only [completion, processing, unanswered, held, owned]

theorem completion_idle (idle : s.cp.state ≠ .processing) : completion s = s := by
  unfold completion
  split
  · next processing _ => exact absurd processing idle
  · next processing _ _ => exact absurd processing idle
  · rfl

end Completion

/-- Every command that has a frame has an owner (R191). -/
theorem ownerOf_isSome_of_encode {i : Instr} {e : Byte × List Byte} (encoded : encodeCommand i = some e) :
    ∃ act, ownerOf i = some act := by
  cases owned : ownerOf i with
  | some act => exact ⟨act, rfl⟩
  | none => cases i <;> cases owned <;> cases encoded

/-- Settles O6, by what the port holds in PROCESSING: an answer, or a command whose owner then gives one. -/
theorem completionPlacesAnswer : Obligations.CompletionPlacesAnswer := by
  refine fun s => ⟨fun r processing answered => ?_, fun i e processing unanswered held encoded => ?_, fun idle => ?_⟩
  · exact congrArg Host.Outcome.next (completion_answered processing answered)
  · obtain ⟨act, owned⟩ := ownerOf_isSome_of_encode encoded
    refine ⟨(act s).1.giveAnswer (act s).2, (act s).2, exec_taken (.inr held) owned, rfl, ?_⟩
    exact congrArg Host.Outcome.next (completion_held processing unanswered held owned)
  · exact congrArg Host.Outcome.next (completion_idle idle)

/-! ### The fetch (R195 to R197) -/

/-- A response clocked to its check byte leaves the buffer empty and a RESPONSE_READY port READY; else buffer and state
stay (R196). -/
theorem fetched_eq (c : ControllerPort) (status : Byte) (n : Nat) :
    c.fetched status n =
      { c with
        collision := false
        shifted := status :: (fetchFrame c ++ List.replicate n 0xFF#8).take n
        response := if c.response ≠ none ∧ (fetchFrame c).length ≤ n then none else c.response
        state :=
          if (c.response ≠ none ∧ (fetchFrame c).length ≤ n) ∧ c.state = .responseReady then .ready else c.state } := by
  simp only [ControllerPort.fetched, Option.isSome_iff_ne_none, clockOut_eq]
  split
  · next whole => simp only [whole, ne_eq, not_false_eq_true, and_self, true_and]
  · next part => simp only [part, false_and, if_false]

/-- Settles O7, by whether the selection is ignored; the fetch then finds the port as it was, but for SCS. -/
theorem fetchSendsHeldResponse : Obligations.FetchSendsHeldResponse := by
  intro n s r body frame fetched
  refine ⟨fun ignored => congrArg Host.Outcome.next (endSelection_ignored ignored _), fun taken => ?_⟩
  have port := fetched_eq { s.cp with selection := .released } s.statusAtFall n
  exact (congrArg Host.Outcome.next (endSelection_taken taken _)).trans
    (congrArg (fun c => Host.Outcome.next { s with cp := c }) port)

end Sys2Proof.Machine
end

section
/-! PROOFS. The port's own commands TIMERS_SET and STATUS_READ (R199, R200), the events (R205 to R209), ATTN and the
port status byte (R188). -/

namespace Sys2Proof.Machine

/-! ### One-byte fields -/

theorem bytesOfNat_one {n : Nat} (h : n < 256) : bytesOfNat 1 n = [byteOf n] := by
  rw [bytesOfNat, bytesOfNat, Nat.mod_eq_of_lt h, List.nil_append]

theorem unsignedField_one {n : Nat} (h : n < 256) : unsignedField 1 n = [byteOf n] := by
  rw [unsignedField_fits (by omega), bytesOfNat_one h]

/-- Settings that fit their bytes are sent as they are (R202). -/
theorem timersField_bytes {t : TimerSettings} (wf : WellFormed (.timersSet t) = true) :
    timersField t =
      ([t.decision, t.lift, t.noFlow, t.idleEnd, t.hold, t.probeHold, t.settle]).map byteOf := by
  simp only [WellFormed, Bool.and_eq_true, fits_iff, Nat.pow_one] at wf
  obtain ⟨⟨⟨⟨⟨⟨decision, lift⟩, noFlow⟩, idleEnd⟩, hold⟩, probeHold⟩, settle⟩ := wf
  simp only [timersField, List.flatMap_cons, List.flatMap_nil, unsignedField_one decision, unsignedField_one lift,
    unsignedField_one noFlow, unsignedField_one idleEnd, unsignedField_one hold, unsignedField_one probeHold,
    unsignedField_one settle]
  rfl

theorem timersField_length (t : TimerSettings) : (timersField t).length = 7 := by
  simp [timersField, unsignedField_length]

/-! ### TIMERS_SET (R199) -/

theorem clampSettle_eq (n : Nat) : clampSettle n = if n < 2 then 2 else if 30 < n then 30 else n := by
  unfold clampSettle
  split
  · omega
  · split <;> omega

/-- The clamp leaves a byte a byte. -/
theorem wellFormed_clamped {t : TimerSettings} (wf : WellFormed (.timersSet t) = true) :
    WellFormed (.timersSet { t with settle := clampSettle t.settle }) = true := by
  have clamped : fits 1 (clampSettle t.settle) = true := fits_iff.mpr (by unfold clampSettle; omega)
  obtain ⟨others, -⟩ := Bool.and_eq_true_iff.mp wf
  exact Bool.and_eq_true_iff.mpr ⟨others, clamped⟩

theorem doTimersSet_eq {t : TimerSettings} (wf : WellFormed (.timersSet t) = true) (s : State) :
    doTimersSet t s =
      ({ s with cp := { s.cp with timers := { t with settle := clampSettle t.settle } } },
        okWith (([t.decision, t.lift, t.noFlow, t.idleEnd, t.hold, t.probeHold,
          clampSettle t.settle]).map byteOf)) := by
  rw [doTimersSet, timersField_bytes (wellFormed_clamped wf)]
  rfl

/-! ### STATUS_READ (R200) -/

theorem grants_length (s : State) : s.grants.length = (allSlots.filter fun i => (s.grantAt i).isSome).length := by
  rw [State.grants, List.length_filterMap_eq_countP, List.countP_eq_length_filter]

theorem statusAnswer_length (s : State) : (statusAnswer s).length = 19 := by
  cases date : s.su.date <;>
    simp [statusAnswer, date, bytesOfYymm, unsignedField_length, timersField_length]

/-! ### The flags (R205, R206) and ATTN (R207) -/

theorem testBit_natOfBits (bits : List Bool) (k : Nat) : (natOfBits bits).testBit k = bits.getD k false := by
  induction bits generalizing k with
  | nil => exact Nat.zero_testBit k
  | cons b bits ih =>
    have step : natOfBits (b :: bits) = b.toNat + 2 * natOfBits bits := rfl
    have low := Bool.toNat_le b
    cases k with
    | zero => rw [step, Nat.testBit_zero, Nat.add_mul_mod_self_left]; cases b <;> rfl
    | succ k =>
      have half : (b.toNat + 2 * natOfBits bits) / 2 = natOfBits bits := by omega
      rw [step, Nat.testBit_succ, half, ih, List.getD_cons_succ]

/-- A word made of a list of bits shows each of them in its place. -/
theorem getLsbD_ofNat_natOfBits {w : Nat} {bits : List Bool} {k : Nat} (h : k < w) :
    (BitVec.ofNat w (natOfBits bits)).getLsbD k = bits.getD k false := by
  rw [BitVec.getLsbD_ofNat, testBit_natOfBits, decide_eq_true h, Bool.true_and]

theorem flags_getLsbD {k : Nat} (h : k < 9) (s : State) : s.flags.getLsbD k = s.flagList.getD k false :=
  getLsbD_ofNat_natOfBits h

theorem statusByte_getLsbD {k : Nat} (h : k < 8) (s : State) :
    s.statusByte.getLsbD k =
      [s.cp.response.isSome, s.cp.state == .processing, s.cp.collision, s.attnLow, s.ss.site != .running,
        s.su.link == .offline, true, false].getD k false :=
  getLsbD_ofNat_natOfBits h

theorem ne_zero_iff_getLsbD {w : Nat} {x : BitVec w} : x ≠ 0#w ↔ ∃ k, k < w ∧ x.getLsbD k = true := by
  constructor
  · intro ne
    by_contra none
    exact ne (BitVec.eq_of_getLsbD_eq fun k lt => by
      rw [BitVec.getLsbD_zero, ← Bool.not_eq_true]
      exact fun set => none ⟨k, lt, set⟩)
  · rintro ⟨k, -, set⟩ rfl
    rw [BitVec.getLsbD_zero] at set
    exact absurd set (by decide)

theorem attnLow_iff (s : State) :
    s.attnLow = true ↔ ∃ k, k < 9 ∧ s.flags.getLsbD k = true ∧ s.au.mask.getLsbD k = true := by
  rw [State.attnLow, bne_iff_ne]
  simp only [← Bool.and_eq_true, ← BitVec.getLsbD_and]
  exact ne_zero_iff_getLsbD

theorem flag_iff {s : State} {k : Nat} {p : Prop} (h : k < 9) (place : s.flagList.getD k false = true ↔ p) :
    s.flags.getLsbD k = true ↔ p := by
  rwa [flags_getLsbD h]

theorem queue_waits_iff {tags : List Nat} : (!tags.isEmpty) = true ↔ tags ≠ [] := by
  rw [Bool.not_eq_true', List.isEmpty_eq_false_iff]

/-- Settles O9: ATTN by the bits of the flags under the mask, each flag and each bit of the status byte by its place. -/
theorem attnAndStatusByte : Obligations.AttnAndStatusByte := by
  intro s
  have flag {k : Nat} (h : k < 9) := flags_getLsbD h s
  have bit {k : Nat} (h : k < 8) := statusByte_getLsbD h s
  have processing : s.statusByte.getLsbD 1 = true ↔ s.cp.state = .processing := by
    rw [bit (by decide)]
    exact beq_iff_eq
  have stopped : s.statusByte.getLsbD 4 = true ↔ s.ss.site ≠ .running := by
    rw [bit (by decide)]
    exact bne_iff_ne
  have offline : s.statusByte.getLsbD 5 = true ↔ s.su.link = .offline := by
    rw [bit (by decide)]
    exact beq_iff_eq
  exact ⟨attnLow_iff s, flag_iff (by decide) queue_waits_iff, flag_iff (by decide) queue_waits_iff,
    flag_iff (by decide) bne_iff_ne, flag_iff (by decide) bne_iff_ne, flag_iff (by decide) bne_iff_ne, flag (by decide),
    flag (by decide), flag_iff (by decide) bne_iff_ne, flag (by decide), bit (by decide), processing, bit (by decide),
    bit (by decide), stopped, offline, bit (by decide), bit (by decide)⟩

/-! ### EVENT_MASK (R209) -/

theorem doEventMask_eq (mask : Nat) (s : State) :
    doEventMask mask s =
      if mask / 512 = 0 then ({ s with au := { s.au with mask := BitVec.ofNat 9 mask } }, okWith [])
      else (s, refusal .badParam) := by
  have unnamed : mask < 512 ↔ mask / 512 = 0 := by omega
  simp only [doEventMask, unnamed]

/-- Settles O8, command by command; the settings by the clamp, the mask by its bits 9 to 15. -/
theorem settingsAndEvents : Obligations.SettingsAndEvents := by
  refine ⟨fun t s wf takes => ?_, fun s takes => ⟨?_, statusAnswer_length s⟩, fun s takes => exec_taken takes rfl,
    fun mask s wf takes => ?_⟩
  · rw [← clampSettle_eq]
    exact exec_answers takes rfl (doTimersSet_eq wf s)
  · have sent : doStatusRead s = (s, okWith (statusAnswer s)) := rfl
    rw [exec_answers takes rfl sent, statusAnswer, grants_length]
    cases s.ss.site <;> cases s.ss.estop <;> cases s.su.link <;> cases s.su.date <;> rfl
  · rw [exec_taken takes rfl, doEventMask_eq]
    split <;> rfl

end Sys2Proof.Machine
end

section
/-! PROOFS. The step: the command at the front of the queue, and the tick of 100 ms (00_scope, Timers) with what it
counts, queues and leaves. -/

namespace Sys2Proof.Machine

/-! ### Entries that are changed one after another -/

/-- Where each turn changes its own entry alone, and in the same way, a fold that takes each entry at most once changes
exactly the entries it takes. -/
theorem foldl_entry_once {ι β : Type} [DecidableEq ι] (entry : State → ι → β) {g : β → β} {f : State → ι → State}
    (turn : ∀ s i k, entry (f s i) k = if k = i then g (entry s i) else entry s k) {xs : List ι} (once : xs.Nodup)
    (s : State) (k : ι) : entry (xs.foldl f s) k = if k ∈ xs then g (entry s k) else entry s k := by
  induction xs generalizing s with
  | nil => rfl
  | cons x rest ih =>
    obtain ⟨fresh, once⟩ := List.nodup_cons.mp once
    rw [List.foldl_cons, ih once, turn]
    by_cases e : k = x
    · subst e; simp [fresh]
    · simp [e]

/-- A fold that takes every entry of a table changes each entry. -/
theorem foldl_finRange_entry {n : Nat} {β : Type} (entry : State → Fin n → β) {g : β → β} {f : State → Fin n → State}
    (turn : ∀ s i k, entry (f s i) k = if k = i then g (entry s i) else entry s k) (s : State) (k : Fin n) :
    entry ((List.finRange n).foldl f s) k = g (entry s k) :=
  (foldl_entry_once entry turn (List.nodup_finRange n) s k).trans (if_pos (List.mem_finRange k))

/-! ### The timers that a tick counts -/

/-- The point's no-flow timer counted. -/
def Point.tick (x : Point) : Point := { x with noFlow := x.noFlow.tick }

/-- The line's start and run-on timers counted. -/
def Line.tick (x : Line) : Line := { x with startTimer := x.startTimer.tick, runOnTimer := x.runOnTimer.tick }

/-- The probe's hold timer counted. -/
def Probe.tick (x : Probe) : Probe := { x with hold := x.hold.tick }

theorem tickLine_line (s : State) (l k : Fin 4) :
    (tickLine s l).line k = if k = l then (s.line l).tick else s.line k :=
  setLine_line ..

theorem tickLine_probe (s : State) (l k : Fin 4) :
    (tickLine s l).probe k = if k = l then (s.probe l).tick else s.probe k :=
  setProbe_probe ..

/-- The tick's three passes: the slots, the points, and the lines with their probes. -/
theorem tickTimers_eq (s : State) :
    tickTimers s =
      allLines.foldl tickLine
        (allPoints.foldl (fun s p => s.setPoint p (s.point p).tick)
          (allSlots.foldl (fun s i => s.modGrant i (·.tick)) s)) :=
  rfl

theorem tickSlots_unchanged {β : Type} (view : State → β) (s : State)
    (slot : ∀ s i f, view (s.modGrant i f) = view s := by intros; rfl) :
    view (allSlots.foldl (fun s i => s.modGrant i (·.tick)) s) = view s :=
  foldl_unchanged view (fun s i => slot s i _) allSlots s

theorem tickPoints_unchanged {β : Type} (view : State → β) (s : State)
    (point : ∀ s p x, view (s.setPoint p x) = view s := by intros; rfl) :
    view (allPoints.foldl (fun s p => s.setPoint p (s.point p).tick) s) = view s :=
  foldl_unchanged view (fun s p => point s p _) allPoints s

theorem tickLines_unchanged {β : Type} (view : State → β) (s : State)
    (line : ∀ s l x y, view ((s.setLine l x).setProbe l y) = view s := by intros; rfl) :
    view (allLines.foldl tickLine s) = view s :=
  foldl_unchanged view (fun s l => line s l _ _) allLines s

theorem tickTimers_grantAt (s : State) (i : Fin 24) : (tickTimers s).grantAt i = (s.grantAt i).map (·.tick) := by
  rw [tickTimers_eq, tickLines_unchanged (·.grantAt i), tickPoints_unchanged (·.grantAt i)]
  exact foldl_finRange_entry State.grantAt (fun s j k => setSlot_grantAt s j k _) s i

theorem tickTimers_point (s : State) (p : Fin 32) : (tickTimers s).point p = (s.point p).tick := by
  rw [tickTimers_eq, tickLines_unchanged (·.point p)]
  exact (foldl_finRange_entry State.point (fun s q k => setPoint_point s q k _) _ p).trans
    (congrArg Point.tick (tickSlots_unchanged (·.point p) s))

theorem tickTimers_line (s : State) (l : Fin 4) : (tickTimers s).line l = (s.line l).tick := by
  rw [tickTimers_eq, allLines, foldl_finRange_entry State.line tickLine_line, tickPoints_unchanged (·.line l),
    tickSlots_unchanged (·.line l)]

theorem tickTimers_probe (s : State) (l : Fin 4) : (tickTimers s).probe l = (s.probe l).tick := by
  rw [tickTimers_eq, allLines, foldl_finRange_entry State.probe tickLine_probe, tickPoints_unchanged (·.probe l),
    tickSlots_unchanged (·.probe l)]

/-! ### The tick -/

/-- What does not hang on the queue or on the count of free choices is after the tick as counting the timers leaves it. -/
theorem tick_view {β : Type} (view : State → β) (s : State)
    (queue : ∀ s n q, view { s with draws := n, pending := q } = view s := by intros; rfl) :
    view (tick s) = view (tickTimers s) :=
  queue (tickTimers s) _ _

/-- What no write to a slot, a point, a line, a probe or the queue changes, the tick does not change. -/
theorem tick_unchanged {β : Type} (view : State → β) (s : State)
    (slot : ∀ s i f, view (s.modGrant i f) = view s := by intros; rfl)
    (point : ∀ s p x, view (s.setPoint p x) = view s := by intros; rfl)
    (line : ∀ s l x y, view ((s.setLine l x).setProbe l y) = view s := by intros; rfl)
    (queue : ∀ s n q, view { s with draws := n, pending := q } = view s := by intros; rfl) : view (tick s) = view s := by
  rw [tick_view view s queue, tickTimers_eq, tickLines_unchanged view _ line, tickPoints_unchanged view _ point,
    tickSlots_unchanged view s slot]

theorem tick_grantAt (s : State) (i : Fin 24) : (tick s).grantAt i = (s.grantAt i).map (·.tick) :=
  (tick_view (·.grantAt i) s).trans (tickTimers_grantAt s i)

theorem tick_point (s : State) (p : Fin 32) : (tick s).point p = (s.point p).tick :=
  (tick_view (·.point p) s).trans (tickTimers_point s p)

theorem tick_line (s : State) (l : Fin 4) : (tick s).line l = (s.line l).tick :=
  (tick_view (·.line l) s).trans (tickTimers_line s l)

theorem tick_probe (s : State) (l : Fin 4) : (tick s).probe l = (s.probe l).tick :=
  (tick_view (·.probe l) s).trans (tickTimers_probe s l)

/-! ### The expiries that a tick queues -/

/-- A tick completes a timer's interval when at most one period of it is left. -/
theorem dueAtTick_eq (x : Timer) : x.dueAtTick = (x == .running 0 || x == .running 1) := by
  rw [Bool.eq_iff_iff]
  cases x with
  | stopped => simp [Timer.dueAtTick]
  | unlimited => simp [Timer.dueAtTick]
  | running n =>
    simp only [Timer.dueAtTick, decide_eq_true_eq, Bool.or_eq_true, beq_iff_eq, Timer.running.injEq]
    omega

/-- The no-flow expiries, as the points whose timer ends. -/
theorem filterMap_noFlow (s : State) (ps : List (Fin 32)) :
    (ps.filterMap fun p => if (s.point p).noFlow.dueAtTick then some (Instr.noFlowTimerExpiry p) else none)
      = (ps.filter fun p => (s.point p).noFlow.dueAtTick).map (.noFlowTimerExpiry ·) := by
  induction ps with
  | nil => rfl
  | cons p rest ih => cases due : (s.point p).noFlow.dueAtTick <;> simp [due, ih]

theorem tick_pending {s : State} (idle : s.pending = []) : (tick s).pending.Perm s.due := by
  change (s.pending ++ arrange s.draws s.due).Perm s.due
  rw [idle, List.nil_append]
  exact arrange_perm ..

theorem tick_draws (s : State) : (tick s).draws = if s.due = [] then s.draws else s.draws + 1 := by
  simp only [tick, List.isEmpty_iff]

/-! ### The step -/

theorem step_of_idle {s : State} (idle : s.pending = []) : step s = .next (tick s) := by
  rw [step, idle]

/-- Settles O1, from the definition of the step. -/
theorem stepTakesFrontCommand : Obligations.StepTakesFrontCommand := fun _ _ _ => rfl

/-- Settles O2: the timers table by table, the rest as what no write to a table entry changes, and the queue as an order
of the expiries due. -/
theorem emptyQueueCountsOnePeriod : Obligations.EmptyQueueCountsOnePeriod := by
  intro s idle counted ending expiries
  have counts : counted = Timer.tick := funext fun x => by cases x <;> rfl
  have ends : ending = Timer.dueAtTick := funext fun x => (dueAtTick_eq x).symm
  have due : expiries = s.due := by
    simp only [expiries, ends, State.due, filterMap_noFlow]
    rfl
  rw [counts, due]
  exact ⟨tick s, step_of_idle idle, tick_point s, tick_line s, tick_probe s, tick_grantAt s,
    tick_unchanged (·.gm.pendingTags) s, tick_unchanged (·.gm.settledTags) s, tick_unchanged (·.gm.tagCounter) s,
    tick_unchanged (·.tu.converting) s, tick_unchanged (·.tu.lastServed) s, tick_unchanged (·.su) s,
    tick_unchanged (·.ss) s, tick_unchanged (·.ibi) s, tick_unchanged (·.cp) s, tick_unchanged (·.au) s,
    tick_unchanged (·.pins) s, tick_pending idle, tick_draws s⟩

end Sys2Proof.Machine
end
